-- ==== Sys2Proof/Word.lean ====
section
/-! DEFINITION. Word.lean: bytes and codes, the names that number the part's like things (lines, level channels,
lockout indices, tanks, causes, permits, store sections), and for each such name a record with one field per name.
The records stand for the manual's tables "per line", "per tank" and so on. -/

namespace Sys2Proof

/-- One byte of the serial line (R147). -/
abbrev Byte := BitVec 8

/-- The 12-bit code of an analog sample (spec/01, "Analog channels"). -/
abbrev Code := BitVec 12

/-- The discrete lines D0 to D11 (spec/00, "Discrete lines"). -/
inductive Line where
  | d0 | d1 | d2 | d3 | d4 | d5 | d6 | d7 | d8 | d9 | d10 | d11
  deriving DecidableEq, Repr

/-- Every Line, in the order of their numbers. -/
def Line.all : List Line :=
  [.d0, .d1, .d2, .d3, .d4, .d5, .d6, .d7, .d8, .d9, .d10, .d11]

/-- One value per discrete line. -/
structure PerLine (α : Type) where
  d0 : α
  d1 : α
  d2 : α
  d3 : α
  d4 : α
  d5 : α
  d6 : α
  d7 : α
  d8 : α
  d9 : α
  d10 : α
  d11 : α
  deriving DecidableEq, Repr

/-- The field of one Line. -/
def PerLine.get {α : Type} (p : PerLine α) : Line → α
  | .d0 => p.d0
  | .d1 => p.d1
  | .d2 => p.d2
  | .d3 => p.d3
  | .d4 => p.d4
  | .d5 => p.d5
  | .d6 => p.d6
  | .d7 => p.d7
  | .d8 => p.d8
  | .d9 => p.d9
  | .d10 => p.d10
  | .d11 => p.d11

/-- The record with one field replaced. -/
def PerLine.set {α : Type} (p : PerLine α) (i : Line) (x : α) : PerLine α :=
  match i with
  | .d0 => { p with d0 := x }
  | .d1 => { p with d1 := x }
  | .d2 => { p with d2 := x }
  | .d3 => { p with d3 := x }
  | .d4 => { p with d4 := x }
  | .d5 => { p with d5 := x }
  | .d6 => { p with d6 := x }
  | .d7 => { p with d7 := x }
  | .d8 => { p with d8 := x }
  | .d9 => { p with d9 := x }
  | .d10 => { p with d10 := x }
  | .d11 => { p with d11 := x }

/-- The record whose field of i is f i. -/
def PerLine.ofFn {α : Type} (f : Line → α) : PerLine α :=
  { d0 := f .d0, d1 := f .d1, d2 := f .d2, d3 := f .d3, d4 := f .d4, d5 := f .d5, d6 := f .d6, d7 := f .d7, d8 := f .d8, d9 := f .d9, d10 := f .d10, d11 := f .d11 }

/-- The record with the same value in every field. -/
def PerLine.const {α : Type} (x : α) : PerLine α :=
  PerLine.ofFn fun _ => x

/-- The level channels A3 to A7 (R3). -/
inductive LevelIx where
  | a3 | a4 | a5 | a6 | a7
  deriving DecidableEq, Repr

/-- Every LevelIx, in the order of their numbers. -/
def LevelIx.all : List LevelIx :=
  [.a3, .a4, .a5, .a6, .a7]

/-- One value per level channel. -/
structure PerLevel (α : Type) where
  a3 : α
  a4 : α
  a5 : α
  a6 : α
  a7 : α
  deriving DecidableEq, Repr

/-- The field of one LevelIx. -/
def PerLevel.get {α : Type} (p : PerLevel α) : LevelIx → α
  | .a3 => p.a3
  | .a4 => p.a4
  | .a5 => p.a5
  | .a6 => p.a6
  | .a7 => p.a7

/-- The record with one field replaced. -/
def PerLevel.set {α : Type} (p : PerLevel α) (i : LevelIx) (x : α) : PerLevel α :=
  match i with
  | .a3 => { p with a3 := x }
  | .a4 => { p with a4 := x }
  | .a5 => { p with a5 := x }
  | .a6 => { p with a6 := x }
  | .a7 => { p with a7 := x }

/-- The record whose field of i is f i. -/
def PerLevel.ofFn {α : Type} (f : LevelIx → α) : PerLevel α :=
  { a3 := f .a3, a4 := f .a4, a5 := f .a5, a6 := f .a6, a7 := f .a7 }

/-- The record with the same value in every field. -/
def PerLevel.const {α : Type} (x : α) : PerLevel α :=
  PerLevel.ofFn fun _ => x

/-- The indices 0 to 15 of the lockout table (R29). -/
inductive EntryIx where
  | e0 | e1 | e2 | e3 | e4 | e5 | e6 | e7 | e8 | e9 | e10 | e11 | e12 | e13 | e14 | e15
  deriving DecidableEq, Repr

/-- Every EntryIx, in the order of their numbers. -/
def EntryIx.all : List EntryIx :=
  [.e0, .e1, .e2, .e3, .e4, .e5, .e6, .e7, .e8, .e9, .e10, .e11, .e12, .e13, .e14, .e15]

/-- One value per lockout index. -/
structure PerEntry (α : Type) where
  e0 : α
  e1 : α
  e2 : α
  e3 : α
  e4 : α
  e5 : α
  e6 : α
  e7 : α
  e8 : α
  e9 : α
  e10 : α
  e11 : α
  e12 : α
  e13 : α
  e14 : α
  e15 : α
  deriving DecidableEq, Repr

/-- The field of one EntryIx. -/
def PerEntry.get {α : Type} (p : PerEntry α) : EntryIx → α
  | .e0 => p.e0
  | .e1 => p.e1
  | .e2 => p.e2
  | .e3 => p.e3
  | .e4 => p.e4
  | .e5 => p.e5
  | .e6 => p.e6
  | .e7 => p.e7
  | .e8 => p.e8
  | .e9 => p.e9
  | .e10 => p.e10
  | .e11 => p.e11
  | .e12 => p.e12
  | .e13 => p.e13
  | .e14 => p.e14
  | .e15 => p.e15

/-- The record with one field replaced. -/
def PerEntry.set {α : Type} (p : PerEntry α) (i : EntryIx) (x : α) : PerEntry α :=
  match i with
  | .e0 => { p with e0 := x }
  | .e1 => { p with e1 := x }
  | .e2 => { p with e2 := x }
  | .e3 => { p with e3 := x }
  | .e4 => { p with e4 := x }
  | .e5 => { p with e5 := x }
  | .e6 => { p with e6 := x }
  | .e7 => { p with e7 := x }
  | .e8 => { p with e8 := x }
  | .e9 => { p with e9 := x }
  | .e10 => { p with e10 := x }
  | .e11 => { p with e11 := x }
  | .e12 => { p with e12 := x }
  | .e13 => { p with e13 := x }
  | .e14 => { p with e14 := x }
  | .e15 => { p with e15 := x }

/-- The record whose field of i is f i. -/
def PerEntry.ofFn {α : Type} (f : EntryIx → α) : PerEntry α :=
  { e0 := f .e0, e1 := f .e1, e2 := f .e2, e3 := f .e3, e4 := f .e4, e5 := f .e5, e6 := f .e6, e7 := f .e7, e8 := f .e8, e9 := f .e9, e10 := f .e10, e11 := f .e11, e12 := f .e12, e13 := f .e13, e14 := f .e14, e15 := f .e15 }

/-- The record with the same value in every field. -/
def PerEntry.const {α : Type} (x : α) : PerEntry α :=
  PerEntry.ofFn fun _ => x

/-- The tanks 0 to 2 (R116). -/
inductive TankIx where
  | t0 | t1 | t2
  deriving DecidableEq, Repr

/-- Every TankIx, in the order of their numbers. -/
def TankIx.all : List TankIx :=
  [.t0, .t1, .t2]

/-- One value per tank. -/
structure PerTank (α : Type) where
  t0 : α
  t1 : α
  t2 : α
  deriving DecidableEq, Repr

/-- The field of one TankIx. -/
def PerTank.get {α : Type} (p : PerTank α) : TankIx → α
  | .t0 => p.t0
  | .t1 => p.t1
  | .t2 => p.t2

/-- The record with one field replaced. -/
def PerTank.set {α : Type} (p : PerTank α) (i : TankIx) (x : α) : PerTank α :=
  match i with
  | .t0 => { p with t0 := x }
  | .t1 => { p with t1 := x }
  | .t2 => { p with t2 := x }

/-- The record whose field of i is f i. -/
def PerTank.ofFn {α : Type} (f : TankIx → α) : PerTank α :=
  { t0 := f .t0, t1 := f .t1, t2 := f .t2 }

/-- The record with the same value in every field. -/
def PerTank.const {α : Type} (x : α) : PerTank α :=
  PerTank.ofFn fun _ => x

/-- The protection causes, in the order of their codes (R96, R155). -/
inductive Cause where
  | cavitation | primeLost | overheatCut | overpressure | tankEmpty | pressureSensor
  deriving DecidableEq, Repr

/-- Every Cause, in the order of their numbers. -/
def Cause.all : List Cause :=
  [.cavitation, .primeLost, .overheatCut, .overpressure, .tankEmpty, .pressureSensor]

/-- One value per protection cause. -/
structure PerCause (α : Type) where
  cavitation : α
  primeLost : α
  overheatCut : α
  overpressure : α
  tankEmpty : α
  pressureSensor : α
  deriving DecidableEq, Repr

/-- The field of one Cause. -/
def PerCause.get {α : Type} (p : PerCause α) : Cause → α
  | .cavitation => p.cavitation
  | .primeLost => p.primeLost
  | .overheatCut => p.overheatCut
  | .overpressure => p.overpressure
  | .tankEmpty => p.tankEmpty
  | .pressureSensor => p.pressureSensor

/-- The record with one field replaced. -/
def PerCause.set {α : Type} (p : PerCause α) (i : Cause) (x : α) : PerCause α :=
  match i with
  | .cavitation => { p with cavitation := x }
  | .primeLost => { p with primeLost := x }
  | .overheatCut => { p with overheatCut := x }
  | .overpressure => { p with overpressure := x }
  | .tankEmpty => { p with tankEmpty := x }
  | .pressureSensor => { p with pressureSensor := x }

/-- The record whose field of i is f i. -/
def PerCause.ofFn {α : Type} (f : Cause → α) : PerCause α :=
  { cavitation := f .cavitation, primeLost := f .primeLost, overheatCut := f .overheatCut, overpressure := f .overpressure, tankEmpty := f .tankEmpty, pressureSensor := f .pressureSensor }

/-- The record with the same value in every field. -/
def PerCause.const {α : Type} (x : α) : PerCause α :=
  PerCause.ofFn fun _ => x

/-- The four permits, in the order of their codes (R21, R155). -/
inductive Permit where
  | drive | engage | throttle | fill
  deriving DecidableEq, Repr

/-- Every Permit, in the order of their numbers. -/
def Permit.all : List Permit :=
  [.drive, .engage, .throttle, .fill]

/-- One value per permit. -/
structure PerPermit (α : Type) where
  drive : α
  engage : α
  throttle : α
  fill : α
  deriving DecidableEq, Repr

/-- The field of one Permit. -/
def PerPermit.get {α : Type} (p : PerPermit α) : Permit → α
  | .drive => p.drive
  | .engage => p.engage
  | .throttle => p.throttle
  | .fill => p.fill

/-- The record with one field replaced. -/
def PerPermit.set {α : Type} (p : PerPermit α) (i : Permit) (x : α) : PerPermit α :=
  match i with
  | .drive => { p with drive := x }
  | .engage => { p with engage := x }
  | .throttle => { p with throttle := x }
  | .fill => { p with fill := x }

/-- The record whose field of i is f i. -/
def PerPermit.ofFn {α : Type} (f : Permit → α) : PerPermit α :=
  { drive := f .drive, engage := f .engage, throttle := f .throttle, fill := f .fill }

/-- The record with the same value in every field. -/
def PerPermit.const {α : Type} (x : α) : PerPermit α :=
  PerPermit.ofFn fun _ => x

/-- The sections of the configuration store, in address order (R165). -/
inductive Section where
  | header | governor | sequencer | inputs | interlock | tank0 | tank1 | tank2 | reports
  deriving DecidableEq, Repr

/-- Every Section, in the order of their numbers. -/
def Section.all : List Section :=
  [.header, .governor, .sequencer, .inputs, .interlock, .tank0, .tank1, .tank2, .reports]

/-- One value per store section. -/
structure PerSection (α : Type) where
  header : α
  governor : α
  sequencer : α
  inputs : α
  interlock : α
  tank0 : α
  tank1 : α
  tank2 : α
  reports : α
  deriving DecidableEq, Repr

/-- The field of one Section. -/
def PerSection.get {α : Type} (p : PerSection α) : Section → α
  | .header => p.header
  | .governor => p.governor
  | .sequencer => p.sequencer
  | .inputs => p.inputs
  | .interlock => p.interlock
  | .tank0 => p.tank0
  | .tank1 => p.tank1
  | .tank2 => p.tank2
  | .reports => p.reports

/-- The record with one field replaced. -/
def PerSection.set {α : Type} (p : PerSection α) (i : Section) (x : α) : PerSection α :=
  match i with
  | .header => { p with header := x }
  | .governor => { p with governor := x }
  | .sequencer => { p with sequencer := x }
  | .inputs => { p with inputs := x }
  | .interlock => { p with interlock := x }
  | .tank0 => { p with tank0 := x }
  | .tank1 => { p with tank1 := x }
  | .tank2 => { p with tank2 := x }
  | .reports => { p with reports := x }

/-- The record whose field of i is f i. -/
def PerSection.ofFn {α : Type} (f : Section → α) : PerSection α :=
  { header := f .header, governor := f .governor, sequencer := f .sequencer, inputs := f .inputs, interlock := f .interlock, tank0 := f .tank0, tank1 := f .tank1, tank2 := f .tank2, reports := f .reports }

/-- The record with the same value in every field. -/
def PerSection.const {α : Type} (x : α) : PerSection α :=
  PerSection.ofFn fun _ => x

/-- The pulse inputs (R7): tachometer, road speed, discharge meter, fill meter. -/
inductive PulseInput where
  | f0 | f1 | f2 | f3
  deriving DecidableEq, Repr

/-- Every PulseInput, in the order of their numbers. -/
def PulseInput.all : List PulseInput :=
  [.f0, .f1, .f2, .f3]

/-- One value per pulse input. -/
structure PerPulse (α : Type) where
  f0 : α
  f1 : α
  f2 : α
  f3 : α
  deriving DecidableEq, Repr

/-- The field of one PulseInput. -/
def PerPulse.get {α : Type} (p : PerPulse α) : PulseInput → α
  | .f0 => p.f0
  | .f1 => p.f1
  | .f2 => p.f2
  | .f3 => p.f3

/-- The record with one field replaced. -/
def PerPulse.set {α : Type} (p : PerPulse α) (i : PulseInput) (x : α) : PerPulse α :=
  match i with
  | .f0 => { p with f0 := x }
  | .f1 => { p with f1 := x }
  | .f2 => { p with f2 := x }
  | .f3 => { p with f3 := x }

/-- The record whose field of i is f i. -/
def PerPulse.ofFn {α : Type} (f : PulseInput → α) : PerPulse α :=
  { f0 := f .f0, f1 := f .f1, f2 := f .f2, f3 := f .f3 }

/-- The record with the same value in every field. -/
def PerPulse.const {α : Type} (x : α) : PerPulse α :=
  PerPulse.ofFn fun _ => x

/-- The flow meters F2 (discharge) and F3 (fill) (R10, R11). -/
inductive Meter where
  | dis | fill
  deriving DecidableEq, Repr

/-- Every Meter, in the order of their numbers. -/
def Meter.all : List Meter :=
  [.dis, .fill]

/-- One value per flow meter. -/
structure PerMeter (α : Type) where
  dis : α
  fill : α
  deriving DecidableEq, Repr

/-- The field of one Meter. -/
def PerMeter.get {α : Type} (p : PerMeter α) : Meter → α
  | .dis => p.dis
  | .fill => p.fill

/-- The record with one field replaced. -/
def PerMeter.set {α : Type} (p : PerMeter α) (i : Meter) (x : α) : PerMeter α :=
  match i with
  | .dis => { p with dis := x }
  | .fill => { p with fill := x }

/-- The record whose field of i is f i. -/
def PerMeter.ofFn {α : Type} (f : Meter → α) : PerMeter α :=
  { dis := f .dis, fill := f .fill }

/-- The record with the same value in every field. -/
def PerMeter.const {α : Type} (x : α) : PerMeter α :=
  PerMeter.ofFn fun _ => x

/-- The link mode that the strap pin selects at start-up (R147). -/
inductive LinkMode where
  | fourWire | twoWire
  deriving DecidableEq, Repr

/-- What one word of the configuration store physically holds (R165): the data of the code word it is nearest to by
writing, and which of its 39 bits (32 data, 7 check) are wrong. The code itself is not given by the spec, so it is
not modelled bit by bit. DESIGN CHOICE, notes/assumptions/9. -/
structure StoreWord where
  data : BitVec 32
  flips : BitVec 39
  deriving DecidableEq, Repr

end Sys2Proof
end

