-- ==== Sys2Proof/Syntax.lean ====
section
/-! DEFINITION. Syntax.lean: the commands of the part, one constructor per row of spec/opcode_table.json.

A request row is the event at which a whole frame of that kind, with a good check, has been received (R148, R150); it
carries the frame's tag and payload, of any length, so that frames with a wrong payload length are forms of the row
too. DESIGN CHOICE, notes/assumptions/1. -/

namespace Sys2Proof

/-- The commands of the Havrel 7420: the requests of the host and the events of the apparatus, the line, the store
and the part's own timers. -/
inductive Instr where
  -- start-up (R172): `found` lists the store words that hold something else than was last written (R171)
  | powerOn (found : List (Nat × StoreWord))
  | resetLine (found : List (Nat × StoreWord))
  /-- WRITE_BACK_WORD_DONE (R166): `found` is what the word holds if it did not take the corrected word. -/
  | writeBackWordDone (found : Option StoreWord)
  -- measurement events (R2, R7, R12)
  | pressureSample (c0 c1 : Code)
  | temperatureSample (c2 : Code)
  | levelSample (ch : LevelIx) (c : Code)
  | engineSpeedGateEnd
  | roadSpeedGateEnd
  | flowGateEnd (m : Meter)
  /-- LINE_SAMPLE (R12): bit k is the raw level of Dk. -/
  | lineSample (raw : BitVec 12)
  | rollOverspeedExpiry
  | lockoutDelayExpiry (i : EntryIx)
  -- requests
  | status (tag : Byte) (payload : List Byte)
  | fetch (tag : Byte) (payload : List Byte)
  | gate (tag : Byte) (payload : List Byte)
  | inputs (tag : Byte) (payload : List Byte)
  | lockoutSet (tag : Byte) (payload : List Byte)
  | lockoutGet (tag : Byte) (payload : List Byte)
  | latchClear (tag : Byte) (payload : List Byte)
  | silence (tag : Byte) (payload : List Byte)
  | engage (tag : Byte) (payload : List Byte)
  | confirm (tag : Byte) (payload : List Byte)
  | disengage (tag : Byte) (payload : List Byte)
  -- windows and waits of the sequencer (R43)
  | shiftWindowExpiry
  | rangeWindowExpiry
  | clutchWindowExpiry
  | confirmWindowExpiry
  | idleDownWindowExpiry
  | neutralWaitExpiry
  | releaseWindowExpiry
  | govern (tag : Byte) (payload : List Byte)
  | nudge (tag : Byte) (payload : List Byte)
  | resume (tag : Byte) (payload : List Byte)
  | prime (tag : Byte) (payload : List Byte)
  | govRead (tag : Byte) (payload : List Byte)
  | governorUpdate
  | primeTimeExpiry
  | tankUpdate (t : TankIx)
  | settleTimerExpiry (t : TankIx)
  | tankSet (tag : Byte) (payload : List Byte)
  | tankTable (tag : Byte) (payload : List Byte)
  | tankRead (tag : Byte) (payload : List Byte)
  | source (tag : Byte) (payload : List Byte)
  | changeoverWindowExpiry
  | fill (tag : Byte) (payload : List Byte)
  | riseTimerExpiry
  | paramSet (tag : Byte) (payload : List Byte)
  | paramGet (tag : Byte) (payload : List Byte)
  | commit (tag : Byte) (payload : List Byte)
  /-- COMMIT_WORD_DONE (R170): `found` is what the word holds if it did not take the word written. -/
  | commitWordDone (found : Option StoreWord)
  | restart (tag : Byte) (payload : List Byte)
  | unknownKindFrame (kind tag : Byte) (payload : List Byte)
  /-- FRAME_DISCARDED (R148): `closing` is the byte that makes the frame's length or check bad. -/
  | frameDiscarded (closing : Byte)
  | frameGapTimeout
  | transmitFrameEnd
  | byteArrival (b : Byte)
  | pulseArrival (p : PulseInput)
  deriving DecidableEq, Repr

end Sys2Proof
end

