-- ==== Sys2Proof/Decode.lean ====
section
/-! DEFINITION. Decode.lean: the command that a word of the table's bits spells. No row of spec/opcode_table.json gives
bits (the part has no instruction words: its commands are events and frames), so no word spells a command. The frames
of the serial line are read in Machine/Link.lean. -/

namespace Sys2Proof

/-- The command a table word spells: none, since no row of the table has bits. -/
def decodeTableWord (nbits w : Nat) : Option Instr :=
  match nbits, w with
  | _, _ => none

end Sys2Proof
end

