-- ==== Sys2Proof/Config.lean ====
section
/-! DEFINITION. Config.lean: what the spec leaves open and no run can pin down. -/

namespace Sys2Proof

/-- What the store makes of a word at start-up (R166): used as it stands, used corrected, or uncorrectable. -/
inductive WordVerdict where
  | good (data : BitVec 32)
  | corrected (data : BitVec 32)
  | uncorrectable
  deriving DecidableEq, Repr, Inhabited

/-- FREE VALUE. What the store makes of a word with three or more wrong bits. R165 gives a code that corrects any
single wrong bit and detects any two, and says nothing of three; no number is chosen here.
UNVERIFIED, safe: notes/assumptions/9. -/
opaque Config.manyWrongBits : StoreWord → WordVerdict

/-- FREE VALUE. The two bytes that GOV_READ shows for the saved context's target while there is no saved context. R77
gives a mark for an absent mode and none for an absent target; no number is chosen here.
DESIGN CHOICE, safe: notes/assumptions/38. -/
opaque Config.absentSavedTarget : BitVec 16

/-- FREE VALUE. The four bytes that TANK_READ shows for so many metered litres where the number does not fit them (R129,
R133). The rules bound neither the metered outflow nor the inflow, and a small calibration can bring more than
4294967295 L; no number is chosen here. DESIGN CHOICE, safe: notes/assumptions/43. -/
opaque Config.wideLitres : Nat → BitVec 32

end Sys2Proof
end

