-- ==== Sys2Proof/Machine/Types.lean ====
section
/-! DEFINITION. Types.lean: the manual's enumerations and the records that the blocks of the part own. -/

namespace Sys2Proof.Machine

/-- R18. -/
inductive AppMode where
  | road | transfer | stationaryPump | pumpAndRoll | faultHold | start
  deriving DecidableEq, Repr

/-- R42. -/
inductive SeqState where
  | idle | shifting | awaitRange | clutching | awaitConfirm | engaged | held | idlingDown | releasing
  deriving DecidableEq, Repr

/-- R42. -/
inductive DrivePath where
  | none | split | clutch
  deriving DecidableEq, Repr

/-- R42: why a release is under way or the drive is held. -/
inductive SeqReason where
  | disengage | timeout | motion | feedback
  deriving DecidableEq, Repr

/-- What the step timer times (R43, R62). -/
inductive StepWindow where
  | shift | range | clutch | confirm | idleDown | neutral | release
  deriving DecidableEq, Repr

/-- The faults of SEQUENCE FAULT reports, in the order of R44. -/
inductive SeqFault where
  | shiftTimeout | rangeTimeout | clutchTimeout | confirmLapsed | motion | feedbackDropped | engineNotIdle
  | awaitNeutral | releaseTimeout
  deriving DecidableEq, Repr

/-- R67. -/
inductive GovMode where
  | off | idle | pressure | rpm | limit
  deriving DecidableEq, Repr

/-- R139. -/
inductive WaterSource where
  | tank | intake | draft
  deriving DecidableEq, Repr

/-- R116. -/
inductive TankRole where
  | mainWater | auxWater | concentrate | unused
  deriving DecidableEq, Repr

/-- R131. -/
inductive TankState where
  | unconfigured | sensed | travel | settling | blind
  deriving DecidableEq, Repr

/-- R118, R123. -/
inductive Band where
  | normal | reserve | empty | full
  deriving DecidableEq, Repr

/-- R118, R131. -/
inductive Basis where
  | sensed | metered | held | none
  deriving DecidableEq, Repr

/-- R4. -/
inductive ChStatus where
  | ok | clamped | fault
  deriving DecidableEq, Repr

/-- R12, R14. -/
inductive LineState where
  | low | high | unsettled
  deriving DecidableEq, Repr

/-- R29: the runtime state of a lockout entry. -/
inductive LockState where
  | clear | pending | tripped | latched
  deriving DecidableEq, Repr

/-- R20. -/
inductive ThrottleMode where
  | none | sole | ceiling
  deriving DecidableEq, Repr

/-- R26. -/
inductive RollState where
  | under | over
  deriving DecidableEq, Repr

/-- The subjects of PROTECTION reports, in the order of R155. -/
inductive ProtSubject where
  | cavitation | primeLost | overheat | overheatCut | overpressure | tankEmpty | pressureSensor | rollOverspeed
  | feedbackLost
  deriving DecidableEq, Repr

/-- The kinds of reports (R155, report record). -/
inductive ReportKind where
  | protection | permit | lockoutTrip | step | fault | band | reconcile | changeover | fillDone | fillFault
  | channel | line | corrected | sectionInvalid | commitDone | commitFault
  deriving DecidableEq, Repr

/-- The report states that the kind's rule names from the common list (R155). -/
inductive ReportState where
  | raised | conditionGone | cleared | primeFailed | reliefOpen | held | withheld | fault | recovered | done
  | noSupply | abandoned | noRise
  deriving DecidableEq, Repr

/-- The names of failing conditions, in the order of their codes (R155). -/
inductive CondName where
  | mode | moving | park | neutral | engine | lockout | feedback | source | permit | tank | full | demand | empty
  | unconfigured | brake | shaft | shifting | splitPath | start
  deriving DecidableEq, Repr

/-- The reasons of a refusal, in the order of their outcome bytes (R151, R155). -/
inductive Reason where
  | malformed | unknownKind | unknownItem | wrongState | notPermitted | conditionPresent | badTable | storeBusy
  deriving DecidableEq, Repr

/-- The answer of an owner to a request (R151): DONE with its flags and the record it returns, or REFUSED with a
reason and the three detail bytes. -/
inductive Answer where
  | done (clamped deferred : Bool) (record : List Byte)
  | refused (reason : Reason) (d1 d2 d3 : Byte)
  deriving DecidableEq, Repr

/-- A running timer: when it was started and how long it runs, in milliseconds of the clock (R43; log 3). -/
structure Timer where
  startedAt : Nat
  length : Nat
  deriving DecidableEq, Repr

/-- The step timer while it runs, with the window it is timing (R42, R43). -/
structure StepTimer where
  window : StepWindow
  timer : Timer
  deriving DecidableEq, Repr

/-! ### The working configuration -/

/-- The condition of a lockout entry, with its operands (R29, R30). `high` is the active level; `empty` says that the
band named is EMPTY and not RESERVE. -/
inductive LockCond where
  | line (l : Line) (high : Bool)
  | roadSpeedAbove (v : Nat)
  | engineAbove (n : Nat)
  | tankBand (t : TankIx) (empty : Bool)
  | pumpTempAbove (t : Nat)
  deriving DecidableEq, Repr

/-- A present lockout entry (R29). Armed modes and effects are sets of bits (R155): bit k of `armed` is apparatus mode
k of ROAD to PUMP_AND_ROLL, the bits of `effects` are DRIVE, ENGAGE, THROTTLE, FILL, HORN. -/
structure LockoutEntry where
  cond : LockCond
  armed : BitVec 4
  effects : BitVec 5
  latching : Bool
  delay : Nat
  deriving DecidableEq, Repr

/-- One pair of a tank table (R116, R157). -/
structure Breakpoint where
  level : Nat
  volume : Nat
  deriving DecidableEq, Repr

/-- The settings of one tank (R116). -/
structure TankSettings where
  role : TankRole
  capacity : Nat
  fore : LevelIx
  aft : Option LevelIx
  outMeter : Bool
  inMeter : Bool
  emptyL : Nat
  reserveL : Nat
  fullL : Nat
  tolerance : Nat
  table : List Breakpoint
  deriving DecidableEq, Repr

/-- The parameters of R168. -/
inductive Param where
  | kpP | kiP | kpN | kiN | rateStep | pSetMax | rpmSetMax | cavThreshold | pLimit | tempCut | tempReliefOn | primeTime
  | shiftWindow | rangeWindow | clutchWindow | confirmWindow | idleDownWindow | releaseWindow
  | ppr | ppk | kDis | kFill | filterCount (l : Line) | reportOnChange (l : Line)
  | idleRpm | rollCeiling | rollCap | settleTime | changeoverWindow
  deriving DecidableEq, Repr

/-- The governor section's parameters (R68, R85, R96). -/
structure GovParams where
  kpP : Nat
  kiP : Nat
  kpN : Nat
  kiN : Nat
  rateStep : Nat
  pSetMax : Nat
  rpmSetMax : Nat
  cavThreshold : Int
  pLimit : Nat
  tempCut : Nat
  tempReliefOn : Nat
  primeTime : Nat
  deriving DecidableEq, Repr

/-- The six windows of the sequencer, in seconds (R43). -/
structure Windows where
  shift : Nat
  range : Nat
  clutch : Nat
  confirm : Nat
  idleDown : Nat
  release : Nat
  deriving DecidableEq, Repr

/-- The inputs section (R8 to R13). -/
structure InputParams where
  ppr : Nat
  ppk : Nat
  kDis : Nat
  kFill : Nat
  filterCount : PerLine Nat
  reportOnChange : PerLine Bool
  deriving DecidableEq, Repr

/-- The working configuration (spec/11): what every block reads, and what PARAM_SET, LOCKOUT_SET, TANK_SET, TANK_TABLE
and GATE change. Bit k of `gates` is the gate of report class k, set for open. -/
structure WorkingConfig where
  gov : GovParams
  windows : Windows
  inputs : InputParams
  idleRpm : Nat
  rollCeiling : Nat
  rollCap : Nat
  entries : PerEntry (Option LockoutEntry)
  tanks : PerTank TankSettings
  settleTime : Nat
  changeoverWindow : Nat
  gates : BitVec 6
  deriving DecidableEq, Repr

/-! ### The records of the blocks -/

/-- One analog channel (R1, R4). `faultCode` is the out-of-range code that completed the channel's last run, 0 while
there has been none since start-up (R16). -/
structure Channel where
  value : Option Int
  status : ChStatus
  outCount : Nat
  inCount : Nat
  faultCode : Nat
  deriving DecidableEq, Repr

/-- A level channel: the channel and its averaging ring, oldest sample first (R5). -/
structure LevelChannel where
  chan : Channel
  ring : List Nat
  deriving DecidableEq, Repr

/-- One discrete line (R12 to R14). `prevRaw` is the raw level of the previous line sample. -/
structure LineFilter where
  state : LineState
  count : Nat
  latch : Bool
  prevRaw : Option Bool
  deriving DecidableEq, Repr

/-- What a flow meter keeps beside its flow (R10, R11). -/
structure MeterRecord where
  flow : Nat
  flowOver : Bool
  total : BitVec 32
  litres : BitVec 32
  remainder : Nat
  deriving DecidableEq, Repr

/-- The input image and the input stage's counts (R1, R7, R16, R17). `gateEnded` says which inputs have ended a gate
since start-up. -/
structure InputImage where
  a0 : Channel
  a1 : Channel
  a2 : Channel
  levels : PerLevel LevelChannel
  lines : PerLine LineFilter
  n : Nat
  v : Nat
  meters : PerMeter MeterRecord
  gateCount : PerPulse Nat
  gateEnded : PerPulse Bool
  complete : Bool
  deriving DecidableEq, Repr

/-- The runtime state and delay timer of a lockout entry (R29). -/
structure LockRun where
  state : LockState
  timer : Option Timer
  deriving DecidableEq, Repr

/-- What the interlock matrix owns (spec/02). `tankHorn` is the horn's tank condition as last judged (R40, R41). -/
structure Matrix where
  mode : AppMode
  locks : PerEntry LockRun
  permits : PerPermit Bool
  cap : Nat
  driveInhibit : Bool
  throttleMode : ThrottleMode
  horn : Bool
  muted : Bool
  tankHorn : Bool
  roll : RollState
  overspeed : Bool
  overspeedTimer : Option Timer
  deriving DecidableEq, Repr

/-- The sequencer record (R42). -/
structure Sequencer where
  state : SeqState
  path : DrivePath
  stepTimer : Option StepTimer
  reason : Option SeqReason
  oShiftPump : Bool
  oShiftRoad : Bool
  oClutch : Bool
  deriving DecidableEq, Repr

/-- The result flags of an update (R66, R92). -/
structure ResultFlags where
  satHigh : Bool
  satLow : Bool
  rate : Bool
  capCut : Bool
  frozen : Bool
  deriving DecidableEq, Repr

/-- One entry of the history ring (R66, R100). -/
structure RingEntry where
  pDis : Option Int
  n : Nat
  pIn : Option Int
  deriving DecidableEq, Repr

/-- What the protection record keeps for one cause (R96). -/
structure CauseRecord where
  active : Bool
  present : Bool
  target : Option Int
  deriving DecidableEq, Repr

/-- The saved operator context (R96). -/
structure SavedContext where
  mode : GovMode
  target : Int
  deriving DecidableEq, Repr

/-- A running primer: its qualifying count and its prime_time timer (R113, R114). -/
structure PrimerRun where
  count : Nat
  timer : Timer
  deriving DecidableEq, Repr

/-- What the governor owns (R66, R96). `demand` is D, D_prev and O_THROTTLE; `capCut` is the cap-cut mark (R93);
`primerElapsed` is the elapsed time of the last primer run, in ms, as it stood when the run ended (log 19). -/
structure Governor where
  opMode : GovMode
  opTarget : Int
  effMode : GovMode
  effTarget : Option Int
  effSetpoint : Option Int
  integrator : Nat
  demand : Nat
  flags : ResultFlags
  capCut : Bool
  ring : List RingEntry
  suspect : Nat
  causes : PerCause CauseRecord
  saved : Option SavedContext
  overRun : Nat
  returnRun : Nat
  primeLossRun : Nat
  primeReturnRun : Nat
  cavClearRun : Nat
  primer : Option PrimerRun
  primerElapsed : Nat
  reliefOpen : Bool
  deriving DecidableEq, Repr

/-- The runtime contents of one tank (R118, R131). -/
structure TankRun where
  state : TankState
  h : Option Nat
  tilt : Option Int
  single : Bool
  tilted : Bool
  sensed : Option Nat
  volume : Option Nat
  basis : Basis
  band : Band
  v0 : Option Nat
  outMark : Option (BitVec 32)
  inMark : Option (BitVec 32)
  settleTimer : Option Timer
  deriving DecidableEq, Repr

/-- A changeover in progress (R139). -/
structure Changeover where
  target : WaterSource
  count : Nat
  window : Timer
  deriving DecidableEq, Repr

/-- A fill in progress (R144). `restarted` is the model's own, for R146: whether a tank update has started the rise
timer afresh since the fill began (log 44). -/
structure Fill where
  target : Nat
  riseReference : Nat
  riseTimer : Timer
  restarted : Bool
  deriving DecidableEq, Repr

/-- The water source record, the valve, the tank-outflow accumulator and the fill record (R132, R139, R144). -/
structure Supply where
  source : WaterSource
  changeover : Option Changeover
  fill : Option Fill
  tankToPump : Bool
  outflow : BitVec 32
  deriving DecidableEq, Repr

/-- One report (R159). -/
structure Report where
  kind : ReportKind
  subject : Byte
  state : Byte
  count : Nat
  values : List Byte
  deriving DecidableEq, Repr

/-- The report queue, oldest first, and its sticky flag QUEUE_OVERFLOWED (R159). -/
structure ReportQueue where
  list : List Report
  overflowed : Bool
  deriving DecidableEq, Repr

/-- A reply in the reply list (R150, R151): kind, tag and payload of its frame. -/
structure Reply where
  kind : Byte
  tag : Byte
  payload : List Byte
  deriving DecidableEq, Repr

/-- The frame the transmitter is sending: whether it is the first reply of the list, and its bytes (R152). -/
structure TxFrame where
  isReply : Bool
  bytes : List Byte
  deriving DecidableEq, Repr

/-- The link port (R147 to R154). `rx` holds the bytes of the frame in progress, its start byte first; it is empty
while the receiver is hunting. `restarting` says that a RESTART has been accepted. -/
structure LinkPort where
  mode : LinkMode
  rx : List Byte
  restarting : Bool
  replies : List Reply
  tx : Option TxFrame
  deriving DecidableEq, Repr

/-- A commit in flight (R170): its number, the address being written, the working configuration as it stood at the
acceptance, and the words that failed so far. -/
structure Commit where
  number : Nat
  next : Nat
  config : WorkingConfig
  failed : List Nat
  deriving DecidableEq, Repr

/-- The configuration store (R165, R166, R170). `cells` lists the words that differ from what an unlisted address reads
as (Machine/StoreWords.lean). -/
structure StoreUnit where
  cells : List (Nat × StoreWord)
  counter : Nat
  invalid : PerSection Bool
  writeBack : List (Nat × BitVec 32)
  commit : Option Commit
  degraded : Bool
  deriving DecidableEq, Repr

end Sys2Proof.Machine
end

