-- ==== Sys2Proof/Machine/Wire.lean ====
section
/-! DEFINITION. Wire.lean: integers to and from bytes, the codes of R155, and the check of R149. -/

namespace Sys2Proof.Machine

/-- "Clamped to [lo, hi]" (spec/00, Arithmetic). -/
def clampInt (lo hi x : Int) : Int := if x < lo then lo else if hi < x then hi else x

/-- Clamped to [lo, hi], for naturals. -/
def clampNat (lo hi x : Nat) : Nat := if x < lo then lo else if hi < x then hi else x

/-- One byte. -/
def u8 (n : Nat) : List Byte := [BitVec.ofNat 8 n]

/-- Two bytes, most significant first (R155). -/
def u16 (n : Nat) : List Byte := [BitVec.ofNat 8 (n / 256), BitVec.ofNat 8 n]

/-- Three bytes, most significant first. -/
def u24 (n : Nat) : List Byte := BitVec.ofNat 8 (n / 65536) :: u16 n

/-- Four bytes, most significant first (R155). -/
def u32 (n : Nat) : List Byte := u16 (n / 65536) ++ u16 n

/-- Two bytes, two's complement (R155). -/
def i16 (x : Int) : List Byte := u16 (x % 65536).toNat

/-- The value of two bytes, most significant first. -/
def readU16 (hi lo : Byte) : Nat := hi.toNat * 256 + lo.toNat

/-- The value of two bytes in two's complement. -/
def readI16 (hi lo : Byte) : Int :=
  if readU16 hi lo < 32768 then (readU16 hi lo : Int) else (readU16 hi lo : Int) - 65536

/-- A signed value, -32768 for absent (R15, R77, R129). -/
def optI16 : Option Int → List Byte
  | some x => i16 x
  | none => i16 (-32768)

/-- A volume, 65535 for absent (R129, R155). -/
def optU16 : Option Nat → List Byte
  | some x => u16 x
  | none => u16 65535

/-- A litre count, 4294967295 for absent (R129). What shows where the count does not fit four bytes is a free value: the
spec is silent there (log 43). -/
def optU32 : Option Nat → List Byte
  | some x => u32 (if x < 4294967296 then x else (Config.wideLitres x).toNat)
  | none => u32 4294967295

/-- The set of the codes in a list, as a number: bit k for code k (R155). -/
def bitSet (codes : List Nat) : Nat := codes.foldl (fun m k => m ||| 2 ^ k) 0

/-- 1 for true, 0 for false. -/
def bit (b : Bool) : Nat := if b then 1 else 0

/-! ### Codes (R155) -/

def AppMode.code : AppMode → Nat
  | .road => 0 | .transfer => 1 | .stationaryPump => 2 | .pumpAndRoll => 3 | .faultHold => 4 | .start => 5

def SeqState.code : SeqState → Nat
  | .idle => 0 | .shifting => 1 | .awaitRange => 2 | .clutching => 3 | .awaitConfirm => 4 | .engaged => 5
  | .held => 6 | .idlingDown => 7 | .releasing => 8

def DrivePath.code : DrivePath → Nat
  | .none => 0 | .split => 1 | .clutch => 2

def GovMode.code : GovMode → Nat
  | .off => 0 | .idle => 1 | .pressure => 2 | .rpm => 3 | .limit => 4

def causeCode : Cause → Nat
  | .cavitation => 0 | .primeLost => 1 | .overheatCut => 2 | .overpressure => 3 | .tankEmpty => 4
  | .pressureSensor => 5

def permitCode : Permit → Nat
  | .drive => 0 | .engage => 1 | .throttle => 2 | .fill => 3

def WaterSource.code : WaterSource → Nat
  | .tank => 0 | .intake => 1 | .draft => 2

def TankRole.code : TankRole → Nat
  | .mainWater => 0 | .auxWater => 1 | .concentrate => 2 | .unused => 3

def TankRole.ofCode : Nat → Option TankRole
  | 0 => some .mainWater | 1 => some .auxWater | 2 => some .concentrate | 3 => some .unused | _ => none

def TankState.code : TankState → Nat
  | .unconfigured => 0 | .sensed => 1 | .travel => 2 | .settling => 3 | .blind => 4

def Band.code : Band → Nat
  | .normal => 0 | .reserve => 1 | .empty => 2 | .full => 3

def Basis.code : Basis → Nat
  | .sensed => 0 | .metered => 1 | .held => 2 | .none => 3

def ChStatus.code : ChStatus → Nat
  | .ok => 0 | .clamped => 1 | .fault => 2

def LineState.code : LineState → Nat
  | .low => 0 | .high => 1 | .unsettled => 2

def LockState.code : LockState → Nat
  | .clear => 0 | .pending => 1 | .tripped => 2 | .latched => 3

/-- The reason, "absent" being 0. -/
def reasonCode : Option SeqReason → Nat
  | none => 0 | some .disengage => 1 | some .timeout => 2 | some .motion => 3 | some .feedback => 4

/-- The sequencer's faults, coded in the order of R44. -/
def SeqFault.code : SeqFault → Nat
  | .shiftTimeout => 0 | .rangeTimeout => 1 | .clutchTimeout => 2 | .confirmLapsed => 3 | .motion => 4
  | .feedbackDropped => 5 | .engineNotIdle => 6 | .awaitNeutral => 7 | .releaseTimeout => 8

def ProtSubject.code : ProtSubject → Nat
  | .cavitation => 0 | .primeLost => 1 | .overheat => 2 | .overheatCut => 3 | .overpressure => 4 | .tankEmpty => 5
  | .pressureSensor => 6 | .rollOverspeed => 7 | .feedbackLost => 8

/-- The subject under which a cause is reported. -/
def causeSubject : Cause → ProtSubject
  | .cavitation => .cavitation | .primeLost => .primeLost | .overheatCut => .overheatCut
  | .overpressure => .overpressure | .tankEmpty => .tankEmpty | .pressureSensor => .pressureSensor

def ReportKind.code : ReportKind → Nat
  | .protection => 0x00 | .permit => 0x10 | .lockoutTrip => 0x11 | .step => 0x20 | .fault => 0x21 | .band => 0x30
  | .reconcile => 0x31 | .changeover => 0x32 | .fillDone => 0x33 | .fillFault => 0x34 | .channel => 0x40
  | .line => 0x41 | .corrected => 0x50 | .sectionInvalid => 0x51 | .commitDone => 0x52 | .commitFault => 0x53

/-- "The class is the kind divided by 16 and truncated." -/
def ReportKind.cls (k : ReportKind) : Nat := k.code / 16

def ReportState.code : ReportState → Nat
  | .raised => 0 | .conditionGone => 1 | .cleared => 2 | .primeFailed => 3 | .reliefOpen => 4 | .held => 5
  | .withheld => 6 | .fault => 7 | .recovered => 8 | .done => 9 | .noSupply => 10 | .abandoned => 11 | .noRise => 12

def CondName.code : CondName → Nat
  | .mode => 0 | .moving => 1 | .park => 2 | .neutral => 3 | .engine => 4 | .lockout => 5 | .feedback => 6
  | .source => 7 | .permit => 8 | .tank => 9 | .full => 10 | .demand => 11 | .empty => 12 | .unconfigured => 13
  | .brake => 14 | .shaft => 15 | .shifting => 16 | .splitPath => 17 | .start => 18

/-- The outcome byte of a refusal (R155, outcome and detail). -/
def Reason.code : Reason → Nat
  | .malformed => 0x81 | .unknownKind => 0x82 | .unknownItem => 0x83 | .wrongState => 0x84 | .notPermitted => 0x85
  | .conditionPresent => 0x86 | .badTable => 0x87 | .storeBusy => 0x88

def lineNo : Line → Nat
  | .d0 => 0 | .d1 => 1 | .d2 => 2 | .d3 => 3 | .d4 => 4 | .d5 => 5 | .d6 => 6 | .d7 => 7 | .d8 => 8 | .d9 => 9
  | .d10 => 10 | .d11 => 11

def lineOfNo (n : Nat) : Option Line := Line.all[n]?

def entryNo : EntryIx → Nat
  | .e0 => 0 | .e1 => 1 | .e2 => 2 | .e3 => 3 | .e4 => 4 | .e5 => 5 | .e6 => 6 | .e7 => 7 | .e8 => 8 | .e9 => 9
  | .e10 => 10 | .e11 => 11 | .e12 => 12 | .e13 => 13 | .e14 => 14 | .e15 => 15

def entryOfNo (n : Nat) : Option EntryIx := EntryIx.all[n]?

def tankNo : TankIx → Nat
  | .t0 => 0 | .t1 => 1 | .t2 => 2

def tankOfNo (n : Nat) : Option TankIx := TankIx.all[n]?

/-- "A level channel is coded by its number, 3 to 7." -/
def levelNo : LevelIx → Nat
  | .a3 => 3 | .a4 => 4 | .a5 => 5 | .a6 => 6 | .a7 => 7

def levelOfNo : Nat → Option LevelIx
  | 3 => some .a3 | 4 => some .a4 | 5 => some .a5 | 6 => some .a6 | 7 => some .a7 | _ => none

def sectionNo : Section → Nat
  | .header => 0 | .governor => 1 | .sequencer => 2 | .inputs => 3 | .interlock => 4 | .tank0 => 5 | .tank1 => 6
  | .tank2 => 7 | .reports => 8

/-! ### Frames -/

/-- One step of the check: doubled, kept to eight bits, and combined with 0x07 if the top bit was set (R149). -/
def crcStep (c : Byte) : Byte := if c.getLsbD 7 then (c <<< 1) ^^^ 0x07#8 else c <<< 1

/-- One byte into the running check (R149). -/
def crcByte (c b : Byte) : Byte :=
  crcStep (crcStep (crcStep (crcStep (crcStep (crcStep (crcStep (crcStep (c ^^^ b))))))))

/-- The check over a frame's bytes from the length byte on (R149). -/
def crc8 (bytes : List Byte) : Byte := bytes.foldl crcByte 0

/-- A whole frame: start byte, length, kind, tag, payload, check (R155, frame). -/
def frameBytes (kind tag : Byte) (payload : List Byte) : List Byte :=
  let body := BitVec.ofNat 8 (payload.length + 2) :: kind :: tag :: payload
  0x7A#8 :: (body ++ [crc8 body])

/-- The 12 bytes of a report record (R155); unused value bytes are 0. -/
def reportRecord (r : Report) : List Byte :=
  [BitVec.ofNat 8 r.kind.code, r.subject, r.state, BitVec.ofNat 8 r.count] ++
    (r.values ++ List.replicate (8 - r.values.length) 0)

end Sys2Proof.Machine
end

