-- ==== Sys2Proof/Machine/Params.lean ====
section
/-! DEFINITION. Params.lean: the parameter table of R168, and the configuration that holds every default. -/

namespace Sys2Proof.Machine

/-- The parameter an identifier names (R168). -/
def paramOfId (id : Nat) : Option Param :=
  match id with
  | 0x0101 => some .kpP | 0x0102 => some .kiP | 0x0103 => some .kpN | 0x0104 => some .kiN
  | 0x0105 => some .rateStep | 0x0106 => some .pSetMax | 0x0107 => some .rpmSetMax | 0x0108 => some .cavThreshold
  | 0x0109 => some .pLimit | 0x010A => some .tempCut | 0x010B => some .tempReliefOn | 0x010C => some .primeTime
  | 0x0201 => some .shiftWindow | 0x0202 => some .rangeWindow | 0x0203 => some .clutchWindow
  | 0x0204 => some .confirmWindow | 0x0205 => some .idleDownWindow | 0x0206 => some .releaseWindow
  | 0x0301 => some .ppr | 0x0302 => some .ppk | 0x0303 => some .kDis | 0x0304 => some .kFill
  | 0x0401 => some .idleRpm | 0x0402 => some .rollCeiling | 0x0403 => some .rollCap
  | 0x0501 => some .settleTime | 0x0502 => some .changeoverWindow
  | _ =>
    if 0x0310 ≤ id ∧ id ≤ 0x031B then (lineOfNo (id - 0x0310)).map .filterCount
    else if 0x0320 ≤ id ∧ id ≤ 0x032B then (lineOfNo (id - 0x0320)).map .reportOnChange
    else none

/-- The range of a parameter (R168, and R43 for the windows). -/
def paramRange : Param → Int × Int
  | .kpP => (0, 255) | .kiP => (0, 63) | .kpN => (0, 255) | .kiN => (0, 63) | .rateStep => (1, 100)
  | .pSetMax => (300, 2400) | .rpmSetMax => (1200, 3000) | .cavThreshold => (-100, 200) | .pLimit => (800, 2800)
  | .tempCut => (60, 100) | .tempReliefOn => (50, 90) | .primeTime => (10, 90)
  | .shiftWindow => (1, 10) | .rangeWindow => (5, 60) | .clutchWindow => (1, 10) | .confirmWindow => (3, 60)
  | .idleDownWindow => (3, 30) | .releaseWindow => (1, 10)
  | .ppr => (1, 200) | .ppk => (100, 30000) | .kDis => (1, 2000) | .kFill => (1, 2000)
  | .filterCount _ => (1, 255) | .reportOnChange _ => (0, 1)
  | .idleRpm => (500, 1000) | .rollCeiling => (0, 250) | .rollCap => (0, 1000)
  | .settleTime => (2, 30) | .changeoverWindow => (5, 60)

/-- The default of a parameter (R168, and R43 for the windows). -/
def paramDefault : Param → Int
  | .kpP => 24 | .kiP => 3 | .kpN => 16 | .kiN => 2 | .rateStep => 15 | .pSetMax => 1800 | .rpmSetMax => 2200
  | .cavThreshold => -60 | .pLimit => 2000 | .tempCut => 85 | .tempReliefOn => 70 | .primeTime => 45
  | .shiftWindow => 3 | .rangeWindow => 15 | .clutchWindow => 2 | .confirmWindow => 10 | .idleDownWindow => 10
  | .releaseWindow => 3
  | .ppr => 60 | .ppk => 5000 | .kDis => 180 | .kFill => 180 | .filterCount _ => 4 | .reportOnChange _ => 0
  | .idleRpm => 700 | .rollCeiling => 100 | .rollCap => 600 | .settleTime => 8 | .changeoverWindow => 30

/-- The parameters that may be changed in apparatus mode ROAD alone (R168). -/
def paramRoadOnly : Param → Bool
  | .shiftWindow | .rangeWindow | .clutchWindow | .confirmWindow | .idleDownWindow | .releaseWindow
  | .ppr | .ppk | .kDis | .kFill | .idleRpm => true
  | .kpP | .kiP | .kpN | .kiN | .rateStep | .pSetMax | .rpmSetMax | .cavThreshold | .pLimit | .tempCut
  | .tempReliefOn | .primeTime | .filterCount _ | .reportOnChange _ | .rollCeiling | .rollCap | .settleTime
  | .changeoverWindow => false

/-- A value clamped to a parameter's range (R169). -/
def paramClamp (p : Param) (x : Int) : Int := clampInt (paramRange p).1 (paramRange p).2 x

/-- A parameter's value in a configuration. -/
def WorkingConfig.param (c : WorkingConfig) : Param → Int
  | .kpP => c.gov.kpP | .kiP => c.gov.kiP | .kpN => c.gov.kpN | .kiN => c.gov.kiN | .rateStep => c.gov.rateStep
  | .pSetMax => c.gov.pSetMax | .rpmSetMax => c.gov.rpmSetMax | .cavThreshold => c.gov.cavThreshold
  | .pLimit => c.gov.pLimit | .tempCut => c.gov.tempCut | .tempReliefOn => c.gov.tempReliefOn
  | .primeTime => c.gov.primeTime
  | .shiftWindow => c.windows.shift | .rangeWindow => c.windows.range | .clutchWindow => c.windows.clutch
  | .confirmWindow => c.windows.confirm | .idleDownWindow => c.windows.idleDown | .releaseWindow => c.windows.release
  | .ppr => c.inputs.ppr | .ppk => c.inputs.ppk | .kDis => c.inputs.kDis | .kFill => c.inputs.kFill
  | .filterCount l => c.inputs.filterCount.get l | .reportOnChange l => bit (c.inputs.reportOnChange.get l)
  | .idleRpm => c.idleRpm | .rollCeiling => c.rollCeiling | .rollCap => c.rollCap | .settleTime => c.settleTime
  | .changeoverWindow => c.changeoverWindow

/-- The configuration with one parameter's value replaced. -/
def WorkingConfig.setParam (c : WorkingConfig) (p : Param) (x : Int) : WorkingConfig :=
  let n := x.toNat
  match p with
  | .kpP => { c with gov := { c.gov with kpP := n } }
  | .kiP => { c with gov := { c.gov with kiP := n } }
  | .kpN => { c with gov := { c.gov with kpN := n } }
  | .kiN => { c with gov := { c.gov with kiN := n } }
  | .rateStep => { c with gov := { c.gov with rateStep := n } }
  | .pSetMax => { c with gov := { c.gov with pSetMax := n } }
  | .rpmSetMax => { c with gov := { c.gov with rpmSetMax := n } }
  | .cavThreshold => { c with gov := { c.gov with cavThreshold := x } }
  | .pLimit => { c with gov := { c.gov with pLimit := n } }
  | .tempCut => { c with gov := { c.gov with tempCut := n } }
  | .tempReliefOn => { c with gov := { c.gov with tempReliefOn := n } }
  | .primeTime => { c with gov := { c.gov with primeTime := n } }
  | .shiftWindow => { c with windows := { c.windows with shift := n } }
  | .rangeWindow => { c with windows := { c.windows with range := n } }
  | .clutchWindow => { c with windows := { c.windows with clutch := n } }
  | .confirmWindow => { c with windows := { c.windows with confirm := n } }
  | .idleDownWindow => { c with windows := { c.windows with idleDown := n } }
  | .releaseWindow => { c with windows := { c.windows with release := n } }
  | .ppr => { c with inputs := { c.inputs with ppr := n } }
  | .ppk => { c with inputs := { c.inputs with ppk := n } }
  | .kDis => { c with inputs := { c.inputs with kDis := n } }
  | .kFill => { c with inputs := { c.inputs with kFill := n } }
  | .filterCount l => { c with inputs := { c.inputs with filterCount := c.inputs.filterCount.set l n } }
  | .reportOnChange l =>
    { c with inputs := { c.inputs with reportOnChange := c.inputs.reportOnChange.set l (n == 1) } }
  | .idleRpm => { c with idleRpm := n }
  | .rollCeiling => { c with rollCeiling := n }
  | .rollCap => { c with rollCap := n }
  | .settleTime => { c with settleTime := n }
  | .changeoverWindow => { c with changeoverWindow := n }

/-- The governor parameters at their defaults. -/
def defaultGov : GovParams :=
  { kpP := 24, kiP := 3, kpN := 16, kiN := 2, rateStep := 15, pSetMax := 1800, rpmSetMax := 2200,
    cavThreshold := -60, pLimit := 2000, tempCut := 85, tempReliefOn := 70, primeTime := 45 }

/-- The windows at their defaults. -/
def defaultWindows : Windows := { shift := 3, range := 15, clutch := 2, confirm := 10, idleDown := 10, release := 3 }

/-- The inputs section at its defaults. -/
def defaultInputs : InputParams :=
  { ppr := 60, ppk := 5000, kDis := 180, kFill := 180, filterCount := PerLine.const 4,
    reportOnChange := PerLine.const false }

/-- The blank record of a tank (R117): its fore channel is A3, A4 or A5. -/
def blankTank (t : TankIx) : TankSettings :=
  { role := .unused, capacity := 20000
    fore := match t with | .t0 => .a3 | .t1 => .a4 | .t2 => .a5
    aft := none, outMeter := false, inMeter := false, emptyL := 0, reserveL := 1, fullL := 20000, tolerance := 3
    table := [⟨0, 0⟩, ⟨2000, 0⟩] }

/-- Every section at the fallback of R167: parameters at their defaults, no lockout entry, blank tanks, open gates. -/
def defaultConfig : WorkingConfig :=
  { gov := defaultGov, windows := defaultWindows, inputs := defaultInputs
    idleRpm := 700, rollCeiling := 100, rollCap := 600
    entries := PerEntry.const none, tanks := PerTank.ofFn blankTank
    settleTime := 8, changeoverWindow := 30, gates := 0b111111#6 }

end Sys2Proof.Machine
end

