-- ==== Sys2Proof/Machine/Operands.lean ====
section
/-! DEFINITION. Operands.lean: the operand forms that take more than one byte to read: lockout entries (R155, R156),
tank settings (R116, R125) and tank tables (R157), each with its layout both ways and its structural checks. A check
that fails names the position, counted from 1, of the first offending payload byte (R155). -/

namespace Sys2Proof.Machine

/-! ### Lockout entries -/

/-- What the nine bytes of a lockout entry say (R155, R156). -/
inductive EntryRead where
  | malformed (position : Nat)
  | absent
  | present (e : LockoutEntry)
  deriving DecidableEq, Repr

/-- The condition of an entry, or the offending position: 2 for the kind, 3 for the first operand, 5 for the second.
A two-byte operand that names nothing offends at its first byte (log 16). -/
def readLockCond (kind op1 op2 : Nat) : Except Nat LockCond :=
  match kind with
  | 1 => match lineOfNo op1 with
    | none => .error 3
    | some l => if 1 < op2 then .error 5 else .ok (.line l (op2 == 1))
  | 2 => .ok (.roadSpeedAbove op1)
  | 3 => .ok (.engineAbove op1)
  | 4 => match tankOfNo op1 with
    | none => .error 3
    | some t => if 1 < op2 then .error 5 else .ok (.tankBand t (op2 == 1))
  | 5 => .ok (.pumpTempAbove op1)
  | _ => .error 2

/-- A lockout entry from its nine bytes, with the structural checks of R36 and R156 in the order of the bytes. -/
def readEntry (kind hi lo op2 modes effects latching dhi dlo : Byte) : EntryRead :=
  if kind = 0#8 then .absent
  else match readLockCond kind.toNat (readU16 hi lo) op2.toNat with
    | .error p => .malformed p
    | .ok c =>
      if modes = 0#8 ∨ 15 < modes.toNat then .malformed 6
      else if effects = 0#8 ∨ 31 < effects.toNat then .malformed 7
      else if 1 < latching.toNat then .malformed 8
      else .present { cond := c, armed := modes.setWidth 4, effects := effects.setWidth 5,
                      latching := latching == 1#8, delay := readU16 dhi dlo }

/-- The operands of an entry clamped to their ranges (R29, R36). -/
def clampEntry (e : LockoutEntry) : LockoutEntry :=
  { e with
    cond := match e.cond with
      | .line l h => .line l h
      | .roadSpeedAbove v => .roadSpeedAbove (min v 1500)
      | .engineAbove n => .engineAbove (min n 4000)
      | .tankBand t b => .tankBand t b
      | .pumpTempAbove t => .pumpTempAbove (min t 160)
    delay := min e.delay 600 }

/-- The condition kind's code (R155). -/
def condKind : LockCond → Nat
  | .line _ _ => 1 | .roadSpeedAbove _ => 2 | .engineAbove _ => 3 | .tankBand _ _ => 4 | .pumpTempAbove _ => 5

/-- The first operand of a condition (R155). -/
def condOp1 : LockCond → Nat
  | .line l _ => lineNo l | .roadSpeedAbove v => v | .engineAbove n => n | .tankBand t _ => tankNo t
  | .pumpTempAbove t => t

/-- The second operand of a condition (R155). -/
def condOp2 : LockCond → Nat
  | .line _ h => bit h | .tankBand _ e => bit e
  | .roadSpeedAbove _ | .engineAbove _ | .pumpTempAbove _ => 0

/-- The nine bytes of an entry; every byte of an absent one reads 0 (R155, R156). -/
def entryBytes : Option LockoutEntry → List Byte
  | none => List.replicate 9 0
  | some e => u8 (condKind e.cond) ++ u16 (condOp1 e.cond) ++ u8 (condOp2 e.cond) ++ u8 e.armed.toNat
      ++ u8 e.effects.toNat ++ u8 (bit e.latching) ++ u16 e.delay

/-! ### Tank settings -/

/-- 0 ≤ empty_L < reserve_L < full_L ≤ capacity (R116). -/
def thresholdsOk (c : TankSettings) : Bool :=
  c.emptyL < c.reserveL && c.reserveL < c.fullL && c.fullL ≤ c.capacity

/-- MAIN_WATER is allowed for tank 0 alone, and tank 0 may be MAIN_WATER or UNUSED (R116). -/
def roleAllowed (t : TankIx) (r : TankRole) : Bool :=
  match t, r with
  | .t0, .mainWater | .t0, .unused => true
  | .t0, .auxWater | .t0, .concentrate => false
  | .t1, .mainWater | .t2, .mainWater => false
  | .t1, _ | .t2, _ => true

/-- The breakpoint at one place of a table offends (R127): level above 2000, volume above the capacity, or not in order
after the one before. -/
def offends (capacity : Nat) (before : Option Breakpoint) (b : Breakpoint) : Bool :=
  2000 < b.level || capacity < b.volume ||
    match before with
    | none => false
    | some p => b.level ≤ p.level || b.volume < p.volume

/-- The index of the first offending breakpoint (R127). -/
def firstOffender (capacity : Nat) : Option Breakpoint → Nat → List Breakpoint → Option Nat
  | _, _, [] => none
  | before, i, b :: rest =>
    if offends capacity before b then some i else firstOffender capacity (some b) (i + 1) rest

/-- A record that keeps every rule of the table of R116. -/
def tankConsistent (t : TankIx) (c : TankSettings) : Bool :=
  roleAllowed t c.role && 100 ≤ c.capacity && c.capacity ≤ 20000 && c.aft != some c.fore
    && (t == .t0 || (!c.outMeter && !c.inMeter)) && thresholdsOk c && 1 ≤ c.tolerance && c.tolerance ≤ 20
    && 2 ≤ c.table.length && c.table.length ≤ 16 && (firstOffender c.capacity none 0 c.table).isNone

/-- A meter field: `code` binds it, 255 leaves it absent (R155). -/
def readMeter (code : Nat) (b : Byte) : Option Bool :=
  if b.toNat = code then some true else if b.toNat = 255 then some false else none

/-- The aft channel field: a level channel, or 255 for absent (R155). -/
def readAft (b : Byte) : Option (Option LevelIx) :=
  if b.toNat = 255 then some none else (levelOfNo b.toNat).map some

/-- The settings of TANK_SET for tank t from the bytes after the index, with the structural checks of R125 in the order
of the payload's bytes. The table is left empty; capacity and tolerance are as sent. -/
def readTankSettings (t : TankIx) (role chi clo fore aft outM inM ehi elo rhi rlo fhi flo tol : Byte) :
    Except Nat TankSettings :=
  match TankRole.ofCode role.toNat with
  | none => .error 2
  | some r =>
    if !roleAllowed t r then .error 2
    else match levelOfNo fore.toNat with
    | none => .error 5
    | some f => match readAft aft with
      | none => .error 6
      | some a =>
        if a = some f then .error 6
        else match readMeter 2 outM with
        | none => .error 7
        | some om =>
          if om && t != .t0 then .error 7
          else match readMeter 3 inM with
          | none => .error 8
          | some im =>
            if im && t != .t0 then .error 8
            else .ok { role := r, capacity := readU16 chi clo, fore := f, aft := a, outMeter := om, inMeter := im,
                       emptyL := readU16 ehi elo, reserveL := readU16 rhi rlo, fullL := readU16 fhi flo,
                       tolerance := tol.toNat, table := [] }

/-- The code of an aft channel field (R155). -/
def aftCode : Option LevelIx → Nat
  | some c => levelNo c
  | none => 255

/-- The code of a meter field (R155). -/
def meterCode (code : Nat) (bound : Bool) : Nat := if bound then code else 255

/-! ### Tank tables -/

/-- The number of bytes that k breakpoints take: 26 times k divided by 8, rounded up (R157). -/
def tableBytes (k : Nat) : Nat := (26 * k + 7) / 8

/-- The number a byte string spells, most significant byte first. -/
def natOfBytes (bytes : List Byte) : Nat := bytes.foldl (fun n b => n * 256 + b.toNat) 0

/-- The lowest m bytes of a number, most significant first. -/
def bytesOfNat : Nat → Nat → List Byte
  | 0, _ => []
  | m + 1, n => BitVec.ofNat 8 (n / 256 ^ m) :: bytesOfNat m n

/-- The breakpoint in the 26 bits of w: level in 11, volume in 15 (R157). -/
def breakpointOfBits (w : Nat) : Breakpoint := ⟨w / 32768 % 2048, w % 32768⟩

/-- The 26 bits of a breakpoint (R157). -/
def bitsOfBreakpoint (b : Breakpoint) : Nat := b.level * 32768 + b.volume

/-- k breakpoints from an unbroken string of bits, most significant first; the pad bits are not examined (R157, R158). -/
def unpackTable (k : Nat) (bytes : List Byte) : List Breakpoint :=
  (List.range k).map fun i =>
    breakpointOfBits (natOfBytes bytes / 2 ^ (8 * bytes.length - 26 * (i + 1)) % 2 ^ 26)

/-- The bytes of a table, padded with zero bits to a whole byte (R157). -/
def packTable (table : List Breakpoint) : List Byte :=
  let bits := table.foldl (fun n b => n * 2 ^ 26 + bitsOfBreakpoint b) 0
  bytesOfNat (tableBytes table.length) (bits * 2 ^ (8 * tableBytes table.length - 26 * table.length))

end Sys2Proof.Machine
end

