-- ==== Sys2Proof/Machine/Queue.lean ====
section
/-! DEFINITION. Queue.lean: what the report queue does with a submission and a delivery (R160, R161), on the queue
alone. -/

namespace Sys2Proof.Machine

/-- A report's class (R159). -/
def Report.cls (r : Report) : Nat := r.kind.cls

/-- The key of a report is its kind together with its subject (R159). -/
def Report.sameKey (a b : Report) : Bool := a.kind == b.kind && a.subject == b.subject

/-- A queued report after a submission of the same key (R160, case 1). -/
def Report.coalesce (queued new : Report) : Report :=
  { queued with state := new.state, values := new.values, count := min (queued.count + 1) 255 }

/-- The largest class number present. -/
def maxClass (l : List Report) : Nat := l.foldl (fun m r => max m r.cls) 0

/-- The list without its last report of class c. -/
def dropLastOfClass (c : Nat) (l : List Report) : List Report :=
  (l.reverse.eraseP fun r => r.cls == c).reverse

/-- One submission (R160): coalesced with its key, appended, or at a full list displacing the newest report of the
largest class above its own, or dropped. -/
def ReportQueue.submit (q : ReportQueue) (r : Report) : ReportQueue :=
  if q.list.any (·.sameKey r) then
    { q with list := q.list.map fun x => if x.sameKey r then x.coalesce r else x }
  else if q.list.length < 24 then
    { q with list := q.list ++ [{ r with count := 1 }] }
  else if r.cls < maxClass q.list then
    { list := dropLastOfClass (maxClass q.list) q.list ++ [{ r with count := 1 }], overflowed := true }
  else { q with overflowed := true }

/-- The gate of a class is open; class 0 stays open (R162). -/
def gateOpen (gates : BitVec 6) (c : Nat) : Bool := c == 0 || gates.getLsbD c

/-- The smallest class that holds a deliverable report (R161). -/
def nextClass (gates : BitVec 6) (l : List Report) : Option Nat :=
  [0, 1, 2, 3, 4, 5].find? fun c => gateOpen gates c && l.any (·.cls == c)

/-- The number of deliverable reports (R161). -/
def deliverableCount (gates : BitVec 6) (l : List Report) : Nat := l.countP fun r => gateOpen gates r.cls

/-- The next deliverable report, and the queue without it (R161). -/
def ReportQueue.takeNext (q : ReportQueue) (gates : BitVec 6) : Option (Report × ReportQueue) :=
  match nextClass gates q.list with
  | none => none
  | some c => match q.list.find? (·.cls == c) with
    | none => none
    | some r => some (r, { q with list := q.list.eraseP (·.cls == c) })

/-- Up to k next deliverable reports, in the order taken, and the queue without them (R164). -/
def ReportQueue.takeUpTo (q : ReportQueue) (gates : BitVec 6) : Nat → List Report × ReportQueue
  | 0 => ([], q)
  | k + 1 => match q.takeNext gates with
    | none => ([], q)
    | some (r, q') => let rest := q'.takeUpTo gates k; (r :: rest.1, rest.2)

/-! ### The reports of the blocks -/

/-- A report with no state (R155: "255 where the kind's rule names no state"). -/
def noState : Byte := 255#8

def protReport (s : ProtSubject) (st : ReportState) (values : List Byte) : Report :=
  ⟨.protection, BitVec.ofNat 8 s.code, BitVec.ofNat 8 st.code, 1, values⟩

/-- A report with a state of the common list. -/
def stateReport (k : ReportKind) (subject : Nat) (st : ReportState) (values : List Byte) : Report :=
  ⟨k, BitVec.ofNat 8 subject, BitVec.ofNat 8 st.code, 1, values⟩

/-- A report whose state is coded by the kind's own list. -/
def codedReport (k : ReportKind) (subject state : Nat) (values : List Byte) : Report :=
  ⟨k, BitVec.ofNat 8 subject, BitVec.ofNat 8 state, 1, values⟩

/-- A report whose rule names no state. -/
def plainReport (k : ReportKind) (subject : Nat) (values : List Byte) : Report :=
  ⟨k, BitVec.ofNat 8 subject, noState, 1, values⟩

end Sys2Proof.Machine
end

