-- ==== Sys2Proof/Machine/StoreWords.lean ====
section
/-! DEFINITION. StoreWords.lean: the configuration store as an array of words (R165), the layout of the words inside
each section, and the loading of a section (R166, R167). The spec lays out the sections but not the words inside one;
the layout here is the model's. DESIGN CHOICE, notes/assumptions/8. -/

namespace Sys2Proof.Machine

/-! ### Sections (R165) -/

/-- The first address of a section. -/
def sectionBase : Section → Nat
  | .header => 0 | .governor => 4 | .sequencer => 28 | .inputs => 36 | .interlock => 60 | .tank0 => 96
  | .tank1 => 124 | .tank2 => 152 | .reports => 180

/-- The number of words of a section. -/
def sectionSize : Section → Nat
  | .header => 4 | .governor => 24 | .sequencer => 8 | .inputs => 24 | .interlock => 36
  | .tank0 => 28 | .tank1 => 28 | .tank2 => 28 | .reports => 4

/-- The section that holds an address below 184. -/
def sectionOf (a : Nat) : Section :=
  if a < 4 then .header else if a < 28 then .governor else if a < 36 then .sequencer else if a < 60 then .inputs
  else if a < 96 then .interlock else if a < 124 then .tank0 else if a < 152 then .tank1 else if a < 180 then .tank2
  else .reports

/-- The number of words of all sections together. -/
def storeWords : Nat := 184

/-- The part's own layout number. -/
def layoutNumber : Nat := 1

/-! ### The layout inside a section (log 8) -/

/-- A word from its four bytes, most significant first. -/
def wordOfBytes (a b c d : Nat) : BitVec 32 := BitVec.ofNat 32 (a * 16777216 + b * 65536 + c * 256 + d)

/-- A word from its two halves. -/
def wordOfHalves (hi lo : Nat) : BitVec 32 := BitVec.ofNat 32 (hi * 65536 + lo)

/-- Byte k of a word, byte 0 the most significant. -/
def wordByte (w : BitVec 32) (k : Nat) : Byte := BitVec.ofNat 8 (w.toNat / 256 ^ (3 - k))

/-- The upper half of a word. -/
def wordHi (w : BitVec 32) : Nat := w.toNat / 65536

/-- The lower half of a word. -/
def wordLo (w : BitVec 32) : Nat := w.toNat % 65536

/-- The parameters that take one word each in the governor and sequencer sections, from the word after the mark on. -/
def wordParams : Section → List Param
  | .governor => [.kpP, .kiP, .kpN, .kiN, .rateStep, .pSetMax, .rpmSetMax, .cavThreshold, .pLimit, .tempCut,
      .tempReliefOn, .primeTime]
  | .sequencer => [.shiftWindow, .rangeWindow, .clutchWindow, .confirmWindow, .idleDownWindow, .releaseWindow]
  | .inputs => [.ppr, .ppk, .kDis, .kFill] ++ Line.all.map .filterCount
  | .header | .interlock | .tank0 | .tank1 | .tank2 | .reports => []

/-- The report-on-change settings as one word, bit k for Dk. -/
def reportOnChangeWord (c : WorkingConfig) : BitVec 32 :=
  BitVec.ofNat 32 (bitSet ((Line.all.filter fun l => c.inputs.reportOnChange.get l).map lineNo))

/-- The two words of a lockout entry: kind, operands, then modes, latching with effects, delay. -/
def entryWords (e : Option LockoutEntry) : BitVec 32 × BitVec 32 :=
  match e with
  | none => (0, 0)
  | some e =>
    (wordOfBytes (condKind e.cond) (condOp1 e.cond / 256) (condOp1 e.cond % 256) (condOp2 e.cond),
     wordOfBytes e.armed.toNat (bit e.latching * 128 + e.effects.toNat) (e.delay / 256) (e.delay % 256))

/-- The lockout entry in two words, with the structural checks of R36 and R156. -/
def entryOfWords (w0 w1 : BitVec 32) : EntryRead :=
  readEntry (wordByte w0 0) (wordByte w0 1) (wordByte w0 2) (wordByte w0 3) (wordByte w1 0)
    (wordByte w1 1 &&& 0x7F#8) (BitVec.ofNat 8 ((wordByte w1 1).toNat / 128)) (wordByte w1 2) (wordByte w1 3)

/-- Word k (counted from the section's first word) of a tank section. -/
def tankWord (c : TankSettings) (k : Nat) : BitVec 32 :=
  match k with
  | 1 => wordOfBytes c.role.code (levelNo c.fore) (aftCode c.aft) c.tolerance
  | 2 => wordOfBytes (meterCode 2 c.outMeter) (meterCode 3 c.inMeter) (c.capacity / 256) (c.capacity % 256)
  | 3 => wordOfHalves c.emptyL c.reserveL
  | 4 => wordOfHalves c.fullL c.table.length
  | _ =>
    if 6 ≤ k then match c.table[k - 6]? with
      | some b => wordOfHalves b.level b.volume
      | none => 0
    else 0

/-- Word k of a section, other than its mark words. -/
def sectionWord (c : WorkingConfig) (sec : Section) (k : Nat) : BitVec 32 :=
  match sec with
  | .header => if k = 1 then BitVec.ofNat 32 layoutNumber else 0
  | .governor | .sequencer => match (wordParams sec)[k - 1]? with
    | some p => BitVec.ofInt 32 (c.param p)
    | none => 0
  | .inputs => match (wordParams .inputs)[k - 1]? with
    | some p => BitVec.ofInt 32 (c.param p)
    | none => if k = 17 then reportOnChangeWord c else 0
  | .interlock =>
    if k = 33 then wordOfHalves c.idleRpm c.rollCeiling
    else if k = 34 then BitVec.ofNat 32 c.rollCap
    else match entryOfNo ((k - 1) / 2) with
      | some i => if (k - 1) % 2 = 0 then (entryWords (c.entries.get i)).1 else (entryWords (c.entries.get i)).2
      | none => 0
  | .tank0 => if k = 5 then wordOfHalves c.settleTime c.changeoverWindow else tankWord (c.tanks.get .t0) k
  | .tank1 => tankWord (c.tanks.get .t1) k
  | .tank2 => tankWord (c.tanks.get .t2) k
  | .reports => if k = 1 then BitVec.ofNat 32 c.gates.toNat else 0

/-- The data of the word at an address below 184, as a commit of that number writes it: the first and the last word of
every section are mark words (R165). -/
def configWord (c : WorkingConfig) (number a : Nat) : BitVec 32 :=
  let sec := sectionOf a
  let k := a - sectionBase sec
  if k = 0 ∨ k + 1 = sectionSize sec then BitVec.ofNat 32 number else sectionWord c sec k

/-! ### The array -/

/-- What an address that nothing is listed for reads as: the part's defaults under commit number 0, and zero at the
addresses the part does not use. DESIGN CHOICE, unsafe: notes/assumptions/7. -/
def factoryWord (a : Nat) : StoreWord :=
  if a < storeWords then ⟨configWord defaultConfig 0 a, 0⟩ else ⟨0, 0⟩

/-- The word at an address. -/
def readCell : List (Nat × StoreWord) → Nat → StoreWord
  | [], a => factoryWord a
  | (b, w) :: rest, a => if a = b then w else readCell rest a

/-- The list with the entry of an address put in, replaced, or taken out where the word is what an unlisted address
reads as. -/
def writeCell : List (Nat × StoreWord) → Nat → StoreWord → List (Nat × StoreWord)
  | [], a, w => if w = factoryWord a then [] else [(a, w)]
  | (b, x) :: rest, a, w =>
    if a < b then (if w = factoryWord a then (b, x) :: rest else (a, w) :: (b, x) :: rest)
    else if a = b then (if w = factoryWord a then rest else (a, w) :: rest)
    else (b, x) :: writeCell rest a w

/-- The canonical form: addresses strictly rising, and no entry equal to what an unlisted address reads as. -/
def cellsWf : List (Nat × StoreWord) → Bool
  | [] => true
  | (a, w) :: rest => decide (w ≠ factoryWord a) && rest.all (fun p => decide (a < p.1)) && cellsWf rest

/-- Several words put in, those beyond the array left out. -/
def writeCells (cells : List (Nat × StoreWord)) (found : List (Nat × StoreWord)) : List (Nat × StoreWord) :=
  found.foldl (fun cs p => if p.1 < 256 then writeCell cs p.1 p.2 else cs) cells

/-! ### Judging a word (R166) -/

/-- The number of wrong bits of a word. -/
def wrongBits (w : StoreWord) : Nat := (List.range 39).countP fun k => w.flips.getLsbD k

/-- What the store makes of a word it reads: no error, a single wrong bit corrected, two wrong bits uncorrectable; three
or more are a free value (log 9). -/
def judgeWord (w : StoreWord) : WordVerdict :=
  match wrongBits w with
  | 0 => .good w.data
  | 1 => .corrected w.data
  | 2 => .uncorrectable
  | _ => Config.manyWrongBits w

/-- The data of a word that can be used. -/
def verdictData : WordVerdict → Option (BitVec 32)
  | .good d | .corrected d => some d
  | .uncorrectable => none

/-! ### Loading a section -/

/-- A parameter as copied out of a word: clamped to its range (R167). -/
def loadParam (c : WorkingConfig) (p : Param) (x : Int) : WorkingConfig := c.setParam p (paramClamp p x)

/-- The parameters of a list of words. -/
def loadParams (c : WorkingConfig) (ps : List Param) (ws : List (BitVec 32)) : WorkingConfig :=
  (ps.zip ws).foldl (fun c p => loadParam c p.1 p.2.toInt) c

/-- The lockout entries in the words after the mark, or none where one fails the structural checks (R166). -/
def loadEntries (c : WorkingConfig) (ws : List (BitVec 32)) : Option WorkingConfig :=
  EntryIx.all.foldl (fun acc i => acc.bind fun c =>
    match entryOfWords (ws.getD (2 * entryNo i) 0) (ws.getD (2 * entryNo i + 1) 0) with
    | .malformed _ => none
    | .absent => some { c with entries := c.entries.set i none }
    | .present e => some { c with entries := c.entries.set i (some (clampEntry e)) }) (some c)

/-- The tank record in the words after the mark, or none where it is not consistent (R117, R166). -/
def loadTank (t : TankIx) (ws : List (BitVec 32)) : Option TankSettings :=
  let w (k : Nat) : BitVec 32 := ws.getD (k - 1) 0
  match TankRole.ofCode (wordByte (w 1) 0).toNat, levelOfNo (wordByte (w 1) 1).toNat, readAft (wordByte (w 1) 2),
      readMeter 2 (wordByte (w 2) 0), readMeter 3 (wordByte (w 2) 1) with
  | some role, some fore, some aft, some om, some im =>
    let c : TankSettings :=
      { role, fore, aft, outMeter := om, inMeter := im, capacity := wordLo (w 2)
        emptyL := wordHi (w 3), reserveL := wordLo (w 3), fullL := wordHi (w 4), tolerance := (wordByte (w 1) 3).toNat
        table := (List.range (min (wordLo (w 4)) 17)).map fun i => ⟨wordHi (w (6 + i)), wordLo (w (6 + i))⟩ }
    if tankConsistent t c then some c else none
  | _, _, _, _, _ => none

/-- The tank of a tank section. -/
def sectionTank : Section → TankIx
  | .tank1 => .t1 | .tank2 => .t2
  | .header | .governor | .sequencer | .inputs | .interlock | .tank0 | .reports => .t0

/-- The configuration with a section's words (after its first mark) copied in and clamped, or none where the record
they hold makes the section INVALID (R166, R167). -/
def loadSection (c : WorkingConfig) (sec : Section) (ws : List (BitVec 32)) : Option WorkingConfig :=
  match sec with
  | .header => some c
  | .governor | .sequencer => some (loadParams c (wordParams sec) ws)
  | .inputs =>
    let c := loadParams c (wordParams .inputs) ws
    some { c with inputs := { c.inputs with
      reportOnChange := PerLine.ofFn fun l => (ws.getD 16 0).getLsbD (lineNo l) } }
  | .interlock => (loadEntries c ws).map fun c =>
      loadParam (loadParam (loadParam c .idleRpm (wordHi (ws.getD 32 0))) .rollCeiling (wordLo (ws.getD 32 0)))
        .rollCap ((ws.getD 33 0).toNat : Int)
  | .tank0 => (loadTank .t0 ws).map fun t =>
      loadParam (loadParam { c with tanks := c.tanks.set .t0 t } .settleTime (wordHi (ws.getD 4 0)))
        .changeoverWindow (wordLo (ws.getD 4 0))
  | .tank1 => (loadTank .t1 ws).map fun t => { c with tanks := c.tanks.set .t1 t }
  | .tank2 => (loadTank .t2 ws).map fun t => { c with tanks := c.tanks.set .t2 t }
  | .reports => some { c with gates := (ws.getD 0 0).setWidth 6 ||| 1#6 }

/-- What loading has made so far: the configuration, the reports submitted, the write-back list, the invalid set, the
commit counter, and whether the header holds another layout number. -/
structure Loading where
  config : WorkingConfig
  queue : ReportQueue
  writeBack : List (Nat × BitVec 32)
  invalid : PerSection Bool
  counter : Nat
  otherLayout : Bool
  deriving DecidableEq, Repr

/-- One word read: a corrected word is reported and listed for write-back (R166). -/
def Loading.readWord (l : Loading) (a : Nat) (v : WordVerdict) : Loading :=
  match v with
  | .corrected d =>
    { l with queue := l.queue.submit (plainReport .corrected a []), writeBack := l.writeBack ++ [(a, d)] }
  | .good _ | .uncorrectable => l

/-- The section found INVALID: its fallback stands, it is reported, and it joins the invalid set (R167). -/
def Loading.sectionInvalid (l : Loading) (sec : Section) : Loading :=
  { l with queue := l.queue.submit (plainReport .sectionInvalid (sectionNo sec) []), invalid := l.invalid.set sec true }

/-- A section read: every word judged in address order, then the section as a whole (R166, R167). Its SECTION_INVALID
report is submitted here, before the CORRECTED reports of later sections: the rules give no order between them, and it
decides what a full queue loses. DESIGN CHOICE, notes/assumptions/41. -/
def Loading.readSection (cells : List (Nat × StoreWord)) (l : Loading) (sec : Section) : Loading :=
  let verdicts := (List.range (sectionSize sec)).map fun k => judgeWord (readCell cells (sectionBase sec + k))
  let l := verdicts.zipIdx.foldl (fun l p => l.readWord (sectionBase sec + p.2) p.1) l
  match verdicts.mapM verdictData with
  | none => l.sectionInvalid sec
  | some ds =>
    let first := wordLo (ds.getD 0 0)
    let last := wordLo (ds.getD (sectionSize sec - 1) 0)
    if first ≠ last ∨ l.otherLayout then l.sectionInvalid sec
    else match loadSection l.config sec ds.tail with
    | none => l.sectionInvalid sec
    | some c =>
      if sec = .header then
        { l with config := c, counter := first, otherLayout := decide ((ds.getD 1 0).toNat ≠ layoutNumber) }
      else { l with config := c }

/-- The loading of the whole store from empty (R166, R167): the fallbacks stand where nothing valid is copied. -/
def loadStore (cells : List (Nat × StoreWord)) : Loading :=
  Section.all.foldl (Loading.readSection cells)
    { config := defaultConfig, queue := ⟨[], false⟩, writeBack := [], invalid := PerSection.const false, counter := 0,
      otherLayout := false }

end Sys2Proof.Machine
end

