-- ==== Sys2Proof/Machine/State.lean ====
section
/-! DEFINITION. State.lean: the state of the part, every record of every block, and the state right after reset. -/

namespace Sys2Proof.Machine

/-- The part never stops: a request it will not do is answered by a refusal reply (R151), and trouble on the apparatus
is state and reports. No command raises a fault, so there is no constructor. Safe. -/
inductive Fault where
  deriving DecidableEq, Repr

/-- Why a command has no meaning in the model. -/
inductive Refusal where
  /-- Raised by an arm of exec whose command is not modelled yet; no arm raises it. Safe. -/
  | notModelled (mnemonic : String)
  deriving DecidableEq, Repr

/-- The whole part: the queue of commands that wait (the model's own, log 2), the clock of the pressure samples in ms
(the model's own, log 3), the strap pin (R147), the working configuration, and what each block owns. The sticky flags
QUEUE_OVERFLOWED and STORE_DEGRADED stand in `reports` and `store`. -/
structure State where
  pending : List Instr
  clock : Nat
  strap : LinkMode
  config : WorkingConfig
  image : InputImage
  matrix : Matrix
  seq : Sequencer
  recoveredAtStart : Bool
  gov : Governor
  tanks : PerTank TankRun
  supply : Supply
  reports : ReportQueue
  store : StoreUnit
  link : LinkPort
  deriving DecidableEq, Repr

/-! ### What each block is after start-up -/

/-- R17: every analog channel begins as if it had faulted. -/
def startChannel : Channel := { value := none, status := .fault, outCount := 3, inCount := 0, faultCode := 0 }

/-- R14, R17. -/
def startLine : LineFilter := { state := .unsettled, count := 0, latch := false, prevRaw := none }

/-- R17. -/
def startMeter : MeterRecord := { flow := 0, flowOver := false, total := 0, litres := 0, remainder := 0 }

/-- R17. -/
def startImage : InputImage :=
  { a0 := startChannel, a1 := startChannel, a2 := startChannel
    levels := PerLevel.const { chan := startChannel, ring := [] }
    lines := PerLine.const startLine, n := 0, v := 0, meters := PerMeter.const startMeter
    gateCount := PerPulse.const 0, gateEnded := PerPulse.const false, complete := false }

/-- R19, R20, R21, R26, R27, R28, R35, R40. -/
def startMatrix : Matrix :=
  { mode := .start, locks := PerEntry.const { state := .clear, timer := none }, permits := PerPermit.const false
    cap := 0, driveInhibit := true, throttleMode := .none, horn := false, muted := false, tankHorn := false
    roll := .under, overspeed := false, overspeedTimer := none }

/-- R42. -/
def startSequencer : Sequencer :=
  { state := .idle, path := .none, stepTimer := none, reason := none, oShiftPump := false, oShiftRoad := false,
    oClutch := false }

/-- No result flag. -/
def noFlags : ResultFlags := { satHigh := false, satLow := false, rate := false, capCut := false, frozen := false }

/-- A cause that is not in the set. -/
def noCause : CauseRecord := { active := false, present := false, target := none }

/-- R82, R96. -/
def startGovernor : Governor :=
  { opMode := .off, opTarget := 0, effMode := .off, effTarget := none, effSetpoint := none, integrator := 0, demand := 0
    flags := noFlags, capCut := false, ring := [], suspect := 0, causes := PerCause.const noCause, saved := none
    overRun := 0, returnRun := 0, primeLossRun := 0, primeReturnRun := 0, cavClearRun := 0, primer := none
    primerElapsed := 0, reliefOpen := false }

/-- R118, R131: a tank of role UNUSED is UNCONFIGURED, any other is BLIND. -/
def startTank (c : TankSettings) : TankRun :=
  { state := if c.role = .unused then .unconfigured else .blind
    h := none, tilt := none, single := false, tilted := false, sensed := none, volume := none, basis := .none
    band := .normal, v0 := none, outMark := none, inMark := none, settleTimer := none }

/-- R132, R139, R144. -/
def startSupply : Supply :=
  { source := .tank, changeover := none, fill := none, tankToPump := false, outflow := 0 }

/-- R147: no partial frame, no waiting reply, the receiver hunting and open, the transmitter idle. -/
def startLink (strap : LinkMode) : LinkPort :=
  { mode := strap, rx := [], restarting := false, replies := [], tx := none }

/-- The machine right after reset: every block at its start-up state (R172), with the working configuration, the
commit counter and the sticky flag STORE_DEGRADED that the loading of a store of defaults leaves (R166, R167). The
store's first contents and the strap pin are DESIGN CHOICE, notes/assumptions/6 and 7. -/
def State.reset : State :=
  { pending := [], clock := 0, strap := .fourWire, config := defaultConfig, image := startImage
    matrix := startMatrix, seq := startSequencer, recoveredAtStart := false, gov := startGovernor
    tanks := PerTank.ofFn fun t => startTank (defaultConfig.tanks.get t)
    supply := startSupply, reports := ⟨[], false⟩
    store := { cells := [], counter := 0, invalid := PerSection.const false, writeBack := [], commit := none,
               degraded := false }
    link := startLink .fourWire }

end Sys2Proof.Machine
end

