-- ==== Sys2Proof/Machine/Ops.lean ====
section
/-! DEFINITION. Ops.lean: the named reads of the state that every block shares, the submission of reports, the
composing of replies, and the transmitter. -/

namespace Sys2Proof.Machine

/-! ### Reads -/

/-- A discrete line is set when its filtered state is HIGH (R1). -/
def State.lineSet (s : State) (l : Line) : Bool := (s.image.lines.get l).state == .high

/-- A discrete line is clear when its filtered state is LOW (R1). -/
def State.lineClear (s : State) (l : Line) : Bool := (s.image.lines.get l).state == .low

/-- The truck is moving when v is 5 or more (R1). -/
def State.moving (s : State) : Bool := 5 ≤ s.image.v

/-- "OK" of a later chapter: OK or CLAMPED, that is, not FAULT (R1). -/
def Channel.good (c : Channel) : Bool := c.status != .fault

/-- P_dis, or absent. -/
def State.pDis (s : State) : Option Int := s.image.a0.value

/-- P_in, or absent. -/
def State.pIn (s : State) : Option Int := s.image.a1.value

/-- The A2 value, or absent. -/
def State.casingTemp (s : State) : Option Int := s.image.a2.value

/-- A comparison with an absent value is false (R6). -/
def optAny (x : Option Int) (p : Int → Bool) : Bool :=
  match x with
  | some v => p v
  | none => false

/-- The engage limit (R23). -/
def State.engageLimit (s : State) : Nat := s.config.idleRpm + 150

/-- N is at or below the engage limit. -/
def State.engineIdle (s : State) : Bool := s.image.n ≤ s.engageLimit

/-- The store is busy: a commit in flight, or a write-back list that is not empty (R166, R170). -/
def State.storeBusy (s : State) : Bool := s.store.commit.isSome || !s.store.writeBack.isEmpty

/-- The governor is OFF (R67). -/
def State.govOff (s : State) : Bool := s.gov.opMode == .off

/-- The set of active causes is empty. -/
def Governor.noCauses (g : Governor) : Bool := Cause.all.all fun c => !(g.causes.get c).active

/-- The set of active causes as a set of bits (R155). -/
def Governor.causeSet (g : Governor) : Nat :=
  bitSet ((Cause.all.filter fun c => (g.causes.get c).active).map causeCode)

/-- The condition-present flags as a set of bits (R77). -/
def Governor.presentSet (g : Governor) : Nat :=
  bitSet ((Cause.all.filter fun c => (g.causes.get c).present).map causeCode)

/-- A timer of so many milliseconds, started now. -/
def State.startTimer (s : State) (ms : Nat) : Timer := { startedAt := s.clock, length := ms }

/-- The time since a timer was started, in ms. -/
def State.elapsed (s : State) (t : Timer) : Nat := s.clock - t.startedAt

/-- The time left on a timer, in units of 0.1 s, rounded up (R37). -/
def State.tenthsLeft (s : State) (t : Timer) : Nat := (t.startedAt + t.length - s.clock + 99) / 100

/-! ### Reports -/

/-- A block submits a report (R160). -/
def State.submit (s : State) (r : Report) : State := { s with reports := s.reports.submit r }

/-- Several reports, one after another in the order given (R160). -/
def State.submitAll (s : State) (rs : List Report) : State := rs.foldl State.submit s

/-! ### Replies (R150, R151) -/

/-- The payload of a reply: outcome byte, three detail bytes, and the record of a DONE reply (R151, R155). -/
def answerPayload : Answer → List Byte
  | .done clamped deferred record => BitVec.ofNat 8 (bit clamped + 2 * bit deferred) :: 0 :: 0 :: 0 :: record
  | .refused reason d1 d2 d3 => [BitVec.ofNat 8 reason.code, d1, d2, d3]

/-- The reply to a request of that kind and tag (R151). -/
def replyOf (kind tag : Byte) (a : Answer) : Reply := { kind := kind + 0x80#8, tag, payload := answerPayload a }

/-- A plain DONE. -/
def Answer.ok : Answer := .done false false []

/-- DONE with a record. -/
def Answer.record (r : List Byte) : Answer := .done false false r

/-- MALFORMED for a wrong payload length (R155: "0 if that length was wrong"). -/
def badLength (payload : List Byte) : Answer := .refused .malformed (BitVec.ofNat 8 payload.length) 0 0

/-- MALFORMED for a field outside its coding, at a payload position counted from 1 (R155). -/
def malformedAt (length position : Nat) : Answer :=
  .refused .malformed (BitVec.ofNat 8 length) (BitVec.ofNat 8 position) 0

/-- UNKNOWN_ITEM with the item as sent, in two bytes (R155). -/
def unknownItem (item : Nat) : Answer :=
  .refused .unknownItem (BitVec.ofNat 8 (item / 256)) (BitVec.ofNat 8 item) 0

/-- WRONG_STATE with its detail bytes (R155). -/
def State.wrongState (s : State) : Answer :=
  .refused .wrongState (BitVec.ofNat 8 s.matrix.mode.code) (BitVec.ofNat 8 s.seq.state.code)
    (BitVec.ofNat 8 s.gov.opMode.code)

/-- NOT_PERMITTED with the set of failing conditions, and the lockout index when LOCKOUT is in the set, otherwise the
apparatus mode (R155). The set's two bytes hold the codes 0 to 15. -/
def State.notPermitted (s : State) (fails : List CondName) (lockout : Option EntryIx) : Answer :=
  let set := bitSet ((fails.map CondName.code).filter (· < 16))
  .refused .notPermitted (BitVec.ofNat 8 (set / 256)) (BitVec.ofNat 8 set)
    (match lockout with
      | some i => BitVec.ofNat 8 (entryNo i)
      | none => BitVec.ofNat 8 s.matrix.mode.code)

/-- CONDITION_PRESENT with a set in two bytes (R155). -/
def conditionPresent (set : Nat) : Answer :=
  .refused .conditionPresent (BitVec.ofNat 8 (set / 256)) (BitVec.ofNat 8 set) 0

/-- BAD_TABLE with the breakpoint's index, or 255 for THRESHOLDS (R155). -/
def badTable (index : Nat) : Answer := .refused .badTable (BitVec.ofNat 8 index) 0 0

/-- STORE_BUSY (R155). -/
def storeBusyAnswer : Answer := .refused .storeBusy 0 0 0

/-- UNKNOWN_KIND with the kind received (R155). -/
def unknownKindAnswer (kind : Byte) : Answer := .refused .unknownKind kind 0 0

/-! ### The transmitter (R152) -/

/-- The transmitter begins a frame. In TWO_WIRE a frame partly received is then discarded (R147). -/
def LinkPort.beginFrame (k : LinkPort) (f : TxFrame) : LinkPort :=
  { k with tx := some f, rx := if k.mode = .twoWire then [] else k.rx }

/-- An idle transmitter with something to send chooses the next frame: the oldest reply, otherwise, in FOUR_WIRE and
with no RESTART accepted, the next deliverable report, which leaves the queue as its frame begins (R152, R154, R163). -/
def State.kick (s : State) : State :=
  match s.link.tx with
  | some _ => s
  | none =>
    match s.link.replies with
    | r :: _ => { s with link := s.link.beginFrame ⟨true, frameBytes r.kind r.tag r.payload⟩ }
    | [] =>
      if s.link.mode = .fourWire ∧ s.link.restarting = false then
        match s.reports.takeNext s.config.gates with
        | none => s
        | some (r, q) =>
          { s with reports := q, link := s.link.beginFrame ⟨false, frameBytes 0x60#8 0#8 (reportRecord r)⟩ }
      else s

/-- The receiver takes the bytes that arrive: it is not closed by four replies or by a RESTART (R150, R154), and in
TWO_WIRE the transmitter is not busy (R147). -/
def State.listening (s : State) : Bool :=
  !s.link.restarting && s.link.replies.length < 4 && !(s.link.mode == .twoWire && s.link.tx.isSome)

/-- An answer becomes a reply at the end of the reply list (R150). -/
def State.pushReply (s : State) (r : Reply) : State :=
  { s with link := { s.link with replies := s.link.replies ++ [r] } }

/-- A request frame of that kind and tag received whole: its owner answers it at this event, and the reply joins the
list (R150, R151). Nothing happens while the receiver does not listen. The receiver then holds no partial frame
(log 1). -/
def State.onFrame (s : State) (kind tag : Byte) (answer : State → State × Answer) : State :=
  if s.listening then
    let s1 := { s with link := { s.link with rx := [] } }
    ((answer s1).1.pushReply (replyOf kind tag (answer s1).2)).kick
  else s

/-- A request that changes nothing. -/
def State.reads (s : State) (a : Answer) : State × Answer := (s, a)

end Sys2Proof.Machine
end

