-- ==== Sys2Proof/Machine/Flags.lean ====
section
/-! DEFINITION. Flags.lean: what is worked from the state and not kept: the failing conditions of the permits (R22 to
R25), the throttle cap (R27), the horn conditions (R40), and the result flags and demand of a governor update (R86 to
R92). -/

namespace Sys2Proof.Machine

/-! ### Lockout entries as they stand -/

/-- An entry's runtime state is TRIPPED or LATCHED. -/
def State.lockHolds (s : State) (i : EntryIx) : Bool :=
  let st := (s.matrix.locks.get i).state
  st == .tripped || st == .latched

/-- The effect bit of a permit (R155). -/
def effectBit : Permit → Nat := permitCode

/-- The effect bit of the horn (R155). -/
def hornBit : Nat := 4

/-- An entry in state TRIPPED or LATCHED has that effect (R33). -/
def State.effectApplies (s : State) (k : Nat) (i : EntryIx) : Bool :=
  match s.config.entries.get i with
  | none => false
  | some e => s.lockHolds i && e.effects.getLsbD k

/-- The lowest index among the TRIPPED or LATCHED entries naming a permit (R21). -/
def State.lowestLockout (s : State) (p : Permit) : Option EntryIx := EntryIx.all.find? (s.effectApplies (effectBit p))

/-! ### Permits (R21 to R25) -/

/-- A failing condition's name, where it fails. -/
def fails (name : CondName) (failing : Bool) : List CondName := if failing then [name] else []

/-- The failing conditions of a permit, by name and in the order of the rules (R22 to R25). -/
def State.permitFails (s : State) (p : Permit) : List CondName :=
  let lockout := fails .lockout (s.lowestLockout p).isSome
  match p with
  | .drive =>
    fails .shaft (s.lineSet .d3) ++ fails .shifting (s.seq.oShiftPump || s.seq.oShiftRoad)
      ++ fails .splitPath (s.seq.path == .split) ++ fails .start (s.matrix.mode == .start) ++ lockout
  | .engage =>
    fails .mode (s.matrix.mode != .road) ++ fails .moving s.moving ++ fails .park (!s.lineSet .d0)
      ++ fails .neutral (!s.lineSet .d1) ++ fails .engine (!s.engineIdle) ++ lockout
  | .throttle =>
    fails .mode (s.matrix.mode != .stationaryPump && s.matrix.mode != .pumpAndRoll)
      ++ fails .brake (s.matrix.mode == .pumpAndRoll && !s.lineClear .d5) ++ lockout
  | .fill => fails .mode (s.matrix.mode != .stationaryPump) ++ fails .moving s.moving ++ lockout

/-- A permit is held when none of its conditions fails (R21). -/
def State.permitHeld (s : State) (p : Permit) : Bool := (s.permitFails p).isEmpty

/-- The throttle cap (R27), from the THROTTLE permit as it stands. -/
def State.throttleCap (s : State) : Nat :=
  if s.matrix.permits.throttle then
    match s.matrix.mode with
    | .stationaryPump => 1000
    | .pumpAndRoll => match s.matrix.roll with
      | .under => s.config.rollCap
      | .over => 0
    | .road | .transfer | .faultHold | .start => 0
  else 0

/-! ### The horn (R40) -/

/-- Tank 0's band is EMPTY while the source is TANK and the sequencer is ENGAGED or HELD. -/
def State.tankHornCondition (s : State) : Bool :=
  (s.tanks.get .t0).band == .empty && s.supply.source == .tank
    && (s.seq.state == .engaged || s.seq.state == .held)

/-- At least one horn condition holds. -/
def State.hornCondition (s : State) : Bool :=
  EntryIx.all.any (s.effectApplies hornBit) || !s.gov.noCauses || s.matrix.overspeed || s.tankHornCondition

/-! ### The governor update (R84 to R92) -/

/-- The step of the setpoint ramp (R71). -/
def rampStep (m : GovMode) : Int := if m = .rpm then 25 else 20

/-- The effective setpoint moved toward the effective target (R71). -/
def ramp (m : GovMode) (setpoint target : Int) : Int :=
  if (target - setpoint).natAbs ≤ (rampStep m).natAbs then target
  else if setpoint < target then setpoint + rampStep m else setpoint - rampStep m

/-- What an update produces: the integrator, the demand and the result flags. -/
structure UpdateResult where
  integrator : Nat
  demand : Nat
  flags : ResultFlags
  deriving DecidableEq, Repr

/-- Stages 5 and 6 (R92): the rate limit and the limit, from the raw demand. -/
def limitStages (g : Governor) (rateStep cap : Nat) (raw : Int) (integrator : Nat) (frozen : Bool) : UpdateResult :=
  let r := clampInt (g.demand - rateStep) (g.demand + rateStep) raw
  { integrator
    demand := (clampInt 0 cap r).toNat
    flags := { satHigh := decide ((cap : Int) < raw), satLow := decide (raw < 0), rate := decide (r ≠ raw)
               capCut := decide ((cap : Int) < r) || g.capCut, frozen } }

/-- The anti-windup test of stage 3 (R88). -/
def frozenTest (g : Governor) (e : Int) : Bool :=
  ((g.flags.satHigh || g.capCut) && decide (0 < e)) || (g.flags.satLow && decide (e < 0))

/-- Stages 1 to 6 of an update in a working mode, from the error (R86 to R92). -/
def workingStages (g : Governor) (kp ki rateStep cap : Nat) (e : Int) : UpdateResult :=
  let p := Int.tdiv (kp * e) 64
  let frozen := frozenTest g e
  let integrator := if frozen then g.integrator else (clampInt 0 256000 (g.integrator + ki * e)).toNat
  limitStages g rateStep cap ((integrator / 256 : Nat) + p) integrator frozen

/-- Stages 5 and 6 in effective mode IDLE: integrator and raw demand 0 (R91). -/
def idleStages (g : Governor) (rateStep cap : Nat) : UpdateResult := limitStages g rateStep cap 0 0 false

end Sys2Proof.Machine
end

