-- ==== Sys2Proof/Machine/Protection.lean ====
section
/-! DEFINITION. Protection.lean: the horn's judgement (R40, R41), and the shared operations of the governor: effective
mode and bumpless start (R69, R72), raising, absence and the end of causes (R96 to R111), and the judgements that events
other than updates call (R103, R106, R107, R112). -/

namespace Sys2Proof.Machine

/-! ### The horn -/

/-- O_HORN judged: the tank condition going from false to true ends the mute, and so does the last condition's going
(R40, R41). -/
def State.judgeHorn (s : State) : State :=
  let tank := s.tankHornCondition
  let any := s.hornCondition
  let muted := (if tank && !s.matrix.tankHorn then false else s.matrix.muted) && any
  { s with matrix := { s.matrix with tankHorn := tank, muted, horn := any && !muted } }

/-- A horn condition newly arises: the mute ends, and the horn is judged (R41). -/
def State.hornArises (s : State) : State := { s with matrix := { s.matrix with muted := false } }.judgeHorn

/-! ### Effective mode and bumpless start -/

/-- PRESSURE, RPM and LIMIT: the modes with a setpoint (R66). -/
def GovMode.working : GovMode → Bool
  | .pressure | .rpm | .limit => true
  | .off | .idle => false

/-- PRESSURE and LIMIT: the modes that govern by P_dis (R67). -/
def GovMode.byPressure : GovMode → Bool
  | .pressure | .limit => true
  | .off | .idle | .rpm => false

/-- The range of a mode's setpoint (R68). -/
def WorkingConfig.setpointRange (c : WorkingConfig) (m : GovMode) : Int × Int :=
  match m with
  | .rpm => (c.idleRpm, c.gov.rpmSetMax)
  | .off | .idle | .pressure | .limit => (0, c.gov.pSetMax)

/-- A setpoint clamped into the range of its mode (R68). -/
def WorkingConfig.clampSetpoint (c : WorkingConfig) (m : GovMode) (x : Int) : Int :=
  clampInt (c.setpointRange m).1 (c.setpointRange m).2 x

/-- The measured value of a mode's quantity; an absent P_dis counts as the low end of the range (R72). -/
def State.measured (s : State) (m : GovMode) : Int :=
  match m with
  | .rpm => s.image.n
  | .off | .idle | .pressure | .limit => s.pDis.getD (s.config.setpointRange m).1

/-- The history ring emptied and the suspect count made 0 (R72). -/
def Governor.emptyRing (g : Governor) : Governor := { g with ring := [], suspect := 0 }

/-- The bumpless start into a working mode (R72), with the ring emptied (R72, R98). -/
def State.bumpless (s : State) (m : GovMode) (target : Int) : State :=
  { s with gov := { s.gov.emptyRing with
      effMode := m
      integrator := min (s.gov.demand * 256) 256000
      effSetpoint := some (s.config.clampSetpoint m (s.measured m))
      effTarget := some target } }

/-- The effective mode made a mode without a setpoint: target and setpoint become absent, and a change of mode empties
the ring (R69, R72). -/
def State.effectiveRest (s : State) (m : GovMode) : State :=
  let g := if s.gov.effMode = m then s.gov else s.gov.emptyRing
  { s with gov := { g with effMode := m, effTarget := none, effSetpoint := none } }

/-- The effective mode and target taken, by a bumpless start where the mode is a working one. -/
def State.takeEffective (s : State) (m : GovMode) (target : Int) : State :=
  if m.working then s.bumpless m target else s.effectiveRest m

/-! ### Causes and their actions (R98) -/

/-- The rank of a cause's action, 1 the highest. -/
def causeRank : Cause → Nat
  | .primeLost | .overheatCut | .tankEmpty => 1
  | .cavitation => 2
  | .pressureSensor => 3
  | .overpressure => 4

/-- The effective mode of a cause's action. -/
def causeMode : Cause → GovMode
  | .primeLost | .overheatCut | .tankEmpty => .idle
  | .cavitation | .pressureSensor => .rpm
  | .overpressure => .pressure

/-- The action target that a raising fixes. -/
def State.actionTarget (s : State) : Cause → Option Int
  | .primeLost | .overheatCut | .tankEmpty => none
  | .cavitation => some (clampInt s.config.idleRpm s.config.gov.rpmSetMax ((s.image.n : Int) - 300))
  | .pressureSensor => some (clampInt s.config.idleRpm s.config.gov.rpmSetMax s.image.n)
  | .overpressure => some (clampInt 0 s.config.gov.pSetMax ((s.config.gov.pLimit : Int) - 200))

/-- The highest-ranked cause of the set. -/
def Governor.governingCause (g : Governor) : Option Cause :=
  [Cause.primeLost, .overheatCut, .tankEmpty, .cavitation, .pressureSensor, .overpressure].find?
    fun c => (g.causes.get c).active

/-- Every other cause in the set has a lower rank. -/
def Governor.outranksAll (g : Governor) (c : Cause) : Bool :=
  Cause.all.all fun d => d == c || !(g.causes.get d).active || causeRank c < causeRank d

/-- The effective mode and target by R69 while the sequencer is ENGAGED: the operator's, or those of the highest-ranked
action. -/
def State.takeGoverning (s : State) : State :=
  match s.gov.governingCause with
  | none => s.takeEffective s.gov.opMode s.gov.opTarget
  | some c => s.takeEffective (causeMode c) (((s.gov.causes.get c).target).getD 0)

/-- The protection record with one cause's record replaced. -/
def State.setCause (s : State) (c : Cause) (r : CauseRecord) : State :=
  { s with gov := { s.gov with causes := s.gov.causes.set c r } }

/-- The runs that a cause's raising makes 0 (R101, R102, R105). -/
def Governor.runsAtRaising (g : Governor) : Cause → Governor
  | .cavitation => { g with cavClearRun := 0 }
  | .primeLost => { g with primeReturnRun := 0 }
  | .overpressure => { g with returnRun := 0 }
  | .overheatCut | .tankEmpty | .pressureSensor => g

/-- The effective mode settled after a cause has joined the set (R98): taken while ENGAGED where the new cause outranks
every other. -/
def State.settleRaised (s : State) (c : Cause) : State :=
  if s.seq.state = .engaged ∧ s.gov.outranksAll c then
    s.takeEffective (causeMode c) (((s.gov.causes.get c).target).getD 0)
  else s

/-- The PROTECTION report of a raising: the measurement, then the set after the event (R97). -/
def State.reportRaised (s : State) (c : Cause) (values : List Byte) : State :=
  s.submit (protReport (causeSubject c) .raised (values ++ u8 s.gov.causeSet))

/-- A cause's raising condition holds at one of its judging events (R97), with the measurement. Nothing while the
governor is OFF (R108). -/
def State.raiseCause (s : State) (c : Cause) (values : List Byte) : State :=
  if s.govOff then s
  else
    let r := s.gov.causes.get c
    if r.active then
      if r.present then s else (s.setCause c { r with present := true }).reportRaised c values
    else
      let saved := if s.gov.noCauses then some ⟨s.gov.opMode, s.gov.opTarget⟩ else s.gov.saved
      let s1 := { s with gov := ({ s.gov with saved }).runsAtRaising c }
      let s2 := s1.setCause c { active := true, present := true, target := s.actionTarget c }
      ((s2.reportRaised c values).hornArises).settleRaised c

/-- A cause's absence condition holds at one of its judging events (R99), with the measurement. -/
def State.causeAbsent (s : State) (c : Cause) (values : List Byte) : State :=
  let r := s.gov.causes.get c
  if r.active && r.present then
    (s.setCause c { r with present := false }).submit (protReport (causeSubject c) .conditionGone values)
  else s

/-- A cause leaves the set, with its CLEARED report (R99). -/
def State.causeLeaves (s : State) (c : Cause) : State :=
  if (s.gov.causes.get c).active then (s.setCause c noCause).submit (protReport (causeSubject c) .cleared []) else s

/-- Every cause leaves the set (R109, R111), in the order of the codes: the rules give no order of the CLEARED reports
(log 41). -/
def State.allCausesLeave (s : State) : State := Cause.all.foldl State.causeLeaves s

/-! ### Judgements outside the update -/

/-- PRESSURE_SENSOR judged (R107): at a change of A0's status, of the operator mode or the effective mode, and as the
governor leaves OFF. A held value that A0 never had is shown as -32768: R107 gives no indication (DEDUCED,
notes/assumptions/15). -/
def State.judgePressureSensor (s : State) : State :=
  if s.image.a0.good then s.causeAbsent .pressureSensor (optI16 s.pDis)
  else if s.gov.opMode.byPressure || s.gov.effMode.byPressure then s.raiseCause .pressureSensor (optI16 s.pDis)
  else s

/-- A raising, and the judgement of PRESSURE_SENSOR where the effective mode changed by it (R97, R107). -/
def State.raise (s : State) (c : Cause) (values : List Byte) : State :=
  let t := s.raiseCause c values
  if t.gov.effMode = s.gov.effMode then t else t.judgePressureSensor

/-- OVERHEAT_CUT judged on the A2 value (R103). -/
def State.judgeOverheat (s : State) : State :=
  match s.casingTemp with
  | none => s
  | some t =>
    let cut : Int := s.config.gov.tempCut
    let on : Int := s.config.gov.tempReliefOn
    if cut ≤ t then s.raise .overheatCut (i16 t)
    else if t ≤ min (on - 10) (cut - 10) then s.causeAbsent .overheatCut (i16 t)
    else s

/-- TANK_EMPTY judged on tank 0's band and the source (R106). -/
def State.judgeTankEmpty (s : State) : State :=
  let values := optU16 (s.tanks.get .t0).volume
  if s.supply.source = .tank ∧ (s.tanks.get .t0).band = .empty then s.raise .tankEmpty values
  else s.causeAbsent .tankEmpty values

/-- The relief valve judged on the A2 value (R112). -/
def State.judgeRelief (s : State) : State :=
  match s.casingTemp with
  | none => s
  | some t =>
    let on : Int := s.config.gov.tempReliefOn
    if s.gov.reliefOpen then
      if t ≤ on - 10 then
        ({ s with gov := { s.gov with reliefOpen := false } }).submit (protReport .overheat .cleared (i16 t))
      else s
    else if on ≤ t then
      ({ s with gov := { s.gov with reliefOpen := true } }).submit (protReport .overheat .reliefOpen (i16 t))
    else s

/-! ### The primer -/

/-- A running primer becomes IDLE and O_PRIMER goes off; its elapsed time stays as it stood (R113, R114; log 19). -/
def State.stopPrimer (s : State) : State :=
  match s.gov.primer with
  | none => s
  | some r => { s with gov := { s.gov with primer := none, primerElapsed := s.elapsed r.timer } }

/-! ### The governor and the engagement (R78 to R80, R111) -/

/-- The governor's throttle let go at once: demand and integrator 0, the result flags and the cap-cut mark cleared
(R79, R80, R93). -/
def Governor.dropThrottle (g : Governor) : Governor :=
  { g with demand := 0, integrator := 0, flags := noFlags, capCut := false }

/-- The governor goes OFF (R80). -/
def State.governorOff (s : State) : State :=
  ((({ s with gov := { s.gov.dropThrottle with opMode := .off, opTarget := 0 } }).effectiveRest .off)).judgePressureSensor

/-- The governor takes the hold, and the ring is emptied (R79). -/
def State.governorHold (s : State) : State :=
  let t := ({ s with gov := { s.gov.dropThrottle with opMode := .idle } }).effectiveRest .idle
  ({ t with gov := { t.gov with ring := [] } }).judgePressureSensor

/-- The governor takes operator mode IDLE as the sequencer enters ENGAGED (R78). Where it leaves OFF, the causes that
are judged at that event are judged (R103, R106, R107). -/
def State.governorEngage (s : State) : State :=
  let left := s.govOff
  let g := if left then s.gov.emptyRing else s.gov
  let t := ({ s with gov := { g with opMode := .idle } }).takeGoverning
  if left then (t.judgeOverheat.judgeTankEmpty).judgePressureSensor else t.judgePressureSensor

/-- The protection record is discarded, and the primer stops (R111). -/
def State.discardProtection (s : State) : State :=
  let t := s.allCausesLeave
  (({ t with gov := { t.gov.emptyRing with
      causes := PerCause.const noCause, saved := none, overRun := 0, returnRun := 0, primeLossRun := 0
      primeReturnRun := 0, cavClearRun := 0 } }).judgeHorn).stopPrimer

/-- Control returns to the operator as an accepted RESUME gives it (R105, R109): every cause leaves the set, the runs of
R101, R102 and R105 become 0, the saved context becomes the operator mode and target, the effective mode follows, and
PRESSURE_SENSOR is judged afresh. -/
def State.returnToOperator (s : State) : State :=
  let t := s.allCausesLeave
  let context := t.gov.saved.getD ⟨t.gov.opMode, t.gov.opTarget⟩
  let g := { t.gov.emptyRing with
      opMode := context.mode, opTarget := context.target, saved := none
      returnRun := 0, primeLossRun := 0, primeReturnRun := 0, cavClearRun := 0 }
  ((({ t with gov := g }).takeEffective context.mode context.target).judgeHorn).judgePressureSensor

end Sys2Proof.Machine
end

