-- ==== Sys2Proof/Machine/Matrix.lean ====
section
/-! DEFINITION. Matrix.lean: the interlock matrix's shared operations. The permits, the cap and its handover to the
governor (R21, R27, R93), the lockout entries (R30 to R34), the change of apparatus mode with what it hands to the
governor and the tank unit (R18, R20, R28, R114, R139, R143), and the roll limits (R26, R28). -/

namespace Sys2Proof.Machine

/-! ### What the tank unit and the governor do at a hand-over -/

/-- A fill is abandoned: FILL_FAULT with its state, V and the target, and O_FILL closes (R145). -/
def State.abandonFill (s : State) (st : ReportState) : State :=
  match s.supply.fill with
  | none => s
  | some f =>
    ({ s with supply := { s.supply with fill := none } }).submit
      (stateReport .fillFault 0 st (optU16 (s.tanks.get .t0).volume ++ u16 f.target))

/-- The valve's law (R139): open while the mode is STATIONARY_PUMP, PUMP_AND_ROLL or FAULT_HOLD and the source is TANK
or a changeover from TANK is in progress. -/
def State.valveOpen (s : State) : Bool :=
  (s.matrix.mode == .stationaryPump || s.matrix.mode == .pumpAndRoll || s.matrix.mode == .faultHold)
    && (s.supply.source == .tank || s.supply.changeover.isSome)

/-- O_TANK_TO_PUMP judged (R139). -/
def State.judgeValve (s : State) : State := { s with supply := { s.supply with tankToPump := s.valveOpen } }

/-- A changeover is dropped without report (R143). -/
def State.dropChangeover (s : State) : State := { s with supply := { s.supply with changeover := none } }

/-! ### Permits and cap -/

/-- The values of a PERMIT report: the failing conditions in 3 bytes, and the lowest lockout index or 255 (R21). -/
def State.permitValues (s : State) (p : Permit) : List Byte :=
  u24 (bitSet ((s.permitFails p).map CondName.code)) ++
    u8 (match s.lowestLockout p with | some i => entryNo i | none => 255)

/-- One permit recomputed (R21): a change is kept, reported, and for DRIVE driven on O_DRIVE_INHIBIT (R22). -/
def State.recomputePermit (s : State) (p : Permit) : State :=
  let held := s.permitHeld p
  if held = s.matrix.permits.get p then s
  else
    let m := { s.matrix with permits := s.matrix.permits.set p held }
    let m := if p = .drive then { m with driveInhibit := !held } else m
    ({ s with matrix := m }).submit
      (stateReport .permit (permitCode p) (if held then .held else .withheld) (s.permitValues p))

/-- The governor takes a cap lower than its demand at once, and marks a cap cut (R93). -/
def State.cutDemand (s : State) (cap : Nat) : State :=
  if cap < s.gov.demand then { s with gov := { s.gov with demand := cap, capCut := true } } else s

/-- The cap recomputed, and handed to the governor where it changes (R27, R93). -/
def State.recomputeCap (s : State) : State :=
  let cap := s.throttleCap
  if cap = s.matrix.cap then s else ({ s with matrix := { s.matrix with cap } }).cutDemand cap

/-- All four permits and the cap recomputed; a fill in progress is abandoned as FILL becomes withheld (R21, R27, R145). The
PERMIT reports go in the order of the permits' codes, and FILL_FAULT after them: the rules give no order (log 41). -/
def State.recomputePermits (s : State) : State :=
  let t := Permit.all.foldl State.recomputePermit s
  let t := if s.matrix.permits.fill && !t.matrix.permits.fill then t.abandonFill .abandoned else t
  t.recomputeCap

/-! ### Lockout entries -/

/-- A condition, as the inputs stand (R30). -/
def State.lockCondition (s : State) : LockCond → Bool
  | .line l high => if high then s.lineSet l else s.lineClear l
  | .roadSpeedAbove v => v < s.image.v
  | .engineAbove n => n < s.image.n
  | .tankBand t empty =>
    (s.tanks.get t).basis != .none &&
      ((s.tanks.get t).band == .empty || (!empty && (s.tanks.get t).band == .reserve))
  | .pumpTempAbove t => optAny s.casingTemp fun x => decide ((t : Int) < x)

/-- An entry is armed while the mode is one of its armed modes; no entry is armed in FAULT_HOLD or START (R29). -/
def State.armed (s : State) (e : LockoutEntry) : Bool :=
  match s.matrix.mode with
  | .road | .transfer | .stationaryPump | .pumpAndRoll => e.armed.getLsbD s.matrix.mode.code
  | .faultHold | .start => false

/-- The runtime state an entry moves to, from its arming and its condition (R31, R32, R33). -/
def lockNext (e : LockoutEntry) (armed cond : Bool) : LockState → LockState
  | .clear => if armed && cond then (if e.delay = 0 then .tripped else .pending) else .clear
  | .pending => if armed && cond then .pending else .clear
  | .tripped =>
    if cond then (if armed || e.latching then .tripped else .clear) else if e.latching then .latched else .clear
  | .latched => if cond then .tripped else .latched

/-- The values of a LOCKOUT_TRIP report: the entry's effects and its condition kind (R34). -/
def lockValues (e : LockoutEntry) : List Byte := u8 e.effects.toNat ++ u8 (condKind e.cond)

/-- The LOCKOUT_TRIP report of a move, where R34 asks for one. -/
def lockReport (i : EntryIx) (e : LockoutEntry) (old new : LockState) : List Report :=
  let r := codedReport .lockoutTrip (entryNo i) new.code (lockValues e)
  match new with
  | .tripped | .latched => [r]
  | .clear => if old = .tripped ∨ old = .latched then [r] else []
  | .pending => []

/-- An entry moved to a runtime state: the delay timer runs in PENDING alone, the report is submitted, and an entry with
HORN that enters TRIPPED is a horn condition newly arising (R31 to R34, R41). -/
def State.moveLock (s : State) (i : EntryIx) (e : LockoutEntry) (new : LockState) : State :=
  let old := (s.matrix.locks.get i).state
  if new = old then s
  else
    let timer := if new = .pending then some (s.startTimer (e.delay * 100)) else none
    let m := { s.matrix with locks := s.matrix.locks.set i { state := new, timer } }
    let m := if new = .tripped ∧ e.effects.getLsbD hornBit then { m with muted := false } else m
    ({ s with matrix := m }).submitAll (lockReport i e old new)

/-- One entry judged from its arming and its condition as they stand. -/
def State.judgeLock (s : State) (i : EntryIx) : State :=
  match s.config.entries.get i with
  | none => s
  | some e => s.moveLock i e (lockNext e (s.armed e) (s.lockCondition e.cond) (s.matrix.locks.get i).state)

/-- The entries whose condition a selection names are judged, in index order (R30). -/
def State.judgeLocks (s : State) (sel : LockCond → Bool) : State :=
  EntryIx.all.foldl (fun s i =>
    match s.config.entries.get i with
    | none => s
    | some e => if sel e.cond then s.judgeLock i else s) s

/-- What the matrix does at an event that changes an input of its own: the entries concerned, then the permits and the
cap, then the horn (R21, R30, R33, R40). -/
def State.matrixJudge (s : State) (sel : LockCond → Bool) : State := ((s.judgeLocks sel).recomputePermits).judgeHorn

/-- The same, for an event that makes no condition to be judged again. -/
def State.matrixRecompute (s : State) : State := s.recomputePermits.judgeHorn

/-! ### The apparatus mode -/

/-- The mode that a sequencer state and path give (R18). A path of NONE in a state other than IDLE does not arise;
ENGAGED with it is given TRANSFER (log 29). -/
def modeOf (st : SeqState) (path : DrivePath) : AppMode :=
  match st with
  | .idle => .road
  | .engaged => match path with
    | .split => .stationaryPump
    | .clutch => .pumpAndRoll
    | .none => .transfer
  | .held => .faultHold
  | .shifting | .awaitRange | .clutching | .awaitConfirm | .idlingDown | .releasing => .transfer

/-- R20. -/
def throttleModeOf : AppMode → ThrottleMode
  | .stationaryPump => .sole
  | .pumpAndRoll => .ceiling
  | .road | .transfer | .faultHold | .start => .none

/-- Roll overspeed cleared, with its report (R28). -/
def State.clearOverspeed (s : State) : State :=
  if s.matrix.overspeed then
    ({ s with matrix := { s.matrix with overspeed := false } }).submit
      (protReport .rollOverspeed .cleared (u16 s.image.v))
  else s

/-- The mode set, with O_THROTTLE_MODE and the roll overspeed timer and condition (R18, R20, R28). -/
def State.setMode (s : State) (m : AppMode) : State :=
  let t := { s with matrix := { s.matrix with
    mode := m, throttleMode := throttleModeOf m
    overspeedTimer := if m = .pumpAndRoll then s.matrix.overspeedTimer else none } }
  if m = .road then t.clearOverspeed else t

/-- The new mode handed to the governor and the tank unit: the primer stops outside STATIONARY_PUMP (R114), a changeover
is abandoned outside STATIONARY_PUMP and FAULT_HOLD (R143), and the valve is judged (R139). -/
def State.handMode (s : State) : State :=
  let t := if s.matrix.mode = .stationaryPump then s else s.stopPrimer
  let t := if s.matrix.mode = .stationaryPump ∨ s.matrix.mode = .faultHold then t else t.dropChangeover
  t.judgeValve

/-- A change of mode taken whole: set, handed on, every lockout entry judged against it, then permits, cap and horn
(R18). A mode that stays leaves the entries alone. -/
def State.enterMode (s : State) (m : AppMode) : State :=
  if m = s.matrix.mode then s.matrixRecompute else ((s.setMode m).handMode).matrixJudge fun _ => true

/-- The matrix takes a sequencer state change (R18); START ends by completeness alone (R19). -/
def State.matrixTake (s : State) : State :=
  s.enterMode (if s.matrix.mode = .start then .start else modeOf s.seq.state s.seq.path)

/-! ### The roll limits -/

/-- The roll return speed (R26). -/
def State.rollReturn (s : State) : Nat := s.config.rollCeiling - 20

/-- The roll-speed state judged against the present v (R26). -/
def State.judgeRoll (s : State) : State :=
  let roll := match s.matrix.roll with
    | .under => if s.config.rollCeiling < s.image.v then .over else .under
    | .over => if s.image.v ≤ s.rollReturn then .under else .over
  { s with matrix := { s.matrix with roll } }

/-- The roll overspeed watch at an F1 gate end (R28). -/
def State.judgeOverspeed (s : State) : State :=
  let s := if s.image.v ≤ s.config.rollCeiling then s.clearOverspeed else s
  let timer := match s.matrix.overspeedTimer with
    | some t => if s.image.v ≤ s.config.rollCeiling + 20 then none else some t
    | none =>
      if s.matrix.mode = .pumpAndRoll ∧ s.matrix.overspeed = false ∧ s.config.rollCeiling + 20 < s.image.v then
        some (s.startTimer 5000)
      else none
  { s with matrix := { s.matrix with overspeedTimer := timer } }

end Sys2Proof.Machine
end

