-- ==== Sys2Proof/Machine/Sequencer.lean ====
section
/-! DEFINITION. Sequencer.lean: the engagement sequencer's shared operations, one per state entered (R42 to R64), and
what a change of a line, of N or of v does to it. Inside one event the order is: FEEDBACK_LOST CLEARED or the FAULT report,
new state with its STEP report, governor, tank unit, interlock matrix (notes/assumptions/12 and 41). -/

namespace Sys2Proof.Machine

/-! ### The record and its reports -/

/-- A window, in milliseconds (R43; the neutral wait is fixed at 30 s). -/
def WorkingConfig.windowMs (c : WorkingConfig) : StepWindow → Nat
  | .shift => c.windows.shift * 1000
  | .range => c.windows.range * 1000
  | .clutch => c.windows.clutch * 1000
  | .confirm => c.windows.confirm * 1000
  | .idleDown => c.windows.idleDown * 1000
  | .release => c.windows.release * 1000
  | .neutral => 30000

/-- The step timer started with a window, as configured now (R43). -/
def State.stepTimer (s : State) (w : StepWindow) : Option StepTimer :=
  some { window := w, timer := s.startTimer (s.config.windowMs w) }

/-- The SEQUENCE STEP report of the state just entered (R44). No record of the manual holds a reason, so that its value is
one byte is the model's choice (DESIGN CHOICE, notes/assumptions/15). -/
def State.reportStep (s : State) : State :=
  s.submit (codedReport .step 0 s.seq.state.code
    (u8 s.seq.path.code ++ u8 (modeOf s.seq.state s.seq.path).code ++ u8 (reasonCode s.seq.reason)))

/-- A SEQUENCE FAULT report: the state in which it arose and the path, then any further values (R44). -/
def State.reportFault (s : State) (f : SeqFault) (more : List Byte) : State :=
  s.submit (codedReport .fault 0 f.code (u8 s.seq.state.code ++ u8 s.seq.path.code ++ more))

/-- A new sequencer record, with its STEP report (R44). -/
def State.setSeq (s : State) (q : Sequencer) : State := ({ s with seq := q }).reportStep

/-- The step timer is timing that window. -/
def State.timing (s : State) (w : StepWindow) : Bool :=
  match s.seq.stepTimer with
  | some t => t.window == w
  | none => false

/-! ### Feedback (R53, R54, R56) -/

/-- The lines that are the feedback of a path (R54). -/
def feedbackLines : DrivePath → List Line
  | .split => [.d2, .d3]
  | .clutch => [.d4]
  | .none => []

/-- The feedback lines of the path that are not set (R54). -/
def State.missingFeedback (s : State) : List Line := (feedbackLines s.seq.path).filter fun l => !s.lineSet l

/-- The SOURCE check: TANK with no changeover in progress (R45, R54). -/
def State.sourceReady (s : State) : Bool := s.supply.source == .tank && s.supply.changeover.isNone

/-! ### The end of an engagement (R64) -/

/-- The tank unit's part of R64: any changeover is dropped without report and any fill stopped. -/
def State.endSupply (s : State) : State :=
  ({ s with supply := { s.supply with changeover := none, fill := none } }).judgeValve

/-- Entering IDLE (R64). -/
def State.enterIdle (s : State) : State :=
  let t := s.setSeq { s.seq with state := .idle, path := .none, stepTimer := none, reason := none
                                 oShiftPump := false, oShiftRoad := false, oClutch := false }
  ((t.discardProtection).endSupply).matrixTake

/-- Entering HELD from RELEASING, at the expiry of the release window (R61, R63, R64). -/
def State.enterHeldTimeout (s : State) : State :=
  let t := s.reportFault .releaseTimeout []
  let t := t.setSeq { t.seq with state := .held, stepTimer := none, reason := some .timeout, oShiftRoad := false }
  ((t.discardProtection).endSupply).matrixTake

/-! ### Releasing (R61 to R63) -/

/-- The conditions of the road shift after the first (R62). -/
def State.roadShiftConditions (s : State) : Bool :=
  s.lineClear .d2 && s.lineSet .d1 && !s.moving && s.gov.demand == 0 && s.engineIdle

/-- The road shift judged (R62): it begins when all conditions hold, and is let go when any after the first fails. -/
def State.judgeRoadShift (s : State) : State :=
  if s.seq.state = .releasing ∧ s.seq.path = .split then
    if s.seq.oShiftRoad then
      if s.roadShiftConditions then s
      else ({ s with seq := { s.seq with oShiftRoad := false, stepTimer := none } }).matrixRecompute
    else if s.lineSet .d3 && s.roadShiftConditions then
      ({ s with seq := { s.seq with oShiftRoad := true, stepTimer := s.stepTimer .release } }).matrixRecompute
    else s
  else s

/-- Entering RELEASING on the clutch path (R61). -/
def State.enterReleasingClutch (s : State) : State :=
  let t := (s.setSeq { s.seq with state := .releasing, oClutch := false, stepTimer := s.stepTimer .release }).matrixTake
  if t.lineClear .d4 then t.enterIdle else t

/-- Entering RELEASING on the split path (R62). -/
def State.enterReleasingSplit (s : State) : State :=
  let t := (s.setSeq { s.seq with
    state := .releasing
    stepTimer := if s.lineClear .d3 then none else s.stepTimer .neutral }).matrixTake
  if t.lineClear .d3 then t.enterIdle else t.judgeRoadShift

/-- Entering RELEASING on the path that is driven. -/
def State.enterReleasing (s : State) : State :=
  match s.seq.path with
  | .clutch => s.enterReleasingClutch
  | .split | .none => s.enterReleasingSplit

/-- N judged while IDLING_DOWN (R60). -/
def State.judgeIdlingDown (s : State) : State :=
  if s.seq.state = .idlingDown ∧ s.engineIdle then s.enterReleasing else s

/-- Entering IDLING_DOWN with its reason (R60): both shift solenoids are off, O_CLUTCH stays as it is. -/
def State.enterIdlingDown (s : State) (r : SeqReason) : State :=
  let t := s.setSeq { s.seq with state := .idlingDown, reason := some r, stepTimer := s.stepTimer .idleDown
                                 oShiftPump := false, oShiftRoad := false }
  ((t.governorOff).matrixTake).judgeIdlingDown

/-- A fault of the engagement, then IDLING_DOWN (R49 to R53). -/
def State.faultToIdlingDown (s : State) (f : SeqFault) (r : SeqReason) : State :=
  (s.reportFault f []).enterIdlingDown r

/-! ### Engaging (R46 to R56) -/

/-- Entering SHIFTING (R46). -/
def State.enterShifting (s : State) : State :=
  (s.setSeq { s.seq with state := .shifting, path := .split, oShiftPump := true
                         stepTimer := s.stepTimer .shift }).matrixTake

/-- Entering CLUTCHING (R47). -/
def State.enterClutching (s : State) : State :=
  (s.setSeq { s.seq with state := .clutching, path := .clutch, oClutch := true
                         stepTimer := s.stepTimer .clutch }).matrixTake

/-- Entering AWAIT_CONFIRM (R50, R52). -/
def State.enterAwaitConfirm (s : State) : State :=
  (s.setSeq { s.seq with state := .awaitConfirm, stepTimer := s.stepTimer .confirm }).matrixTake

/-- Entering AWAIT_RANGE, and passing on where D2 is already set (R49, R50). -/
def State.enterAwaitRange (s : State) : State :=
  let t := (s.setSeq { s.seq with state := .awaitRange, oShiftPump := false, stepTimer := s.stepTimer .range }).matrixTake
  if t.lineSet .d2 then t.enterAwaitConfirm else t

/-- FEEDBACK_LOST cleared as a HELD with reason FEEDBACK is left (R55, R57). Both rules say "at this event" and give no order
against the STEP report and the reports of governor and matrix: the model submits CLEARED first. DESIGN CHOICE,
notes/assumptions/41. -/
def State.clearFeedbackLost (s : State) : State :=
  if s.seq.state = .held ∧ s.seq.reason = some .feedback then s.submit (protReport .feedbackLost .cleared []) else s

/-- Entering ENGAGED (R55). FEEDBACK_LOST CLEARED comes before the STEP report, and both before what governor and matrix
report (log 41). -/
def State.enterEngaged (s : State) : State :=
  let t := s.clearFeedbackLost
  let t := t.setSeq { t.seq with state := .engaged, stepTimer := none, reason := none
                                 oClutch := t.seq.oClutch || t.seq.path == .clutch }
  (t.governorEngage).matrixTake

/-- Entering HELD from ENGAGED as the feedback is lost (R56): STEP, then FEEDBACK_LOST RAISED (log 41). -/
def State.enterHeldFeedback (s : State) : State :=
  let t := s.setSeq { s.seq with state := .held, stepTimer := none, reason := some .feedback }
  ((t.submit (protReport .feedbackLost .raised [])).governorHold).matrixTake

/-! ### Changes of lines (R49 to R63) -/

/-- What the sequencer does when a line has changed, the image already holding every line's new state. -/
def State.seqLineChange (s : State) (l : Line) : State :=
  match s.seq.state with
  | .shifting => if l = .d3 ∧ s.lineSet .d3 then s.enterAwaitRange else s
  | .awaitRange =>
    if l = .d2 ∧ s.lineSet .d2 then s.enterAwaitConfirm
    else if l = .d3 ∧ s.lineClear .d3 then s.faultToIdlingDown .feedbackDropped .feedback
    else s
  | .clutching => if l = .d4 ∧ s.lineSet .d4 then s.enterAwaitConfirm else s
  | .awaitConfirm =>
    if (feedbackLines s.seq.path).contains l ∧ s.lineClear l then s.faultToIdlingDown .feedbackDropped .feedback else s
  | .engaged => if (feedbackLines s.seq.path).contains l ∧ s.lineClear l then s.enterHeldFeedback else s
  | .releasing => match s.seq.path with
    | .clutch => if l = .d4 ∧ s.lineClear .d4 then s.enterIdle else s
    | .split | .none =>
      if l = .d3 ∧ s.lineClear .d3 then s.enterIdle
      else if l = .d1 ∨ l = .d2 ∨ l = .d3 then s.judgeRoadShift
      else s
  | .idle | .held | .idlingDown => s

/-- The sequencer at the end of an F0 gate (R60, R62). -/
def State.seqEngineGate (s : State) : State :=
  match s.seq.state with
  | .idlingDown => s.judgeIdlingDown
  | .releasing => s.judgeRoadShift
  | .idle | .shifting | .awaitRange | .clutching | .awaitConfirm | .engaged | .held => s

/-- The sequencer at the end of an F1 gate (R51, R62); `madeMoving` says that the gate made the truck moving. -/
def State.seqRoadGate (s : State) (madeMoving : Bool) : State :=
  match s.seq.state with
  | .shifting | .awaitRange => if madeMoving then s.faultToIdlingDown .motion .motion else s
  | .releasing => s.judgeRoadShift
  | .idle | .clutching | .awaitConfirm | .engaged | .held | .idlingDown => s

/-! ### Expiries (R43, R49 to R53, R60 to R63) -/

/-- The expiry of a window that ends its state in IDLING_DOWN with reason TIMEOUT; the expiry of a stopped timer, or of
one timing another window, does not happen (R43). -/
def State.windowExpiry (s : State) (st : SeqState) (w : StepWindow) (f : SeqFault) : State :=
  if s.seq.state = st ∧ s.timing w then s.faultToIdlingDown f .timeout else s

/-- The step timer stopped. -/
def State.stopStepTimer (s : State) : State := { s with seq := { s.seq with stepTimer := none } }

/-- The idle-down window expires: reported with the present N, and the wait goes on with no timer (R60). -/
def State.idleDownExpiry (s : State) : State :=
  if s.seq.state = .idlingDown ∧ s.timing .idleDown then
    (s.reportFault .engineNotIdle (u16 s.image.n)).stopStepTimer
  else s

/-- The neutral wait expires: reported, and the wait goes on with no timer (R62). -/
def State.neutralExpiry (s : State) : State :=
  if s.seq.state = .releasing ∧ s.timing .neutral then (s.reportFault .awaitNeutral []).stopStepTimer else s

/-- The release window expires (R61, R63). -/
def State.releaseExpiry (s : State) : State :=
  if s.seq.state = .releasing ∧ s.timing .release then s.enterHeldTimeout else s

end Sys2Proof.Machine
end

