-- ==== Sys2Proof/Machine/Tank.lean ====
section
/-! DEFINITION. Tank.lean: the tanks' shared operations. Level, tilt and marks (R119, R120), sensed volume (R121), bands
(R123, R124), the metered estimate (R133), travel and settling (R134, R135), reconciliation (R137), the tank update
(R136), the restart (R128), and the fill as a tank update judges it (R145). -/

namespace Sys2Proof.Machine

/-! ### Level and sensed volume -/

/-- What a tank's level channels give: level, tilt and the mark SINGLE (R119). -/
structure LevelWork where
  h : Option Nat
  tilt : Option Int
  single : Bool
  deriving DecidableEq, Repr

/-- The value of a level channel that is OK, or none while it is FAULT (R119). -/
def State.levelValue (s : State) (ch : LevelIx) : Option Nat :=
  let c := (s.image.levels.get ch).chan
  if c.good then c.value.map Int.toNat else none

/-- The table of R119: the fore channel, and the aft channel where one is bound, each with its value while it is OK. -/
def levelWork (fore : Option Nat) (aft : Option (Option Nat)) : LevelWork :=
  match fore, aft with
  | some f, some (some a) => ⟨some ((f + a) / 2), some ((f : Int) - a), false⟩
  | some f, some none => ⟨some f, none, true⟩
  | none, some (some a) => ⟨some a, none, true⟩
  | some f, none => ⟨some f, none, false⟩
  | none, some none => ⟨none, none, false⟩
  | none, none => ⟨none, none, false⟩

/-- The working of R119 for a tank, from the image as it stands. -/
def State.tankLevel (s : State) (c : TankSettings) : LevelWork :=
  levelWork (s.levelValue c.fore) (c.aft.map s.levelValue)

/-- TILTED (R120). -/
def tiltedMark (tilt : Option Int) : Bool := optAny tilt fun t => decide (300 < t.natAbs)

/-- The volume a table gives a level (R121). -/
def volumeAt : List Breakpoint → Nat → Nat
  | [], _ => 0
  | [b], _ => b.volume
  | b :: c :: rest, h =>
    if h ≤ b.level then b.volume
    else if h < c.level then b.volume + (c.volume - b.volume) * (h - b.level) / (c.level - b.level)
    else volumeAt (c :: rest) h

/-- The sensed volume of a level (R121). -/
def sensedVolume (c : TankSettings) (h : Option Nat) : Option Nat := h.map (volumeAt c.table)

/-- A tank's runtime contents with the level, tilt, marks and sensed volume worked afresh (R119 to R121). -/
def State.workLevel (s : State) (c : TankSettings) (r : TankRun) : TankRun :=
  let w := s.tankLevel c
  { r with h := w.h, tilt := w.tilt, single := w.single, tilted := tiltedMark w.tilt, sensed := sensedVolume c w.h }

/-! ### Bands -/

/-- The band hysteresis in litres (R123). -/
def hyst (c : TankSettings) : Nat := max 10 (c.capacity * 2 / 100)

/-- One application of the band table (R123). -/
def bandNext (c : TankSettings) (v : Nat) (before : Band) : Band :=
  match before with
  | .normal => if v ≤ c.emptyL then .empty else if v ≤ c.reserveL then .reserve else if c.fullL ≤ v then .full else .normal
  | .reserve =>
    if v ≤ c.emptyL then .empty else if c.fullL ≤ v then .full else if c.reserveL + hyst c ≤ v then .normal else .reserve
  | .empty =>
    if c.emptyL + hyst c ≤ v then (if c.fullL ≤ v then .full else if v ≤ c.reserveL then .reserve else .normal) else .empty
  | .full =>
    if v ≤ c.emptyL then .empty else if v ≤ c.reserveL then .reserve else if v + hyst c ≤ c.fullL then .normal else .full

/-- A tank's runtime contents replaced. -/
def State.setTank (s : State) (t : TankIx) (r : TankRun) : State := { s with tanks := s.tanks.set t r }

/-- The BAND report of a tank as it stands, with the band before (R124). A V that is absent, as a restart can leave it
(R128), is shown as 65535, R129's indication: no rule gives one for a report (DEDUCED, notes/assumptions/15). -/
def State.reportBand (s : State) (t : TankIx) (before : Band) : State :=
  let r := s.tanks.get t
  s.submit (codedReport .band (tankNo t) r.band.code (optU16 r.volume ++ u8 r.basis.code ++ u8 before.code))

/-- The band evaluated on V (R123, R124). -/
def State.evalBand (s : State) (t : TankIx) : State :=
  let c := s.config.tanks.get t
  let r := s.tanks.get t
  if c.role = .unused then s
  else match r.volume with
    | none => s
    | some v =>
      let b := bandNext c v r.band
      if b = r.band then s else (s.setTank t { r with band := b }).reportBand t r.band

/-- A condition on the band of that tank (R30). -/
def onTank (t : TankIx) : LockCond → Bool
  | .tankBand u _ => u == t
  | .line _ _ | .roadSpeedAbove _ | .engineAbove _ | .pumpTempAbove _ => false

/-- What an event has changed about a tank, handed on (R124, R131, R145): tank 0 leaving SENSED abandons the fill, a
change of band or basis goes to the interlock matrix, and a change of tank 0's band to the governor. -/
def State.handTank (s : State) (t : TankIx) (before : TankRun) : State :=
  let r := s.tanks.get t
  let s1 := if t = .t0 ∧ before.state = .sensed ∧ (r.state = .blind ∨ r.state = .travel) then s.abandonFill .abandoned
    else s
  let s2 := if r.band = before.band ∧ r.basis = before.basis then s1 else s1.matrixJudge (onTank t)
  if t = .t0 ∧ r.band ≠ before.band then s2.judgeTankEmpty else s2

/-! ### The metered estimate (R131, R133) -/

/-- The basis of a tank that is not SENSED, from its start volume (R131). -/
def basisOf (c : TankSettings) (v0 : Option Nat) : Basis :=
  match v0 with
  | none => .none
  | some _ => if c.outMeter || c.inMeter then .metered else .held

/-- Litres for a difference of two pulse counts modulo 4294967296, by a calibration in pulses per 100 L (R133). -/
def litresSince (now : BitVec 32) (mark : Option (BitVec 32)) (k : Nat) : Nat :=
  match mark with
  | none => 0
  | some m => 100 * (now - m).toNat / k

/-- The metered outflow, 0 without an outflow meter (R133). -/
def State.meteredOutflow (s : State) (t : TankIx) : Nat :=
  if (s.config.tanks.get t).outMeter then litresSince s.supply.outflow (s.tanks.get t).outMark s.config.inputs.kDis else 0

/-- The metered inflow, 0 without an inflow meter (R133). -/
def State.meteredInflow (s : State) (t : TankIx) : Nat :=
  if (s.config.tanks.get t).inMeter then
    litresSince s.image.meters.fill.total (s.tanks.get t).inMark s.config.inputs.kFill
  else 0

/-- The metered volume from a start volume (R133). -/
def State.meteredVolume (s : State) (t : TankIx) (v0 : Nat) : Nat :=
  (clampInt 0 (s.config.tanks.get t).capacity ((v0 : Int) - s.meteredOutflow t + s.meteredInflow t)).toNat

/-- V of a tank that is not SENSED: metered, held or absent by its basis (R131, R133). -/
def State.estimate (s : State) (t : TankIx) : Option Nat :=
  let r := s.tanks.get t
  match r.basis with
  | .metered => r.v0.map (s.meteredVolume t)
  | .held => r.v0
  | .none => none
  | .sensed => r.volume

/-- V0 and the marks taken as a tank leaves SENSED, with the basis they give (R134, R136). -/
def State.takeMarks (s : State) (c : TankSettings) (r : TankRun) : TankRun :=
  { r with v0 := r.volume, outMark := some s.supply.outflow, inMark := some s.image.meters.fill.total
           basis := basisOf c r.volume }

/-! ### Moving, stopping, settling -/

/-- A tank at the F1 gate end that makes the truck moving (R134). -/
def State.enterTravel (s : State) (t : TankIx) : State :=
  let r := s.tanks.get t
  match r.state with
  | .sensed =>
    (s.setTank t { s.takeMarks (s.config.tanks.get t) r with state := .travel }).handTank t r
  | .blind => s.setTank t { r with state := .travel }
  | .settling => s.setTank t { r with state := .travel, settleTimer := none }
  | .travel | .unconfigured => s

/-- A tank at the F1 gate end that makes the truck stopped (R135). -/
def State.enterSettling (s : State) (t : TankIx) : State :=
  let r := s.tanks.get t
  match r.state with
  | .travel =>
    s.setTank t { r with state := .settling, settleTimer := some (s.startTimer (s.config.settleTime * 1000)) }
  | .sensed | .blind | .settling | .unconfigured => s

/-- The RECONCILE report, where the basis was METERED and the difference is beyond the tolerance (R137). No record of the
manual sizes V_s less V_e; two bytes in two's complement are the model's choice. DESIGN CHOICE, notes/assumptions/15. -/
def reconcileReport (c : TankSettings) (t : TankIx) (basis : Basis) (vs : Nat) (ve : Option Nat) : List Report :=
  match basis, ve with
  | .metered, some e =>
    if c.tolerance * c.capacity / 100 < ((vs : Int) - e).natAbs then
      [plainReport .reconcile (tankNo t) (u16 vs ++ u16 e ++ i16 ((vs : Int) - e))]
    else []
  | .metered, none | .held, _ | .none, _ | .sensed, _ => []

/-- A tank that adopts its sensed volume: SENSED, with no start volume, no marks and no settle timer (R137). -/
def TankRun.adopted (r : TankRun) (vs : Nat) : TankRun :=
  { r with volume := some vs, state := .sensed, basis := .sensed, v0 := none, outMark := none, inMark := none
           settleTimer := none }

/-- A reconciliation, up to the band evaluation (R137). The estimate is the tank's volume worked afresh (R133; log 37). -/
def State.reconcile (s : State) (t : TankIx) (vs : Nat) : State :=
  let r := s.tanks.get t
  ((s.submitAll (reconcileReport (s.config.tanks.get t) t r.basis vs (s.estimate t))).setTank t (r.adopted vs)).evalBand t

/-! ### The fill, as a tank update judges it (R145) -/

/-- The rise reference moved and the rise timer started afresh, where V has risen by the rise step. -/
def State.judgeRise (s : State) : State :=
  match s.supply.fill, (s.tanks.get .t0).volume with
  | some f, some v =>
    if f.riseReference + (s.config.tanks.get .t0).capacity / 100 ≤ v then
      { s with supply := { s.supply with
        fill := some { f with riseReference := v, riseTimer := s.startTimer 60000, restarted := true } } }
    else s
  | some _, none | none, _ => s

/-- V is present and at or above a target. -/
def reaches (v : Option Nat) (target : Nat) : Bool :=
  match v with
  | some v => decide (target ≤ v)
  | none => false

/-- The fill completes as V reaches the target or the band is FULL. -/
def State.judgeFillDone (s : State) : State :=
  match s.supply.fill with
  | none => s
  | some f =>
    let r := s.tanks.get .t0
    if reaches r.volume f.target || r.band == .full then
      ({ s with supply := { s.supply with fill := none } }).submit
        (plainReport .fillDone 0 (optU16 r.volume ++ u16 f.target))
    else s

/-! ### The tank update, the settle timer, the restart -/

/-- V settled at an update by the tank's state, the level already worked, and the band evaluated (R136). -/
def State.settleVolume (s : State) (t : TankIx) : State :=
  let r := s.tanks.get t
  match r.state, r.sensed with
  | .unconfigured, _ => s
  | .sensed, some vs => (s.setTank t { r with volume := some vs }).evalBand t
  | .sensed, none => (s.setTank t { s.takeMarks (s.config.tanks.get t) r with state := .blind }).evalBand t
  | .blind, some vs => s.reconcile t vs
  | .blind, none | .travel, _ | .settling, _ => (s.setTank t { r with volume := s.estimate t }).evalBand t

/-- A tank update (R119 to R121, R124, R136, R145). No update is made for a tank that is UNCONFIGURED (R119). The rise
of a fill is judged before the band is handed on, and its completion after (R145). -/
def State.tankUpdate (s : State) (t : TankIx) : State :=
  let r := s.tanks.get t
  if r.state = .unconfigured then s
  else
    let s1 := (s.setTank t (s.workLevel (s.config.tanks.get t) r)).settleVolume t
    let s2 := if t = .t0 then s1.judgeRise else s1
    let s3 := s2.handTank t r
    if t = .t0 then s3.judgeFillDone else s3

/-- The expiry of a tank's settle timer; that of a stopped timer does not happen (R138). -/
def State.settleExpiry (s : State) (t : TankIx) : State :=
  let r := s.tanks.get t
  if r.state = .settling ∧ r.settleTimer.isSome then
    match r.sensed with
    | some vs => (s.reconcile t vs).handTank t r
    | none => s.setTank t { r with state := .blind, settleTimer := none }
  else s

/-- A tank's runtime contents right after a restart (R128). -/
def State.restarted (s : State) (t : TankIx) : TankRun :=
  let c := s.config.tanks.get t
  let r := startTank c
  if c.role = .unused then r
  else
    let w := s.workLevel c r
    match w.sensed with
    | some v => { w with state := .sensed, basis := .sensed, volume := some v, band := bandNext c v .normal }
    | none => w

/-- The restart of a tank from its settings as they now stand (R128). -/
def State.restartTank (s : State) (t : TankIx) : State :=
  let before := s.tanks.get t
  let s1 := s.setTank t (s.restarted t)
  let s2 := if (s1.tanks.get t).band = before.band then s1 else s1.reportBand t before.band
  s2.handTank t before

end Sys2Proof.Machine
end

