-- ==== Sys2Proof/Machine/Supply.lean ====
section
/-! DEFINITION. Supply.lean: the water source and the changeover (R139 to R143), and the end of a fill that no rise
came to (R145). -/

namespace Sys2Proof.Machine

/-- The source record set, with no changeover, and the valve judged (R139). -/
def State.ownSource (s : State) (src : WaterSource) : State :=
  ({ s with supply := { s.supply with source := src, changeover := none } }).judgeValve

/-- A new source handed on (R139): TANK abandons a fill (R145), INTAKE stops the primer (R114), the governor judges
TANK_EMPTY (R106) and the matrix the horn (R40). -/
def State.handSource (s : State) : State :=
  let s1 := if s.supply.source = .tank then s.abandonFill .abandoned else s
  let s2 := if s.supply.source = .intake then s1.stopPrimer else s1
  (s2.judgeTankEmpty).judgeHorn

/-- The source becomes another (R140, R141). -/
def State.changeSource (s : State) (src : WaterSource) : State :=
  if src = s.supply.source then s else (s.ownSource src).handSource

/-- The changeover record replaced, and the valve judged (R139). -/
def State.setChangeover (s : State) (c : Option Changeover) : State :=
  ({ s with supply := { s.supply with changeover := c } }).judgeValve

/-- A changeover begins (R141). -/
def State.beginChangeover (s : State) (target : WaterSource) : State :=
  s.setChangeover (some { target, count := 0, window := s.startTimer (s.config.changeoverWindow * 1000) })

/-- The CHANGEOVER report: the target and the elapsed time in 0.1 s (R139, R142). No record of the manual sizes the
elapsed time and none rounds it: two bytes, and truncation to tenths of a second, are the model's choice (DESIGN
CHOICE, notes/assumptions/15). -/
def changeoverReport (st : ReportState) (target : WaterSource) (elapsedMs : Nat) : Report :=
  stateReport .changeover 0 st (u8 target.code ++ u16 (elapsedMs / 100))

/-- A pressure sample qualifies for a changeover to that target (R142). -/
def State.qualifies (s : State) (target : WaterSource) : Bool :=
  match target with
  | .intake => s.image.a1.good && optAny s.pIn fun p => decide (50 ≤ p)
  | .draft =>
    s.image.a0.good && s.image.a1.good && optAny s.pIn (fun p => decide (p ≤ -10))
      && optAny s.pDis fun p => decide (150 ≤ p)
  | .tank => false

/-- A changeover completes (R142). -/
def State.completeChangeover (s : State) (c : Changeover) : State :=
  ((s.ownSource c.target).submit (changeoverReport .done c.target (s.elapsed c.window))).handSource

/-- A changeover in progress judged at a pressure sample (R142). -/
def State.judgeChangeover (s : State) : State :=
  match s.supply.changeover with
  | none => s
  | some c =>
    let n := if s.qualifies c.target then c.count + 1 else 0
    if 100 ≤ n then s.completeChangeover c
    else { s with supply := { s.supply with changeover := some { c with count := n } } }

/-- The changeover window expires: abandoned with NO_SUPPLY (R142). -/
def State.changeoverExpiry (s : State) : State :=
  match s.supply.changeover with
  | none => s
  | some c => (s.setChangeover none).submit (changeoverReport .noSupply c.target c.window.length)

/-- An expiry met by the tank update that started the rise timer afresh: taken after it, within one count of the clock, it
is that of the earlier start and does not happen (R146). DESIGN CHOICE: how the model, in which an expiry is a command of
its own, tells the two apart (notes/assumptions/44). -/
def Fill.metByRestart (f : Fill) (clock : Nat) : Bool := f.restarted && decide (clock ≤ f.riseTimer.startedAt + 10)

/-- The rise timer expires: the fill is abandoned with NO_RISE (R145), but for an expiry that a restarting tank update
has met (R146). The values of the report, V and the target, are those that R145 names for ABANDONED: for NO_RISE it names
none (DESIGN CHOICE, notes/assumptions/15). -/
def State.riseExpiry (s : State) : State :=
  match s.supply.fill with
  | none => s
  | some f => if f.metByRestart s.clock then s else s.abandonFill .noRise

end Sys2Proof.Machine
end

