-- ==== Sys2Proof/Machine/InputStage.lean ====
section
/-! DEFINITION. InputStage.lean: the input stage. Analog samples (R2 to R6), gates (R7 to R11), line samples (R12 to
R14), completeness with the sequencer's start-up decision and the end of START (R16, R19, R65), and what each
measurement event hands to the other blocks. -/

namespace Sys2Proof.Machine

/-! ### Analog samples (R3 to R5) -/

/-- A code classified (R3): none out of range, otherwise the code to scale and whether the sample is CLAMPED. -/
def classify (c : Code) : Option (Nat × Bool) :=
  if c.toNat < 300 ∨ 3700 < c.toNat then none
  else some (clampNat 400 3600 c.toNat, decide (c.toNat < 400 ∨ 3600 < c.toNat))

/-- P_dis of a code (R3). -/
def scaleDischarge (c : Nat) : Int := c - 400

/-- P_in of a code (R3). -/
def scaleIntake (c : Nat) : Int := ((c - 400) / 2 : Nat) - 100

/-- The casing temperature of a code (R3). -/
def scaleTemperature (c : Nat) : Int := ((c - 400) / 20 : Nat)

/-- The level of a code (R3). -/
def scaleLevel (c : Nat) : Nat := (c - 400) * 5 / 8

/-- The status a good sample gives (R4). -/
def markedStatus (clamped : Bool) : ChStatus := if clamped then .clamped else .ok

/-- The sample is the third in-range sample of a channel in FAULT (R4). -/
def Channel.recovers (ch : Channel) : Bool := ch.status == .fault && 2 ≤ ch.inCount

/-- An in-range sample that brings no value: the channel is in FAULT and goes on proving itself (R4). -/
def Channel.proving (ch : Channel) : Bool := ch.status == .fault && ch.inCount < 2

/-- A value taken (R4). -/
def Channel.take (ch : Channel) (v : Int) (clamped : Bool) : Channel :=
  { ch with value := some v, status := markedStatus clamped, outCount := 0, inCount := 0 }

/-- An in-range sample whose value is v (R4). -/
def Channel.inRange (ch : Channel) (v : Int) (clamped : Bool) : Channel :=
  if ch.proving then { ch with inCount := ch.inCount + 1 } else ch.take v clamped

/-- An out-of-range sample (R4). -/
def Channel.outOfRange (ch : Channel) (c : Code) : Channel :=
  match ch.status with
  | .fault => { ch with inCount := 0 }
  | .ok | .clamped =>
    if 2 ≤ ch.outCount then { ch with status := .fault, outCount := 3, inCount := 0, faultCode := c.toNat }
    else { ch with outCount := ch.outCount + 1 }

/-- One sample of A0, A1 or A2, with the channel's scaling (R3, R4). -/
def Channel.sample (ch : Channel) (scale : Nat → Int) (c : Code) : Channel :=
  match classify c with
  | none => ch.outOfRange c
  | some (k, clamped) => ch.inRange (scale k) clamped

/-- A level sample placed in the ring, the oldest removed from a full one (R5). -/
def pushRing (ring : List Nat) (x : Nat) : List Nat := (if 8 ≤ ring.length then ring.drop 1 else ring) ++ [x]

/-- The mean of the ring (R5). -/
def ringMean (ring : List Nat) : Nat := ring.sum / ring.length

/-- One sample of a level channel (R4, R5). -/
def LevelChannel.sample (lc : LevelChannel) (c : Code) : LevelChannel :=
  match classify c with
  | none =>
    let ch := lc.chan.outOfRange c
    { chan := ch, ring := if ch.status = .fault then [] else lc.ring }
  | some (k, clamped) =>
    if lc.chan.proving then { lc with chan := lc.chan.inRange 0 clamped }
    else
      let ring := pushRing (if lc.chan.recovers then [] else lc.ring) (scaleLevel k)
      { chan := lc.chan.take (ringMean ring) clamped, ring }

/-- The CHANNEL report of a sample, where the status passed between FAULT and not FAULT (R6). The leaving of a channel's
first FAULT before the image is complete submits none (R17). An absent held value is shown as -32768, R15's indication in
the INPUTS record: R6 gives none for the report (DEDUCED, notes/assumptions/15). -/
def channelReport (ix : Nat) (complete : Bool) (old new : Channel) (c : Code) : List Report :=
  if old.good && !new.good then
    [stateReport .channel ix .fault (optI16 new.value ++ u16 c.toNat)]
  else if !old.good && new.good && (complete || old.value.isSome) then
    [stateReport .channel ix .recovered (optI16 new.value ++ u16 c.toNat)]
  else []

/-! ### What an analog sample hands on -/

/-- The primer at a pressure sample (R114). -/
def State.judgePrimer (s : State) : State :=
  match s.gov.primer with
  | none => s
  | some r =>
    let n := if s.image.a0.good && optAny s.pDis (fun p => decide (150 ≤ p)) then r.count + 1 else 0
    if 50 ≤ n then s.stopPrimer.causeAbsent .primeLost (optI16 s.pDis ++ u16 s.gov.demand)
    else { s with gov := { s.gov with primer := some { r with count := n } } }

/-- A pressure sample (R2): both channels, their reports, then the governor (R107, R114) and the tank unit (R142). The
clock of the model goes on by 10 ms (log 3). That A0 reports before A1, and both before the governor, is the model's choice
of an order the spec leaves open. DESIGN CHOICE, notes/assumptions/41. -/
def State.pressureSample (s : State) (c0 c1 : Code) : State :=
  let a0 := s.image.a0.sample scaleDischarge c0
  let a1 := s.image.a1.sample scaleIntake c1
  let s1 := { s with clock := s.clock + 10, image := { s.image with a0, a1 } }
  let s2 := s1.submitAll (channelReport 0 s.image.complete s.image.a0 a0 c0 ++
    channelReport 1 s.image.complete s.image.a1 a1 c1)
  let s3 := if s.image.a0.good = a0.good then s2 else s2.judgePressureSensor
  s3.judgePrimer.judgeChangeover

/-- A condition on the casing temperature (R30). -/
def onPumpTemp : LockCond → Bool
  | .pumpTempAbove _ => true
  | .line _ _ | .roadSpeedAbove _ | .engineAbove _ | .tankBand _ _ => false

/-- A sample of A2 (R2): a changed value is judged by the relief valve, OVERHEAT_CUT and the matrix (R30, R103, R112). -/
def State.temperatureSample (s : State) (c2 : Code) : State :=
  let a2 := s.image.a2.sample scaleTemperature c2
  let s1 := ({ s with image := { s.image with a2 } }).submitAll (channelReport 2 s.image.complete s.image.a2 a2 c2)
  if a2.value = s.image.a2.value then s1 else (s1.judgeRelief.judgeOverheat).matrixJudge onPumpTemp

/-- A sample of a level channel (R2). The tanks read it at their next update (R119). -/
def State.levelSample (s : State) (ch : LevelIx) (c : Code) : State :=
  let old := s.image.levels.get ch
  let new := old.sample c
  ({ s with image := { s.image with levels := s.image.levels.set ch new } }).submitAll
    (channelReport (levelNo ch) s.image.complete old.chan new.chan c)

/-! ### Completeness (R16, R19, R65) -/

/-- Every line has settled and every pulse input has ended a gate (R16). -/
def InputImage.allMeasured (im : InputImage) : Bool :=
  (Line.all.all fun l => (im.lines.get l).state != .unsettled) && PulseInput.all.all fun p => im.gateEnded.get p

/-- The analog channels with their numbers. -/
def InputImage.channels (im : InputImage) : List (Nat × Channel) :=
  [(0, im.a0), (1, im.a1), (2, im.a2)] ++ LevelIx.all.map fun l => (levelNo l, (im.levels.get l).chan)

/-- The CHANNEL reports of the channels still in FAULT at completeness (R16), A0 to A7 ascending. R16 gives no order among
them: DESIGN CHOICE, notes/assumptions/41. -/
def InputImage.faultReports (im : InputImage) : List Report :=
  (im.channels.filter fun p => !p.2.good).map fun p =>
    stateReport .channel p.1 .fault (optI16 p.2.value ++ u16 p.2.faultCode)

/-- The sequencer's start-up decision (R65). -/
def State.startDecision (s : State) : State :=
  if s.lineSet .d3 then
    ({ s with recoveredAtStart := true }).setSeq { s.seq with state := .held, path := .split, reason := none }
  else { s with recoveredAtStart := false }

/-- The matrix leaves START (R19), the roll-speed state judged first (R26; log 23). -/
def State.leaveStart (s : State) : State :=
  (s.judgeRoll).enterMode (modeOf s.seq.state s.seq.path)

/-- The image found complete at the measurement event that meets the last condition (R16). The CHANNEL reports join the
queue first, then the STEP report of the decision (R65), then the matrix's reports (R19): the spec names all three "at that
event" and gives no order. DESIGN CHOICE, notes/assumptions/41. -/
def State.judgeComplete (s : State) : State :=
  if s.image.complete || !s.image.allMeasured then s
  else
    let s1 := { s with image := { s.image with complete := true } }
    ((s1.submitAll s1.image.faultReports).startDecision).leaveStart

/-! ### Gates (R7 to R11) -/

/-- The count of an input's gate taken as the gate ends (R7). -/
def InputImage.endGate (im : InputImage) (p : PulseInput) : InputImage :=
  { im with gateCount := im.gateCount.set p 0, gateEnded := im.gateEnded.set p true }

/-- The engine speed of a count (R8). -/
def engineSpeedOf (count ppr : Nat) : Nat := clampNat 0 4000 (count * 600 / ppr)

/-- The road speed of a count (R9). -/
def roadSpeedOf (count ppk : Nat) : Nat := clampNat 0 1500 (count * 72000 / ppk)

/-- A meter after a gate of that count (R10, R11). -/
def MeterRecord.gate (m : MeterRecord) (count k : Nat) : MeterRecord :=
  let flow := count * 6000 / k
  let acc := m.remainder + 100 * count
  { flow := min flow 6000, flowOver := decide (6000 < flow), total := m.total + BitVec.ofNat 32 count
    litres := m.litres + BitVec.ofNat 32 (acc / k), remainder := acc % k }

/-- A condition on N (R30). -/
def onEngine : LockCond → Bool
  | .engineAbove _ => true
  | .line _ _ | .roadSpeedAbove _ | .pumpTempAbove _ | .tankBand _ _ => false

/-- A condition on v (R30). -/
def onRoadSpeed : LockCond → Bool
  | .roadSpeedAbove _ => true
  | .line _ _ | .engineAbove _ | .pumpTempAbove _ | .tankBand _ _ => false

/-- The end of an F0 gate (R8): N, then the sequencer (R60, R62), then the matrix (R23, R30). -/
def State.engineGateEnd (s : State) : State :=
  let n := engineSpeedOf s.image.gateCount.f0 s.config.inputs.ppr
  let s1 := { s with image := { s.image.endGate .f0 with n } }
  ((s1.seqEngineGate).matrixJudge onEngine).judgeComplete

/-- The tanks at the end of an F1 gate (R134, R135). -/
def State.tanksAtRoadGate (s : State) (was : Bool) : State :=
  if s.moving then (if was then s else TankIx.all.foldl State.enterTravel s)
  else if was then TankIx.all.foldl State.enterSettling s else s

/-- The end of an F1 gate (R9): v, then the roll limits (R26, R28), the sequencer (R51, R62), the matrix (R21, R27, R30)
and the tanks (R134, R135). -/
def State.roadGateEnd (s : State) : State :=
  let v := roadSpeedOf s.image.gateCount.f1 s.config.inputs.ppk
  let s1 := { s with image := { s.image.endGate .f1 with v } }
  let s2 := s1.judgeRoll.judgeOverspeed.seqRoadGate (s1.moving && !s.moving)
  ((s2.matrixJudge onRoadSpeed).tanksAtRoadGate s.moving).judgeComplete

/-- The pulse input of a meter (R10). -/
def meterInput : Meter → PulseInput
  | .dis => .f2
  | .fill => .f3

/-- The calibration of a meter (R10). -/
def WorkingConfig.calibration (c : WorkingConfig) : Meter → Nat
  | .dis => c.inputs.kDis
  | .fill => c.inputs.kFill

/-- The end of an F2 or F3 gate (R10, R11); F2's count joins the tank-outflow accumulator while the tank-to-pump valve
is open (R132). -/
def State.flowGateEnd (s : State) (m : Meter) : State :=
  let count := s.image.gateCount.get (meterInput m)
  let meters := s.image.meters.set m ((s.image.meters.get m).gate count (s.config.calibration m))
  let outflow := if m = .dis ∧ s.supply.tankToPump then s.supply.outflow + BitVec.ofNat 32 count else s.supply.outflow
  ({ s with image := { s.image.endGate (meterInput m) with meters }
            supply := { s.supply with outflow } }).judgeComplete

/-! ### Line samples (R12 to R14) -/

/-- HIGH or LOW, from a raw level. -/
def levelState (raw : Bool) : LineState := if raw then .high else .low

/-- The count of an unsettled line after a sample (R14). -/
def LineFilter.settleCount (f : LineFilter) (raw : Bool) : Nat := if f.prevRaw = some raw then f.count + 1 else 1

/-- One line at a line sample, with its filter_count (R12 to R14). -/
def LineFilter.sample (f : LineFilter) (filterCount : Nat) (raw : Bool) : LineFilter :=
  match f.state with
  | .unsettled =>
    if filterCount ≤ f.settleCount raw then { f with state := levelState raw, count := 0, prevRaw := some raw }
    else { f with count := f.settleCount raw, prevRaw := some raw }
  | .low | .high =>
    if levelState raw = f.state then { f with count := 0, prevRaw := some raw }
    else if filterCount ≤ f.count + 1 then
      { f with state := levelState raw, count := 0, latch := true, prevRaw := some raw }
    else { f with count := f.count + 1, prevRaw := some raw }

/-- The raw level of a line in a sample: bit k for Dk. -/
def rawLevel (raw : BitVec 12) (l : Line) : Bool := raw.getLsbD (lineNo l)

/-- All twelve lines at a line sample (R12). -/
def State.sampleLines (s : State) (raw : BitVec 12) : PerLine LineFilter :=
  PerLine.ofFn fun l => (s.image.lines.get l).sample (s.config.inputs.filterCount.get l) (rawLevel raw l)

/-- A line changed: it was settled, and its filtered state is another (R12, R14). -/
def lineChanged (old new : LineFilter) : Bool := old.state != .unsettled && old.state != new.state

/-- A condition on one of those lines (R30). -/
def onLines (ls : List Line) : LockCond → Bool
  | .line l _ => ls.contains l
  | .roadSpeedAbove _ | .engineAbove _ | .pumpTempAbove _ | .tankBand _ _ => false

/-- The LINE report of a change, where the line's report-on-change is on (R13). -/
def State.lineReports (s : State) (changed : List Line) : List Report :=
  (changed.filter fun l => s.config.inputs.reportOnChange.get l).map fun l =>
    codedReport .line (lineNo l) (s.image.lines.get l).state.code []

/-- The changes of a line sample handed on: to the sequencer line by line, then to the matrix. So where one sample both
changes the mode and makes an entry's condition true, the entry is judged in the new mode: R31 does not say in which
(DESIGN CHOICE, notes/assumptions/45). -/
def State.linesChanged (s : State) (changed : List Line) : State :=
  if changed.isEmpty then s
  else (changed.foldl State.seqLineChange s).matrixJudge (onLines changed)

/-- A line sample (R12): every line filtered, latches and reports, then the sequencer and the matrix. -/
def State.lineSample (s : State) (raw : BitVec 12) : State :=
  let lines := s.sampleLines raw
  let changed := Line.all.filter fun l => lineChanged (s.image.lines.get l) (lines.get l)
  let s1 := { s with image := { s.image with lines } }
  ((s1.submitAll (s1.lineReports changed)).linesChanged changed).judgeComplete

/-- A pulse counted in the gate that runs (R7). -/
def State.pulse (s : State) (p : PulseInput) : State :=
  { s with image := { s.image with gateCount := s.image.gateCount.set p (s.image.gateCount.get p + 1) } }

/-! ### The matrix's own expiries -/

/-- The roll overspeed timer expires (R28); a timer that is stopped does not expire. -/
def State.rollOverspeedExpiry (s : State) : State :=
  match s.matrix.overspeedTimer with
  | none => s
  | some _ =>
    (({ s with matrix := { s.matrix with overspeed := true, overspeedTimer := none } }).submit
      (protReport .rollOverspeed .raised (u16 s.image.v))).hornArises

/-- The delay timer of an entry expires (R32); only a PENDING entry has one that runs. -/
def State.lockDelayExpiry (s : State) (i : EntryIx) : State :=
  match s.config.entries.get i with
  | none => s
  | some e =>
    if (s.matrix.locks.get i).state = .pending then (s.moveLock i e .tripped).matrixRecompute else s

end Sys2Proof.Machine
end

