-- ==== Sys2Proof/Machine/GovernorUpdate.lean ====
section
/-! DEFINITION. GovernorUpdate.lean: the governor update (R84 to R94) and the protection tests that end it (R100 to
R105), the expiry of prime_time (R114), and the operations of the operator's requests (R73 to R76, R109, R113). -/

namespace Sys2Proof.Machine

/-! ### Stages 0 to 6 -/

/-- The effective setpoint after the ramp of stage 0 (R71); absent stays absent. -/
def Governor.ramped (g : Governor) : Option Int :=
  match g.effSetpoint, g.effTarget with
  | some sp, some t => some (ramp g.effMode sp t)
  | some sp, none => some sp
  | none, _ => none

/-- The error of stage 1, from the ramped setpoint (R86). An absent P_dis counts as 0 kPa. -/
def State.updateError (s : State) (sp : Int) : Int :=
  match s.gov.effMode with
  | .rpm => sp - s.image.n
  | .off | .idle | .pressure | .limit => sp - s.pDis.getD 0

/-- The stages of an update after the ramp, by the effective mode (R84, R91). -/
def State.updateStages (s : State) : UpdateResult :=
  let g := s.gov
  let p := s.config.gov
  let e := s.updateError (g.ramped.getD 0)
  match g.effMode with
  | .pressure | .limit => workingStages g p.kpP p.kiP p.rateStep s.matrix.cap e
  | .rpm => workingStages g p.kpN p.kiN p.rateStep s.matrix.cap e
  | .idle | .off => idleStages g p.rateStep s.matrix.cap

/-- The governor record as the update's stages leave it: the new demand is driven on O_THROTTLE and the cap-cut mark is
cleared (R84, R94). -/
def State.driveUpdate (s : State) : State :=
  let r := s.updateStages
  { s with gov := { s.gov with
      effSetpoint := s.gov.ramped, integrator := r.integrator, demand := r.demand, flags := r.flags, capCut := false } }

/-- A demand above 200 stops a running primer (R114). -/
def State.primerAtDemand (s : State) : State := if 200 < s.gov.demand then s.stopPrimer else s

/-! ### The protection tests (R100 to R105) -/

/-- An entry at the newest end of the history ring, the oldest removed from a full one (R100). -/
def pushHistory (ring : List RingEntry) (e : RingEntry) : List RingEntry :=
  (if 8 ≤ ring.length then ring.drop 1 else ring) ++ [e]

/-- A comparison of two values, false where either is absent (R6, R100). -/
def optLe (x y : Option Int) : Bool :=
  match x, y with
  | some a, some b => decide (a ≤ b)
  | some _, none | none, _ => false

/-- The suspect test on the newest and the oldest entry of a ring (R100). A ring that holds an absent P_in gives no
suspect. -/
def suspectTest (cavThreshold : Int) (ring : List RingEntry) (newest oldest : RingEntry) : Bool :=
  (ring.all fun e => e.pIn.isSome) && optAny newest.pIn (fun p => decide (p ≤ cavThreshold))
    && decide (oldest.n + 100 ≤ newest.n) && optLe newest.pDis oldest.pDis

/-- The suspect count after an update whose ring is full (R100), or where the test is not made. -/
def suspectNext (tested suspect : Bool) (count : Nat) : Nat :=
  if tested then (if suspect then min (count + 1) 255 else 0) else count

/-- A run of consecutive updates, staying at its bound (R101 to R105). -/
def runNext (bound : Nat) (holds : Bool) (run : Nat) : Nat := if holds then min (run + 1) bound else 0

/-- The values an update read, as an entry of the ring (R100). -/
def State.ringEntry (s : State) : RingEntry := ⟨s.pDis, s.image.n, s.pIn⟩

/-- The suspect count after the ring has taken this update's entry (R100). -/
def State.suspectAfter (s : State) (ring : List RingEntry) : Nat :=
  let tested := decide (ring.length = 8) && s.image.a0.good && s.image.a1.good
  let oldest := ring.headD s.ringEntry
  suspectNext tested (suspectTest s.config.gov.cavThreshold ring s.ringEntry oldest) s.gov.suspect

/-- The ring, the suspect count and the cavitation clear run of an update (R100, R101). -/
def State.cavitationCounts (s : State) : State :=
  let ring := pushHistory s.gov.ring s.ringEntry
  let suspect := s.suspectAfter ring
  { s with gov := { s.gov with
      ring, suspect, cavClearRun := runNext 100 (suspect == 0) s.gov.cavClearRun } }

/-- CAVITATION judged (R101), with the newest N and P_in. -/
def State.judgeCavitation (s : State) : State :=
  let values := u16 s.image.n ++ optI16 s.pIn
  if 10 ≤ s.gov.suspect then s.raise .cavitation values
  else if 100 ≤ s.gov.cavClearRun then s.causeAbsent .cavitation values
  else s

/-- P_dis at or above 150 kPa on a sound channel (R102). -/
def State.primed (s : State) : Bool := s.image.a0.good && optAny s.pDis fun p => decide (150 ≤ p)

/-- The conditions of the prime-loss run (R102). -/
def State.unprimed (s : State) : Bool :=
  optAny s.pDis (fun p => decide (p < 150)) && decide (300 ≤ s.gov.demand) && s.supply.source != .intake
    && s.image.a0.good

/-- The two prime runs of an update (R102). -/
def State.primeRuns (s : State) : State :=
  { s with gov := { s.gov with
      primeLossRun := runNext 250 s.unprimed s.gov.primeLossRun
      primeReturnRun := runNext 50 s.primed s.gov.primeReturnRun } }

/-- PRIME_LOST judged (R102), with P_dis and D. -/
def State.judgePrimeLost (s : State) : State :=
  let values := optI16 s.pDis ++ u16 s.gov.demand
  if 250 ≤ s.gov.primeLossRun then s.raise .primeLost values
  else if 50 ≤ s.gov.primeReturnRun then s.causeAbsent .primeLost values
  else s

/-- The conditions of the over-limit run at an update made in that effective mode (R104). -/
def State.overLimit (s : State) (mode : GovMode) : Bool :=
  optAny s.pDis (fun p => decide ((s.config.gov.pLimit : Int) < p)) && s.image.a0.good && mode.working
    && [Cause.overheatCut, .primeLost, .tankEmpty, .pressureSensor].all fun c => !(s.gov.causes.get c).active

/-- OVERPRESSURE's raising at an update (R104). -/
def State.judgeOverLimit (s : State) (mode : GovMode) : State :=
  let run := runNext 5 (s.overLimit mode) s.gov.overRun
  let t := { s with gov := { s.gov with overRun := run } }
  if 5 ≤ run then t.raise .overpressure (optI16 s.pDis) else t

/-- The condition of the return run (R105). -/
def State.underReturn (s : State) : Bool :=
  optAny s.pDis (fun p => decide (p ≤ (s.config.gov.pLimit : Int) - 300)) && s.image.a0.good

/-- OVERPRESSURE is the one cause of the set. -/
def Governor.onlyOverpressure (g : Governor) : Bool :=
  Cause.all.all fun c => c == .overpressure || !(g.causes.get c).active

/-- OVERPRESSURE returns (R105): it leaves the set, and as the last cause gives the operator control as RESUME does. -/
def State.overpressureReturns (s : State) : State :=
  if s.gov.onlyOverpressure then s.returnToOperator
  else
    let t := s.causeLeaves .overpressure
    ({ t with gov := { t.gov with returnRun := 0 } }).judgeHorn

/-- The return run of an update, and what it brings at 100 (R105). -/
def State.judgeReturn (s : State) : State :=
  if (s.gov.causes.get .overpressure).active then
    let run := runNext 100 s.underReturn s.gov.returnRun
    let t := { s with gov := { s.gov with returnRun := run } }
    if run < 100 then t
    else if s.seq.state = .engaged then t.overpressureReturns
    else t.causeAbsent .overpressure (optI16 s.pDis)
  else s

/-- The tests that end an update, in the order of their rules (R94; log 22); `mode` is the effective mode the update
was made in. -/
def State.protectionTests (s : State) (mode : GovMode) : State :=
  (((s.cavitationCounts.judgeCavitation).primeRuns.judgePrimeLost).judgeOverLimit mode).judgeReturn

/-- A governor update (R70, R84): none while the governor is OFF. -/
def State.governorUpdate (s : State) : State :=
  if s.govOff then s else (s.driveUpdate.primerAtDemand).protectionTests s.gov.effMode

/-- prime_time expires with the primer running: it has failed (R114). -/
def State.primeExpiry (s : State) : State :=
  match s.gov.primer with
  | none => s
  | some r =>
    ({ s with gov := { s.gov with primer := none, primerElapsed := r.timer.length } }).submit
      (protReport .primeLost .primeFailed (u16 (r.timer.length / 100)))

/-! ### The operator's requests -/

/-- The operator modes that GOVERN may name in an apparatus mode (R67). In FAULT_HOLD the governor is OFF or in
IDLE. -/
def modeAllowed (a : AppMode) (m : GovMode) : Bool :=
  match a, m with
  | .stationaryPump, .idle | .stationaryPump, .pressure | .stationaryPump, .rpm => true
  | .pumpAndRoll, .idle | .pumpAndRoll, .limit => true
  | .faultHold, .idle => true
  | .stationaryPump, .off | .stationaryPump, .limit => false
  | .pumpAndRoll, .off | .pumpAndRoll, .pressure | .pumpAndRoll, .rpm => false
  | .faultHold, .off | .faultHold, .pressure | .faultHold, .rpm | .faultHold, .limit => false
  | .start, _ | .road, _ | .transfer, _ => false

/-- The operator target moved, the effective target following it where it was taken from it (R68, R74, R75). -/
def State.moveTarget (s : State) (x : Int) : State :=
  { s with gov := { s.gov with
      opTarget := x
      effTarget := if s.gov.noCauses && s.gov.effTarget.isSome then some x else s.gov.effTarget } }

/-- GOVERN accepted with the cause set empty (R74); PRESSURE_SENSOR is judged at a change of mode (R107). -/
def State.govern (s : State) (m : GovMode) (setpoint : Int) : State :=
  if m.working then
    if m = s.gov.opMode then s.moveTarget setpoint
    else (({ s with gov := { s.gov with opMode := m, opTarget := setpoint } }).bumpless m setpoint).judgePressureSensor
  else if m = s.gov.opMode then s
  else (({ s with gov := { s.gov with opMode := m } }).effectiveRest m).judgePressureSensor

/-- GOVERN accepted with causes in the set: the saved context takes the request (R76). -/
def State.governSaved (s : State) (m : GovMode) (setpoint : Int) : State :=
  let kept := (s.gov.saved.getD ⟨s.gov.opMode, s.gov.opTarget⟩).target
  { s with gov := { s.gov with saved := some ⟨m, if m.working then setpoint else kept⟩ } }

/-- The size of a nudge with its direction: 25 kPa or 25 rpm a step (R75). -/
def nudgeBy (up : Bool) (count : Nat) : Int := if up then (count : Int) * 25 else -((count : Int) * 25)

/-- The context whose mode and target a NUDGE is judged against (R75, R76). -/
def State.nudgeContext (s : State) : SavedContext :=
  let own : SavedContext := ⟨s.gov.opMode, s.gov.opTarget⟩
  if s.gov.noCauses then own else s.gov.saved.getD own

/-- A NUDGE carried out: the target of the operator, or of the saved context, becomes x (R75, R76). -/
def State.nudgeTo (s : State) (x : Int) : State :=
  if s.gov.noCauses then s.moveTarget x
  else { s with gov := { s.gov with saved := some ⟨s.nudgeContext.mode, x⟩ } }

/-- The primer starts (R113). -/
def State.startPrimer (s : State) : State :=
  { s with gov := { s.gov with
      primer := some { count := 0, timer := s.startTimer (s.config.gov.primeTime * 1000) }, primerElapsed := 0 } }

/-- A target clamped into a mode's range where its mode is one of a change's modes (R68). -/
def State.reclamp (s : State) (modes : List GovMode) (c : SavedContext) : SavedContext :=
  if modes.contains c.mode then ⟨c.mode, s.config.clampSetpoint c.mode c.target⟩ else c

/-- p_set_max or rpm_set_max has changed: the targets of the modes concerned are clamped into the new range (R68). -/
def State.reclampTargets (s : State) (modes : List GovMode) : State :=
  let own := s.reclamp modes ⟨s.gov.opMode, s.gov.opTarget⟩
  let t := if own.target = s.gov.opTarget then s else s.moveTarget own.target
  { t with gov := { t.gov with saved := t.gov.saved.map (s.reclamp modes) } }

end Sys2Proof.Machine
end

