-- ==== Sys2Proof/Machine/StartUp.lean ====
section
/-! DEFINITION. StartUp.lean: start-up (R172), the writing back of corrected words (R166), and the commit (R170). -/

namespace Sys2Proof.Machine

/-! ### Start-up -/

/-- The store right after loading: the words as the loading found them, its commit counter, invalid set and write-back
list, no commit in flight, and STORE_DEGRADED as the invalid set says (R166, R167, R171). -/
def loadedStore (cells : List (Nat × StoreWord)) (l : Loading) : StoreUnit :=
  { cells, counter := l.counter, invalid := l.invalid, writeBack := l.writeBack, commit := none
    degraded := Section.all.any fun sec => l.invalid.get sec }

/-- Start-up (R172): every block takes its start-up state, and the store is loaded. `found` lists the words that hold
something else than was last written to them (R171; log 10). The queue of commands is the model's own and stays. -/
def State.startUp (s : State) (found : List (Nat × StoreWord)) : State :=
  let cells := writeCells s.store.cells found
  let l := loadStore cells
  { pending := s.pending, clock := 0, strap := s.strap, config := l.config, image := startImage
    matrix := startMatrix, seq := startSequencer, recoveredAtStart := false, gov := startGovernor
    tanks := PerTank.ofFn fun t => startTank (l.config.tanks.get t)
    supply := startSupply, reports := l.queue, store := loadedStore cells l, link := startLink s.strap }

/-! ### Writing words (R166, R170) -/

/-- What a word holds after it was written: the word itself, or what is found where it did not take it. -/
def wordHeld (intended : StoreWord) (found : Option StoreWord) : StoreWord := found.getD intended

/-- The COMMIT_FAULT report of a word whose read-back does not match (R166, R170). -/
def faultWordReport (a : Nat) : Report := plainReport .commitFault 0 (u8 a)

/-- A corrected word has been written back and read again (R166). -/
def State.writeBackDone (s : State) (found : Option StoreWord) : State :=
  match s.store.writeBack with
  | [] => s
  | (a, d) :: rest =>
    let intended : StoreWord := ⟨d, 0⟩
    let held := wordHeld intended found
    let st := { s.store with cells := writeCell s.store.cells a held, writeBack := rest }
    if held = intended then { s with store := st }
    else ({ s with store := { st with
      invalid := st.invalid.set (sectionOf a) true, degraded := true } }).submit (faultWordReport a)

/-- The invalid set at the completion of a commit (R170). -/
def invalidAfter (failed : List Nat) : PerSection Bool :=
  PerSection.ofFn fun sec => failed.any fun a => sectionOf a == sec

/-- The commit completes (R170). -/
def State.commitCompletes (s : State) (c : Commit) : State :=
  let invalid := invalidAfter c.failed
  ({ s with store := { s.store with
      commit := none, counter := c.number, invalid
      degraded := Section.all.any fun sec => invalid.get sec } }).submit
    (plainReport .commitDone 0 (u16 c.number ++ u8 c.failed.length))

/-- A word of the commit has been written and read back (R170). -/
def State.commitWordDone (s : State) (found : Option StoreWord) : State :=
  match s.store.commit with
  | none => s
  | some c =>
    let intended : StoreWord := ⟨configWord c.config c.number c.next, 0⟩
    let held := wordHeld intended found
    let ok := decide (held = intended)
    let c' := { c with next := c.next + 1, failed := if ok then c.failed else c.failed ++ [c.next] }
    let s1 := { s with store := { s.store with cells := writeCell s.store.cells c.next held, commit := some c' } }
    let s2 := if ok then s1 else s1.submit (faultWordReport c.next)
    if storeWords ≤ c'.next then s2.commitCompletes c' else s2

/-- COMMIT accepted (R170). -/
def State.beginCommit (s : State) : State :=
  { s with store := { s.store with
      commit := some { number := (s.store.counter + 1) % 65536, next := 0, config := s.config, failed := [] } } }

end Sys2Proof.Machine
end

