-- ==== Sys2Proof/Machine/Answers.lean ====
section
/-! DEFINITION. Answers.lean: what the owner of each request makes of it: the state it leaves and the answer it gives.
Each takes the request's payload, and each begins with the check of the payload's length (R150, R155). -/

namespace Sys2Proof.Machine

/-- Four flags or more packed as a set, bit k for the k-th. -/
def packBits (bs : List Bool) : Nat := bitSet ((bs.zipIdx.filter fun p => p.1).map fun p => p.2)

/-! ### The link port's own: STATUS, FETCH, GATE, INPUTS, RESTART -/

/-- The permits as a set, bit set for held (R155). -/
def permitSet (p : PerPermit Bool) : Nat := packBits (Permit.all.map p.get)

/-- The status record (R153, R155). -/
def State.statusRecord (s : State) : List Byte :=
  u8 s.matrix.mode.code ++ u8 s.seq.path.code ++ u8 s.seq.state.code
    ++ u8 s.gov.opMode.code ++ u8 s.gov.effMode.code ++ u8 s.gov.causeSet
    ++ u16 s.gov.demand ++ u16 s.matrix.cap
    ++ u8 (permitSet s.matrix.permits + 16 * bit s.matrix.driveInhibit) ++ u8 s.supply.source.code
    ++ optU16 (s.tanks.get .t0).volume ++ u8 (s.tanks.get .t0).basis.code ++ u8 (s.tanks.get .t0).band.code
    ++ u8 s.reports.list.length
    ++ u8 (packBits [s.supply.changeover.isSome, s.storeBusy, s.reports.overflowed, s.store.degraded,
                     s.recoveredAtStart, s.link.mode == .twoWire])

/-- QUEUE_OVERFLOWED and RECOVERED_AT_START cleared (R153). -/
def State.clearSticky (s : State) : State :=
  { s with reports := { s.reports with overflowed := false }, recoveredAtStart := false }

/-- STATUS (R153). -/
def answerStatus (payload : List Byte) (s : State) : State × Answer :=
  match payload with
  | [clear] => (if clear = 0#8 then s else s.clearSticky, .record s.statusRecord)
  | _ => s.reads (badLength payload)

/-- FETCH (R164). -/
def answerFetch (payload : List Byte) (s : State) : State × Answer :=
  match payload with
  | [] =>
    let taken := s.reports.takeUpTo s.config.gates 3
    ({ s with reports := taken.2 },
      .record (u8 taken.1.length ++ u8 (deliverableCount s.config.gates taken.2.list)
        ++ taken.1.flatMap reportRecord))
  | _ => s.reads (badLength payload)

/-- GATE (R162). The rule gives no order between MALFORMED and STORE_BUSY: the model judges the operand first, as the text
names it first (DEDUCED, notes/assumptions/46). -/
def answerGate (payload : List Byte) (s : State) : State × Answer :=
  match payload with
  | [b] =>
    if 63 < b.toNat then s.reads (malformedAt 1 1)
    else if s.storeBusy then s.reads storeBusyAnswer
    else
      let gates := b.setWidth 6 ||| 1#6
      ({ s with config := { s.config with gates } }, .done (!b.getLsbD 0) false (u8 gates.toNat))
  | _ => s.reads (badLength payload)

/-- The SIGNALS part of INPUTS (R15, R155). -/
def State.signalsRecord (s : State) : List Byte :=
  let im := s.image
  let lineCode (l : Line) : Nat := (im.lines.get l).state.code * 4 ^ lineNo l
  im.channels.flatMap (fun p => optI16 p.2.value)
    ++ im.channels.flatMap (fun p => u8 p.2.status.code)
    ++ u24 ((Line.all.map lineCode).sum)
    ++ u16 (packBits (Line.all.map fun l => (im.lines.get l).latch))
    ++ u16 im.n ++ u16 im.v ++ u16 im.meters.dis.flow ++ u16 im.meters.fill.flow
    ++ u8 (packBits [im.meters.dis.flowOver, im.meters.fill.flowOver, im.complete])

/-- The fields of one meter in the METERS part (R15). -/
def meterBytes (m : MeterRecord) : List Byte := u32 m.total.toNat ++ u32 m.litres.toNat ++ u16 m.remainder

/-- The METERS part of INPUTS (R15). -/
def State.metersRecord (s : State) : List Byte :=
  meterBytes s.image.meters.dis ++ meterBytes s.image.meters.fill

/-- Every change latch cleared (R15). -/
def State.clearLatches (s : State) : State :=
  { s with image := { s.image with
      lines := PerLine.ofFn fun l => { s.image.lines.get l with latch := false } } }

/-- INPUTS (R15). -/
def answerInputs (payload : List Byte) (s : State) : State × Answer :=
  match payload with
  | [part, clear] =>
    if part = 0#8 then (if clear = 0#8 then s else s.clearLatches, .record s.signalsRecord)
    else if part = 1#8 then (s, .record s.metersRecord)
    else s.reads (unknownItem part.toNat)
  | _ => s.reads (badLength payload)

/-- RESTART (R154): an accepted one closes the receiver. -/
def answerRestart (payload : List Byte) (s : State) : State × Answer :=
  match payload with
  | [] =>
    if s.storeBusy then s.reads storeBusyAnswer
    else if s.matrix.mode ≠ .road then s.reads s.wrongState
    else ({ s with link := { s.link with restarting := true } }, .ok)
  | _ => s.reads (badLength payload)

/-! ### The interlock matrix: LOCKOUT_SET, LOCKOUT_GET, LATCH_CLEAR, SILENCE -/

/-- The apparatus mode is other than ROAD, or the truck is moving (R36, R125, R127). -/
def State.notAtRest (s : State) : Bool := s.matrix.mode != .road || s.moving

/-- The entry of an index replaced, its runtime state CLEAR; an entry that was TRIPPED or LATCHED reports CLEAR (R36;
the report carries the old entry's values, log 24). The new entry is judged, and permits, cap and horn follow. -/
def State.writeEntry (s : State) (i : EntryIx) (new : Option LockoutEntry) : State :=
  let s1 := match s.config.entries.get i with
    | none => s
    | some old => s.moveLock i old .clear
  let s2 := { s1 with
    config := { s1.config with entries := s1.config.entries.set i new }
    matrix := { s1.matrix with locks := s1.matrix.locks.set i { state := .clear, timer := none } } }
  (s2.judgeLock i).matrixRecompute

/-- The checks of LOCKOUT_SET after the structural ones, and the write (R36). -/
def State.lockoutSet (s : State) (i : EntryIx) (e : Option LockoutEntry) : State × Answer :=
  if s.storeBusy then s.reads storeBusyAnswer
  else if s.notAtRest then s.reads s.wrongState
  else (s.writeEntry i (e.map clampEntry), .done (decide (e.map clampEntry ≠ e)) false [])

/-- LOCKOUT_SET (R36, R156). -/
def answerLockoutSet (payload : List Byte) (s : State) : State × Answer :=
  match payload with
  | [index, kind, hi, lo, op2, modes, effects, latching, dhi, dlo] =>
    match entryOfNo index.toNat with
    | none => s.reads (unknownItem index.toNat)
    | some i => match readEntry kind hi lo op2 modes effects latching dhi dlo with
      | .malformed p => s.reads (malformedAt 10 p)
      | .absent => s.lockoutSet i none
      | .present e => s.lockoutSet i (some e)
  | _ => s.reads (badLength payload)

/-- The record of LOCKOUT_GET (R37, R155, R156). -/
def State.lockoutRecord (s : State) (i : EntryIx) : List Byte :=
  let run := s.matrix.locks.get i
  entryBytes (s.config.entries.get i) ++
    match s.config.entries.get i with
    | none => u8 0 ++ u16 0
    | some _ => u8 run.state.code ++ u16 (match run.timer with | some t => s.tenthsLeft t | none => 0)

/-- LOCKOUT_GET (R37). -/
def answerLockoutGet (payload : List Byte) (s : State) : State × Answer :=
  match payload with
  | [index] => match entryOfNo index.toNat with
    | none => s.reads (unknownItem index.toNat)
    | some i => s.reads (.record (s.lockoutRecord i))
  | _ => s.reads (badLength payload)

/-- An entry that is LATCHED goes to CLEAR, with its report (R38). -/
def State.clearLatch (s : State) (i : EntryIx) : State :=
  match s.config.entries.get i with
  | none => s
  | some e => if (s.matrix.locks.get i).state = .latched then s.moveLock i e .clear else s

/-- LATCH_CLEAR of one entry (R38): permits and horn follow, and a cleared entry is judged from its condition as it
stands (R30; log 25). -/
def State.latchClearOne (s : State) (i : EntryIx) : State × Answer :=
  match (s.matrix.locks.get i).state with
  | .tripped => s.reads (conditionPresent (2 ^ entryNo i))
  | .latched => ((((s.clearLatch i).judgeLock i).matrixRecompute), .ok)
  | .clear | .pending => s.reads .ok

/-- The entries that are TRIPPED and latching (R39). -/
def State.heldLatches (s : State) : List EntryIx :=
  EntryIx.all.filter fun i => match s.config.entries.get i with
    | none => false
    | some e => e.latching && (s.matrix.locks.get i).state == .tripped

/-- The entries that are LATCHED. -/
def State.latchedEntries (s : State) : List EntryIx :=
  EntryIx.all.filter fun i => (s.config.entries.get i).isSome && (s.matrix.locks.get i).state == .latched

/-- LATCH_CLEAR with ALL (R39). The rule takes the entries at once; their CLEAR reports, and then their judging, go by
ascending index, an order that the rule leaves open. DESIGN CHOICE, notes/assumptions/41. -/
def State.latchClearAll (s : State) : State × Answer :=
  let cleared := s.latchedEntries
  let s1 := cleared.foldl State.clearLatch s
  let s2 := (cleared.foldl State.judgeLock s1).matrixRecompute
  (s2, if s.heldLatches.isEmpty then .ok else conditionPresent (bitSet (s.heldLatches.map entryNo)))

/-- LATCH_CLEAR (R38, R39). -/
def answerLatchClear (payload : List Byte) (s : State) : State × Answer :=
  match payload with
  | [index] =>
    if index = 255#8 then s.latchClearAll
    else match entryOfNo index.toNat with
      | none => s.reads (unknownItem index.toNat)
      | some i =>
        if (s.config.entries.get i).isNone then s.reads (unknownItem index.toNat) else s.latchClearOne i
  | _ => s.reads (badLength payload)

/-- The horn muted, if a horn condition holds (R41). -/
def State.silence (s : State) : State :=
  if s.hornCondition then ({ s with matrix := { s.matrix with muted := true } }).judgeHorn else s

/-- SILENCE (R41). -/
def answerSilence (payload : List Byte) (s : State) : State × Answer :=
  match payload with
  | [] => (s.silence, .ok)
  | _ => s.reads (badLength payload)

/-! ### The sequencer: ENGAGE, CONFIRM, DISENGAGE -/

/-- The failing conditions of ENGAGE (R45). -/
def State.engageFails (s : State) (roll : Bool) : List CondName :=
  s.permitFails .engage ++ fails .feedback (s.lineSet .d3 || s.lineSet .d4) ++ fails .source (roll && !s.sourceReady)

/-- ENGAGE with a target that is in order (R45 to R47). -/
def State.engage (s : State) (roll : Bool) : State × Answer :=
  if s.seq.state ≠ .idle then s.reads s.wrongState
  else if (s.engageFails roll).isEmpty then (if roll then s.enterClutching else s.enterShifting, .ok)
  else s.reads (s.notPermitted (s.engageFails roll) (s.lowestLockout .engage))

/-- ENGAGE (R45), the operand judged before the sequencer's state (DEDUCED, notes/assumptions/46). -/
def answerEngage (payload : List Byte) (s : State) : State × Answer :=
  match payload with
  | [target] =>
    if target = 0#8 then s.engage false
    else if target = 1#8 then s.engage true
    else s.reads (malformedAt 1 1)
  | _ => s.reads (badLength payload)

/-- The SOURCE check of CONFIRM applies to the clutch path alone (R54). -/
def State.confirmSourceFails (s : State) : Bool := s.seq.path == .clutch && !s.sourceReady

/-- CONFIRM in a state it belongs to, the feedback judged before (R54). -/
def State.confirmSource (s : State) : State × Answer :=
  if s.confirmSourceFails then s.reads (s.notPermitted [.source] none) else (s.enterEngaged, .ok)

/-- CONFIRM (R54). -/
def answerConfirm (payload : List Byte) (s : State) : State × Answer :=
  match payload with
  | [] => match s.seq.state with
    | .awaitConfirm => s.confirmSource
    | .held =>
      if s.missingFeedback.isEmpty then s.confirmSource
      else s.reads (conditionPresent (bitSet (s.missingFeedback.map lineNo)))
    | .idle | .shifting | .awaitRange | .clutching | .engaged | .idlingDown | .releasing => s.reads s.wrongState
  | _ => s.reads (badLength payload)

/-- DISENGAGE (R57, R58). -/
def answerDisengage (payload : List Byte) (s : State) : State × Answer :=
  match payload with
  | [] => match s.seq.state with
    | .idle => s.reads s.wrongState
    | .idlingDown | .releasing => s.reads .ok
    | .held => ((s.clearFeedbackLost).enterIdlingDown .disengage, .ok)
    | .shifting | .awaitRange | .clutching | .awaitConfirm | .engaged => (s.enterIdlingDown .disengage, .ok)
  | _ => s.reads (badLength payload)

/-! ### The governor: GOVERN, NUDGE, RESUME, PRIME, GOV_READ -/

/-- The mode that GOVERN's first byte names: any but OFF (R73). -/
def governMode (b : Byte) : Option GovMode :=
  match b.toNat with
  | 1 => some .idle
  | 2 => some .pressure
  | 3 => some .rpm
  | 4 => some .limit
  | _ => none

/-- GOVERN with a mode that is in order (R73, R74, R76). -/
def State.governRequest (s : State) (m : GovMode) (setpoint : Int) : State × Answer :=
  if s.govOff then s.reads s.wrongState
  else if !modeAllowed s.matrix.mode m then s.reads (s.notPermitted [] none)
  else
    let x := if m.working then s.config.clampSetpoint m setpoint else setpoint
    if s.gov.noCauses then (s.govern m x, .done (decide (x ≠ setpoint)) false [])
    else (s.governSaved m x, .done (decide (x ≠ setpoint)) true [])

/-- GOVERN (R73). -/
def answerGovern (payload : List Byte) (s : State) : State × Answer :=
  match payload with
  | [mode, hi, lo] => match governMode mode with
    | none => s.reads (malformedAt 3 1)
    | some m => s.governRequest m (readI16 hi lo)
  | _ => s.reads (badLength payload)

/-- NUDGE with a direction that is in order (R75, R76). -/
def State.nudgeRequest (s : State) (up : Bool) (count : Nat) : State × Answer :=
  if s.govOff then s.reads s.wrongState
  else if !s.nudgeContext.mode.working then s.reads s.wrongState
  else
    let n := clampNat 1 10 count
    let want := s.nudgeContext.target + nudgeBy up n
    let x := s.config.clampSetpoint s.nudgeContext.mode want
    (s.nudgeTo x, .done (decide (n ≠ count) || decide (x ≠ want)) (!s.gov.noCauses) [])

/-- NUDGE (R75), the direction judged before the mode (DEDUCED, notes/assumptions/46). -/
def answerNudge (payload : List Byte) (s : State) : State × Answer :=
  match payload with
  | [direction, count] =>
    if direction = 0#8 then s.nudgeRequest true count.toNat
    else if direction = 1#8 then s.nudgeRequest false count.toNat
    else s.reads (malformedAt 2 1)
  | _ => s.reads (badLength payload)

/-- The causes of the set whose condition is present (R109). -/
def Governor.standing (g : Governor) : List Cause :=
  Cause.all.filter fun c => (g.causes.get c).active && (g.causes.get c).present

/-- RESUME (R109). -/
def answerResume (payload : List Byte) (s : State) : State × Answer :=
  match payload with
  | [] =>
    if s.govOff || s.seq.state == .held || s.gov.noCauses then s.reads s.wrongState
    else if !s.gov.standing.isEmpty then s.reads (conditionPresent (bitSet (s.gov.standing.map causeCode)))
    else (s.returnToOperator, .ok)
  | _ => s.reads (badLength payload)

/-- The failing conditions of PRIME START (R113). -/
def State.primeFails (s : State) : List CondName :=
  fails .mode (s.matrix.mode != .stationaryPump) ++ fails .source (s.supply.source == .intake)
    ++ fails .demand (decide (200 < s.gov.demand))

/-- PRIME START (R113). -/
def State.primeStart (s : State) : State × Answer :=
  if !s.primeFails.isEmpty then s.reads (s.notPermitted s.primeFails none)
  else if s.gov.primer.isSome then s.reads .ok
  else (s.startPrimer, .ok)

/-- PRIME (R113). -/
def answerPrime (payload : List Byte) (s : State) : State × Answer :=
  match payload with
  | [operand] =>
    if operand = 0#8 then s.primeStart
    else if operand = 1#8 then (s.stopPrimer, .ok)
    else s.reads (malformedAt 1 1)
  | _ => s.reads (badLength payload)

/-- The primer's elapsed time in ms: counting while it runs, otherwise as it stood when the last run ended (log 19). -/
def State.primerMs (s : State) : Nat :=
  match s.gov.primer with
  | some r => s.elapsed r.timer
  | none => s.gov.primerElapsed

/-- The result flags as a set (R155). -/
def flagSet (f : ResultFlags) : Nat := packBits [f.satHigh, f.satLow, f.rate, f.capCut, f.frozen]

/-- The saved context in the governor record (R77). With none, the target's bytes are a free value (log 38). -/
def savedBytes : Option SavedContext → List Byte
  | some c => u8 c.mode.code ++ i16 c.target
  | none => u8 255 ++ u16 Config.absentSavedTarget.toNat

/-- The governor record (R77). The primer's elapsed time is truncated to tenths of a second: R77 and R114 give the unit
and no rounding (DESIGN CHOICE, notes/assumptions/19). -/
def State.govRecord (s : State) : List Byte :=
  let g := s.gov
  u8 g.opMode.code ++ i16 g.opTarget ++ u8 g.effMode.code ++ optI16 g.effTarget ++ optI16 g.effSetpoint
    ++ u32 g.integrator ++ u16 g.demand ++ u16 s.matrix.cap ++ u8 (flagSet g.flags) ++ u8 g.causeSet
    ++ u8 g.presentSet ++ savedBytes g.saved ++ u8 g.suspect ++ u8 g.ring.length ++ u8 (bit g.primer.isSome)
    ++ u16 (s.primerMs / 100) ++ u8 (bit g.reliefOpen)

/-- GOV_READ (R77). -/
def answerGovRead (payload : List Byte) (s : State) : State × Answer :=
  match payload with
  | [] => s.reads (.record s.govRecord)
  | _ => s.reads (badLength payload)

/-! ### The tank and supply unit: TANK_SET, TANK_TABLE, TANK_READ, SOURCE, FILL -/

/-- The settings of a tank replaced in the working configuration. -/
def WorkingConfig.setTank (c : WorkingConfig) (t : TankIx) (x : TankSettings) : WorkingConfig :=
  { c with tanks := c.tanks.set t x }

/-- New settings taken, and the tank restarted (R126, R128). -/
def State.configureTank (s : State) (t : TankIx) (c : TankSettings) : State :=
  ({ s with config := s.config.setTank t c }).restartTank t

/-- The first breakpoint whose volume is above a capacity (R125). -/
def firstOver (capacity : Nat) (table : List Breakpoint) : Option Nat :=
  table.findIdx? fun b => decide (capacity < b.volume)

/-- The checks of TANK_SET after the structural ones, and the write (R125, R126). -/
def State.tankSet (s : State) (t : TankIx) (sent : TankSettings) : State × Answer :=
  if s.storeBusy then s.reads storeBusyAnswer
  else if s.notAtRest then s.reads s.wrongState
  else
    let c := { sent with
      capacity := clampNat 100 20000 sent.capacity, tolerance := clampNat 1 20 sent.tolerance
      table := (s.config.tanks.get t).table }
    if !thresholdsOk c then s.reads (badTable 255)
    else match firstOver c.capacity c.table with
      | some i => s.reads (badTable i)
      | none =>
        (s.configureTank t c, .done (decide (c.capacity ≠ sent.capacity ∨ c.tolerance ≠ sent.tolerance)) false [])

/-- TANK_SET (R125, R155). -/
def answerTankSet (payload : List Byte) (s : State) : State × Answer :=
  match payload with
  | [index, role, chi, clo, fore, aft, outM, inM, ehi, elo, rhi, rlo, fhi, flo, tol] =>
    match tankOfNo index.toNat with
    | none => s.reads (unknownItem index.toNat)
    | some t => match readTankSettings t role chi clo fore aft outM inM ehi elo rhi rlo fhi flo tol with
      | .error p => s.reads (malformedAt 15 p)
      | .ok c => s.tankSet t c
  | _ => s.reads (badLength payload)

/-- The checks of TANK_TABLE after those of index and count, and the write (R127). -/
def State.tankTable (s : State) (t : TankIx) (table : List Breakpoint) : State × Answer :=
  if s.storeBusy then s.reads storeBusyAnswer
  else if s.notAtRest then s.reads s.wrongState
  else match firstOffender (s.config.tanks.get t).capacity none 0 table with
    | some i => s.reads (badTable i)
    | none => (s.configureTank t { s.config.tanks.get t with table }, .ok)

/-- A breakpoint count that a table may have (R116, R127). -/
def countOk (k : Nat) : Bool := 2 ≤ k && k ≤ 16

/-- TANK_TABLE (R127, R157, R158): a count of 2 to 16 fixes the length; any other is the owner's to refuse. -/
def answerTankTable (payload : List Byte) (s : State) : State × Answer :=
  match payload with
  | index :: count :: bits =>
    if countOk count.toNat && bits.length != tableBytes count.toNat then s.reads (badLength payload)
    else match tankOfNo index.toNat with
      | none => s.reads (unknownItem index.toNat)
      | some t =>
        if !countOk count.toNat then s.reads (malformedAt payload.length 2)
        else s.tankTable t (unpackTable count.toNat bits)
  | _ => s.reads (badLength payload)

/-- A level channel's value in the image, -32768 for absent (R129). -/
def State.levelField (s : State) (ch : Option LevelIx) : List Byte :=
  optI16 (ch.bind fun c => (s.image.levels.get c).chan.value)

/-- The metered figures are shown: the basis is METERED and the state TRAVEL, SETTLING or BLIND (R129). -/
def TankRun.metering (r : TankRun) : Bool :=
  r.basis == .metered && (r.state == .travel || r.state == .settling || r.state == .blind)

/-- The fill target, shown for tank 0 while a fill is in progress (R129). -/
def State.fillTarget (s : State) (t : TankIx) : Option Nat := if t = .t0 then s.supply.fill.map (·.target) else none

/-- Part STATE of TANK_READ (R129). The marks are a set of one byte with SINGLE in bit 0 and TILTED in bit 1: R129 lists
them in that order and R155 gives the marks no codes (DEDUCED, notes/assumptions/42). A metered figure that does not fit its
four bytes shows a free value (log 43). -/
def State.tankStateRecord (s : State) (t : TankIx) : List Byte :=
  let c := s.config.tanks.get t
  let r := s.tanks.get t
  u8 (tankNo t) ++ u8 c.role.code ++ u8 r.state.code ++ u8 r.basis.code ++ optU16 r.volume
    ++ optI16 (r.h.map fun h => (h : Int)) ++ s.levelField (some c.fore) ++ s.levelField c.aft ++ optI16 r.tilt
    ++ u8 r.band.code ++ u8 (packBits [r.single, r.tilted])
    ++ optU32 (if r.metering then some (s.meteredOutflow t) else none)
    ++ optU32 (if r.metering then some (s.meteredInflow t) else none)
    ++ optU16 (s.fillTarget t)

/-- Part SETTINGS of TANK_READ (R130). -/
def State.tankSettingsRecord (s : State) (t : TankIx) : List Byte :=
  let c := s.config.tanks.get t
  u8 (tankNo t) ++ u8 c.role.code ++ u16 c.capacity ++ u8 (levelNo c.fore) ++ u8 (aftCode c.aft)
    ++ u8 (meterCode 2 c.outMeter) ++ u8 (meterCode 3 c.inMeter) ++ u16 c.emptyL ++ u16 c.reserveL ++ u16 c.fullL
    ++ u8 c.tolerance ++ u8 c.table.length ++ u16 (hyst c)

/-- Part TABLE of TANK_READ (R130, R157). -/
def State.tankTableRecord (s : State) (t : TankIx) : List Byte :=
  let table := (s.config.tanks.get t).table
  u8 (tankNo t) ++ u8 table.length ++ packTable table

/-- TANK_READ (R129, R130). -/
def answerTankRead (payload : List Byte) (s : State) : State × Answer :=
  match payload with
  | [index, part] => match tankOfNo index.toNat with
    | none => s.reads (unknownItem index.toNat)
    | some t => match part.toNat with
      | 0 => s.reads (.record (s.tankStateRecord t))
      | 1 => s.reads (.record (s.tankSettingsRecord t))
      | 2 => s.reads (.record (s.tankTableRecord t))
      | _ => s.reads (unknownItem part.toNat)
  | _ => s.reads (badLength payload)

/-- The source a byte names (R140). -/
def sourceOfByte (b : Byte) : Option WaterSource :=
  match b.toNat with
  | 0 => some .tank
  | 1 => some .intake
  | 2 => some .draft
  | _ => none

/-- The conditions that forbid a return to the tank (R141). -/
def State.returnFails (s : State) : List CondName :=
  fails .empty ((s.tanks.get .t0).band == .empty) ++ fails .unconfigured ((s.tanks.get .t0).state == .unconfigured)

/-- SOURCE in STATIONARY_PUMP and FAULT_HOLD (R141). -/
def State.sourceEngaged (s : State) (target : WaterSource) : State × Answer :=
  match s.supply.source, s.supply.changeover with
  | .tank, none => if target = .tank then s.reads .ok else (s.beginChangeover target, .ok)
  | .tank, some c =>
    if target = .tank then (s.setChangeover none, .ok)
    else if target = c.target then s.reads .ok
    else s.reads s.wrongState
  | .intake, _ | .draft, _ =>
    if target = .tank ∧ ¬s.returnFails.isEmpty then s.reads (s.notPermitted s.returnFails none)
    else (s.changeSource target, .ok)

/-- SOURCE with a target that is in order (R140, R141). -/
def State.sourceRequest (s : State) (target : WaterSource) : State × Answer :=
  match s.matrix.mode with
  | .start | .road | .transfer => (s.changeSource target, .ok)
  | .pumpAndRoll => if target = .tank then s.reads .ok else s.reads (s.notPermitted [.mode] none)
  | .stationaryPump | .faultHold => s.sourceEngaged target

/-- SOURCE (R140). -/
def answerSource (payload : List Byte) (s : State) : State × Answer :=
  match payload with
  | [target] => match sourceOfByte target with
    | none => s.reads (malformedAt 1 1)
    | some src => s.sourceRequest src
  | _ => s.reads (badLength payload)

/-- The failing conditions of a FILL (R144). -/
def State.fillFails (s : State) : List CondName :=
  let r := s.tanks.get .t0
  fails .permit (!s.matrix.permits.fill) ++ fails .source (s.supply.source == .tank)
    ++ fails .tank (r.state != .sensed)
    ++ fails .full (r.state == .sensed && reaches r.volume (s.config.tanks.get .t0).fullL)

/-- A fill begins with that target (R144). -/
def State.beginFill (s : State) (target : Nat) : State :=
  { s with supply := { s.supply with
      fill := some {
        target, riseReference := (s.tanks.get .t0).volume.getD 0, riseTimer := s.startTimer 60000, restarted := false } } }

/-- FILL with a target, or with FULL where there is none (R144). -/
def State.fillRequest (s : State) (sent : Option Nat) : State × Answer :=
  let full := (s.config.tanks.get .t0).fullL
  if s.supply.fill.isSome then s.reads s.wrongState
  else if !s.fillFails.isEmpty then s.reads (s.notPermitted s.fillFails none)
  else match sent with
    | none => (s.beginFill full, .ok)
    | some n =>
      let x := clampNat ((s.tanks.get .t0).volume.getD 0 + 1) full n
      (s.beginFill x, .done (decide (x ≠ n)) false [])

/-- FILL STOP (R144). -/
def State.fillStop (s : State) : State × Answer :=
  if s.supply.fill.isSome then ({ s with supply := { s.supply with fill := none } }, .ok) else s.reads s.wrongState

/-- FILL (R144, R155). -/
def answerFill (payload : List Byte) (s : State) : State × Answer :=
  match payload with
  | [mode, hi, lo] =>
    if mode = 0#8 then s.fillRequest (some (readU16 hi lo))
    else if mode = 1#8 then s.fillRequest none
    else if mode = 2#8 then s.fillStop
    else s.reads (malformedAt 3 1)
  | _ => s.reads (badLength payload)

/-! ### The configuration store: PARAM_SET, PARAM_GET, COMMIT -/

/-- The remainder of a meter's accumulator made 0 at a change of its calibration (R11). -/
def State.dropRemainder (s : State) (m : Meter) : State :=
  { s with image := { s.image with meters := s.image.meters.set m { s.image.meters.get m with remainder := 0 } } }

/-- The roll limits after a change of roll_ceiling (R26, R28). -/
def State.ceilingChanged (s : State) : State :=
  let t := s.judgeRoll
  let timer := if t.image.v ≤ t.config.rollCeiling + 20 then none else t.matrix.overspeedTimer
  ({ t with matrix := { t.matrix with overspeedTimer := timer } }).matrixRecompute

/-- What the owner of a parameter does as its value changes (R169). The others are read where they are used. -/
def State.ownerActs (s : State) (p : Param) : State :=
  match p with
  | .pSetMax => s.reclampTargets [.pressure, .limit]
  | .rpmSetMax => s.reclampTargets [.rpm]
  | .tempCut | .tempReliefOn => s.judgeRelief.judgeOverheat
  | .kDis => s.dropRemainder .dis
  | .kFill => s.dropRemainder .fill
  | .idleRpm | .rollCap => s.matrixRecompute
  | .rollCeiling => s.ceilingChanged
  | .kpP | .kiP | .kpN | .kiN | .rateStep | .cavThreshold | .pLimit | .primeTime | .shiftWindow | .rangeWindow
  | .clutchWindow | .confirmWindow | .idleDownWindow | .releaseWindow | .ppr | .ppk | .filterCount _
  | .reportOnChange _ | .settleTime | .changeoverWindow => s

/-- A parameter written into the working configuration; its owner acts where the value differs (R169; log 26). -/
def State.writeParam (s : State) (p : Param) (x : Int) : State :=
  if s.config.param p = x then s else ({ s with config := s.config.setParam p x }).ownerActs p

/-- PARAM_SET of a known parameter (R169). -/
def State.paramSet (s : State) (p : Param) (sent : Int) : State × Answer :=
  if s.storeBusy then s.reads storeBusyAnswer
  else if paramRoadOnly p && s.matrix.mode != .road then s.reads s.wrongState
  else
    let x := paramClamp p sent
    (s.writeParam p x, .done (decide (x ≠ sent)) false (i16 x))

/-- PARAM_SET (R169). -/
def answerParamSet (payload : List Byte) (s : State) : State × Answer :=
  match payload with
  | [ihi, ilo, vhi, vlo] => match paramOfId (readU16 ihi ilo) with
    | none => s.reads (unknownItem (readU16 ihi ilo))
    | some p => s.paramSet p (readI16 vhi vlo)
  | _ => s.reads (badLength payload)

/-- PARAM_GET (R169). -/
def answerParamGet (payload : List Byte) (s : State) : State × Answer :=
  match payload with
  | [ihi, ilo] => match paramOfId (readU16 ihi ilo) with
    | none => s.reads (unknownItem (readU16 ihi ilo))
    | some p => s.reads (.record (i16 (s.config.param p)))
  | _ => s.reads (badLength payload)

/-- COMMIT (R170). -/
def answerCommit (payload : List Byte) (s : State) : State × Answer :=
  match payload with
  | [] => if s.storeBusy then s.reads storeBusyAnswer else (s.beginCommit, .ok)
  | _ => s.reads (badLength payload)

/-! ### Kinds -/

/-- A frame whose kind is not a request kind (R150). -/
def answerUnknown (kind : Byte) (s : State) : State × Answer := s.reads (unknownKindAnswer kind)

/-- What the request of a kind does, by the kinds of the layout table (R150, R155). -/
def answerKind (kind : Byte) (payload : List Byte) : State → State × Answer :=
  match kind.toNat with
  | 0x01 => answerStatus payload
  | 0x02 => answerFetch payload
  | 0x03 => answerGate payload
  | 0x04 => answerInputs payload
  | 0x10 => answerLockoutSet payload
  | 0x11 => answerLockoutGet payload
  | 0x12 => answerLatchClear payload
  | 0x13 => answerSilence payload
  | 0x20 => answerEngage payload
  | 0x21 => answerConfirm payload
  | 0x22 => answerDisengage payload
  | 0x30 => answerGovern payload
  | 0x31 => answerNudge payload
  | 0x32 => answerResume payload
  | 0x33 => answerPrime payload
  | 0x34 => answerGovRead payload
  | 0x40 => answerTankRead payload
  | 0x41 => answerTankTable payload
  | 0x42 => answerTankSet payload
  | 0x43 => answerSource payload
  | 0x44 => answerFill payload
  | 0x50 => answerParamSet payload
  | 0x51 => answerParamGet payload
  | 0x52 => answerCommit payload
  | 0x53 => answerRestart payload
  | _ => answerUnknown kind

/-- A frame received whole with a good check is taken (R150). -/
def State.takeFrame (s : State) (kind tag : Byte) (payload : List Byte) : State :=
  s.onFrame kind tag (answerKind kind payload)

end Sys2Proof.Machine
end

