-- ==== Sys2Proof/Machine/Link.lean ====
section
/-! DEFINITION. Link.lean: the receiver of the link port, byte by byte (R147, R148), and the end of a frame sent (R150,
R152, R154). -/

namespace Sys2Proof.Machine

/-- The start byte (R148). -/
def startByte : Byte := 0x7A#8

/-- A length byte that a frame may have (R148). -/
def lengthOk (n : Byte) : Bool := 2 ≤ n.toNat && n.toNat ≤ 62

/-- What the bytes of a frame in progress, from its start byte on, amount to (R148). -/
inductive FrameRead where
  /-- More bytes are expected. -/
  | partly
  /-- The length or the check is bad: the frame is discarded. -/
  | bad
  /-- Received whole, with the bytes that stand behind it. -/
  | whole (kind tag : Byte) (payload rest : List Byte)
  deriving DecidableEq, Repr

/-- The bytes behind a start byte read as a frame: length, kind, tag, payload, check (R148, R149, R155). -/
def readFrame (body : List Byte) : FrameRead :=
  match body with
  | [] => .partly
  | n :: more =>
    if !lengthOk n then .bad
    else if more.length ≤ n.toNat then .partly
    else if crc8 (n :: more.take n.toNat) ≠ more.getD n.toNat 0 then .bad
    else match more.take n.toNat with
      | kind :: tag :: payload => .whole kind tag payload (more.drop (n.toNat + 1))
      | _ => .bad

/-- The bytes of the frame in progress set. -/
def State.setRx (s : State) (rx : List Byte) : State := { s with link := { s.link with rx } }

/-- The receiver goes over bytes from the hunting state (R148): a frame received whole is taken at once, a discarded one
is looked through again from the byte after its start byte, and bytes that come while the receiver is closed or the line
is ignored are lost (R147, R150; log 34). `fuel` is at least the number of bytes. -/
def State.receive : Nat → List Byte → State → State
  | 0, _, s => s.setRx []
  | _ + 1, [], s => s.setRx []
  | fuel + 1, b :: body, s =>
    if b ≠ startByte then State.receive fuel body s
    else match readFrame body with
      | .partly => s.setRx (b :: body)
      | .bad => State.receive fuel body s
      | .whole kind tag payload rest =>
        let t := s.takeFrame kind tag payload
        if t.listening then State.receive fuel rest t else t.setRx []

/-- A byte arrives (R148): nothing while the receiver does not listen (R147, R150, R154). -/
def State.byteArrives (s : State) (b : Byte) : State :=
  if s.listening then State.receive (s.link.rx.length + 1) (s.link.rx ++ [b]) s else s

/-- That byte would make the frame in progress bad in its length or its check. -/
def State.discardedBy (s : State) (b : Byte) : Bool :=
  match s.link.rx with
  | [] => false
  | _ :: body => decide (readFrame (body ++ [b]) = .bad)

/-- The frame in progress is discarded for its length or its check, which that byte closes (R148). A byte that makes no
frame bad discards none (log 4). -/
def State.frameDiscards (s : State) (b : Byte) : State := if s.discardedBy b then s.byteArrives b else s

/-- A gap of more than 10 ms inside a frame: the partial frame is dropped without another look at its bytes (R148). -/
def State.gapTimeout (s : State) : State := s.setRx []

/-- The frame sent has ended: a reply leaves the list (R150). -/
def LinkPort.endFrame (k : LinkPort) (f : TxFrame) : LinkPort :=
  { k with tx := none, replies := if f.isReply then k.replies.drop 1 else k.replies }

/-- The last byte of a frame is sent (R152). Start-up begins where it was the last reply after an accepted RESTART
(R154); otherwise the next frame is chosen. This command carries no words of the store, so this start-up finds every word
as last written (DESIGN CHOICE, notes/assumptions/10). -/
def State.transmitEnds (s : State) : State :=
  match s.link.tx with
  | none => s
  | some f =>
    let t := { s with link := s.link.endFrame f }
    if t.link.restarting && t.link.replies.isEmpty then t.startUp [] else t

end Sys2Proof.Machine
end

