-- ==== Sys2Proof/Machine/Outcome.lean ====
section
/-! DEFINITION. Outcome.lean: the outcome of a command, named once for the meanings. -/

namespace Sys2Proof.Machine

/-- What a command answers: a next state, a fault or a refusal. -/
abbrev StepOutcome := Host.Outcome State Fault Refusal

end Sys2Proof.Machine
end

