-- ==== Sys2Proof/Machine/Engagement.lean ====
section
/-! DEFINITION. Engagement.lean: the engagement sequencer's requests and windows (spec/03). Each meaning says what a
command does to all of the state but the queue of commands; where a transmitter is left idle with something to send it
then begins a frame (R152). -/

namespace Sys2Proof.Machine

/-- ENGAGE (R45 to R47). -/
def execEngage (tag : Byte) (payload : List Byte) (s : State) : StepOutcome :=
  .next (s.onFrame 0x20#8 tag (answerEngage payload))

/-- CONFIRM (R54, R55). -/
def execConfirm (tag : Byte) (payload : List Byte) (s : State) : StepOutcome :=
  .next (s.onFrame 0x21#8 tag (answerConfirm payload))

/-- DISENGAGE (R57, R58). -/
def execDisengage (tag : Byte) (payload : List Byte) (s : State) : StepOutcome :=
  .next (s.onFrame 0x22#8 tag (answerDisengage payload))

/-- SHIFT_WINDOW_EXPIRY: the shift window expires (R49). -/
def execShiftWindowExpiry (s : State) : StepOutcome := .next (s.windowExpiry .shifting .shift .shiftTimeout).kick

/-- RANGE_WINDOW_EXPIRY: the range window expires (R50). -/
def execRangeWindowExpiry (s : State) : StepOutcome := .next (s.windowExpiry .awaitRange .range .rangeTimeout).kick

/-- CLUTCH_WINDOW_EXPIRY: the clutch window expires (R52). -/
def execClutchWindowExpiry (s : State) : StepOutcome := .next (s.windowExpiry .clutching .clutch .clutchTimeout).kick

/-- CONFIRM_WINDOW_EXPIRY: the confirm window expires (R53). -/
def execConfirmWindowExpiry (s : State) : StepOutcome := .next (s.windowExpiry .awaitConfirm .confirm .confirmLapsed).kick

/-- IDLE_DOWN_WINDOW_EXPIRY: the idle-down window expires (R60). -/
def execIdleDownWindowExpiry (s : State) : StepOutcome := .next (s.idleDownExpiry).kick

/-- NEUTRAL_WAIT_EXPIRY: the neutral wait expires (R62). -/
def execNeutralWaitExpiry (s : State) : StepOutcome := .next (s.neutralExpiry).kick

/-- RELEASE_WINDOW_EXPIRY: the release window expires (R61, R63). -/
def execReleaseWindowExpiry (s : State) : StepOutcome := .next (s.releaseExpiry).kick

end Sys2Proof.Machine
end

