-- ==== Sys2Proof/Machine/Governing.lean ====
section
/-! DEFINITION. Governing.lean: the pump governor's requests, its update and the primer's expiry (spec/04, spec/05,
spec/06). Each meaning says what a command does to all of the state but the queue of commands; where a transmitter is
left idle with something to send it then begins a frame (R152). -/

namespace Sys2Proof.Machine

/-- GOVERN (R73, R74, R76). -/
def execGovern (tag : Byte) (payload : List Byte) (s : State) : StepOutcome :=
  .next (s.onFrame 0x30#8 tag (answerGovern payload))

/-- NUDGE (R75, R76). -/
def execNudge (tag : Byte) (payload : List Byte) (s : State) : StepOutcome :=
  .next (s.onFrame 0x31#8 tag (answerNudge payload))

/-- RESUME (R109). -/
def execResume (tag : Byte) (payload : List Byte) (s : State) : StepOutcome :=
  .next (s.onFrame 0x32#8 tag (answerResume payload))

/-- PRIME (R113). -/
def execPrime (tag : Byte) (payload : List Byte) (s : State) : StepOutcome :=
  .next (s.onFrame 0x33#8 tag (answerPrime payload))

/-- GOV_READ (R77). -/
def execGovRead (tag : Byte) (payload : List Byte) (s : State) : StepOutcome :=
  .next (s.onFrame 0x34#8 tag (answerGovRead payload))

/-- GOVERNOR_UPDATE: the governor makes its update (R84). -/
def execGovernorUpdate (s : State) : StepOutcome := .next (s.governorUpdate).kick

/-- PRIME_TIME_EXPIRY: prime_time expires (R114). -/
def execPrimeTimeExpiry (s : State) : StepOutcome := .next (s.primeExpiry).kick

end Sys2Proof.Machine
end

