-- ==== Sys2Proof/Machine/Interlock.lean ====
section
/-! DEFINITION. Interlock.lean: the interlock matrix's requests and expiries (spec/02). Each meaning says what a
command does to all of the state but the queue of commands; where a transmitter is left idle with something to send it
then begins a frame (R152). -/

namespace Sys2Proof.Machine

/-- ROLL_OVERSPEED_EXPIRY: the roll overspeed timer expires (R28). -/
def execRollOverspeedExpiry (s : State) : StepOutcome := .next (s.rollOverspeedExpiry).kick

/-- LOCKOUT_DELAY_EXPIRY: the delay timer of a lockout entry expires (R32). -/
def execLockoutDelayExpiry (i : EntryIx) (s : State) : StepOutcome := .next (s.lockDelayExpiry i).kick

/-- LOCKOUT_SET (R36). -/
def execLockoutSet (tag : Byte) (payload : List Byte) (s : State) : StepOutcome :=
  .next (s.onFrame 0x10#8 tag (answerLockoutSet payload))

/-- LOCKOUT_GET (R37). -/
def execLockoutGet (tag : Byte) (payload : List Byte) (s : State) : StepOutcome :=
  .next (s.onFrame 0x11#8 tag (answerLockoutGet payload))

/-- LATCH_CLEAR (R38, R39). -/
def execLatchClear (tag : Byte) (payload : List Byte) (s : State) : StepOutcome :=
  .next (s.onFrame 0x12#8 tag (answerLatchClear payload))

/-- SILENCE (R41). -/
def execSilence (tag : Byte) (payload : List Byte) (s : State) : StepOutcome :=
  .next (s.onFrame 0x13#8 tag (answerSilence payload))

end Sys2Proof.Machine
end

