-- ==== Sys2Proof/Machine/LinkPort.lean ====
section
/-! DEFINITION. LinkPort.lean: the link port's and the report queue's requests, and the events of the serial line
(spec/09, spec/10). Each meaning says what a command does to all of the state but the queue of commands; where a
transmitter is left idle with something to send it then begins a frame (R152). -/

namespace Sys2Proof.Machine

/-- STATUS (R153). -/
def execStatus (tag : Byte) (payload : List Byte) (s : State) : StepOutcome :=
  .next (s.onFrame 0x01#8 tag (answerStatus payload))

/-- FETCH (R164). -/
def execFetch (tag : Byte) (payload : List Byte) (s : State) : StepOutcome :=
  .next (s.onFrame 0x02#8 tag (answerFetch payload))

/-- GATE (R162). -/
def execGate (tag : Byte) (payload : List Byte) (s : State) : StepOutcome :=
  .next (s.onFrame 0x03#8 tag (answerGate payload))

/-- RESTART (R154). -/
def execRestart (tag : Byte) (payload : List Byte) (s : State) : StepOutcome :=
  .next (s.onFrame 0x53#8 tag (answerRestart payload))

/-- UNKNOWN_KIND_FRAME: a frame received whole whose kind is not a request kind (R150). A kind that is one is taken as
that request (log 5). -/
def execUnknownKindFrame (kind tag : Byte) (payload : List Byte) (s : State) : StepOutcome :=
  .next (s.takeFrame kind tag payload)

/-- FRAME_DISCARDED: a frame is discarded for its length or its check (R148). -/
def execFrameDiscarded (closing : Byte) (s : State) : StepOutcome := .next (s.frameDiscards closing).kick

/-- FRAME_GAP_TIMEOUT: a gap inside a frame discards it (R148). -/
def execFrameGapTimeout (s : State) : StepOutcome := .next (s.gapTimeout).kick

/-- TRANSMIT_FRAME_END: the last byte of a frame is sent (R152, R154). -/
def execTransmitFrameEnd (s : State) : StepOutcome := .next (s.transmitEnds).kick

/-- BYTE_ARRIVAL: a byte arrives at the receiver (R148). -/
def execByteArrival (b : Byte) (s : State) : StepOutcome := .next (s.byteArrives b).kick

end Sys2Proof.Machine
end

