-- ==== Sys2Proof/Machine/Settings.lean ====
section
/-! DEFINITION. Settings.lean: start-up and the configuration store (spec/11): POWER_ON, RESET_LINE,
WRITE_BACK_WORD_DONE, PARAM_SET, PARAM_GET, COMMIT, COMMIT_WORD_DONE. Each meaning says what a command does to all of
the state but the queue of commands; where a transmitter is left idle with something to send it then begins a frame
(R152). -/

namespace Sys2Proof.Machine

/-- POWER_ON: power is applied and start-up runs (R172). -/
def execPowerOn (found : List (Nat × StoreWord)) (s : State) : StepOutcome := .next (s.startUp found).kick

/-- RESET_LINE: the reset line begins the same start-up (R172). -/
def execResetLine (found : List (Nat × StoreWord)) (s : State) : StepOutcome := .next (s.startUp found).kick

/-- WRITE_BACK_WORD_DONE: a corrected word has been written back and is read again (R166). -/
def execWriteBackWordDone (found : Option StoreWord) (s : State) : StepOutcome := .next (s.writeBackDone found).kick

/-- PARAM_SET (R169). -/
def execParamSet (tag : Byte) (payload : List Byte) (s : State) : StepOutcome :=
  .next (s.onFrame 0x50#8 tag (answerParamSet payload))

/-- PARAM_GET (R169). -/
def execParamGet (tag : Byte) (payload : List Byte) (s : State) : StepOutcome :=
  .next (s.onFrame 0x51#8 tag (answerParamGet payload))

/-- COMMIT (R170). -/
def execCommit (tag : Byte) (payload : List Byte) (s : State) : StepOutcome :=
  .next (s.onFrame 0x52#8 tag (answerCommit payload))

/-- COMMIT_WORD_DONE: a word of the commit has been written and is read back (R170). -/
def execCommitWordDone (found : Option StoreWord) (s : State) : StepOutcome := .next (s.commitWordDone found).kick

end Sys2Proof.Machine
end

