-- ==== Sys2Proof/Machine/Signals.lean ====
section
/-! DEFINITION. Signals.lean: the measurement events of the input stage and INPUTS (spec/01). Each meaning says what a
command does to all of the state but the queue of commands; where a transmitter is left idle with something to send it
then begins a frame (R152). -/

namespace Sys2Proof.Machine

/-- PRESSURE_SAMPLE: A0 and A1 are sampled together (R2). -/
def execPressureSample (c0 c1 : Code) (s : State) : StepOutcome := .next (s.pressureSample c0 c1).kick

/-- TEMPERATURE_SAMPLE: A2 is sampled (R2). -/
def execTemperatureSample (c2 : Code) (s : State) : StepOutcome := .next (s.temperatureSample c2).kick

/-- LEVEL_SAMPLE: a level channel is sampled (R2, R5). -/
def execLevelSample (ch : LevelIx) (c : Code) (s : State) : StepOutcome := .next (s.levelSample ch c).kick

/-- ENGINE_SPEED_GATE_END: the F0 gate ends (R8). -/
def execEngineSpeedGateEnd (s : State) : StepOutcome := .next (s.engineGateEnd).kick

/-- ROAD_SPEED_GATE_END: the F1 gate ends (R9). -/
def execRoadSpeedGateEnd (s : State) : StepOutcome := .next (s.roadGateEnd).kick

/-- FLOW_GATE_END: the F2 or F3 gate ends (R10, R11). -/
def execFlowGateEnd (m : Meter) (s : State) : StepOutcome := .next (s.flowGateEnd m).kick

/-- LINE_SAMPLE: the discrete lines are sampled (R12). -/
def execLineSample (raw : BitVec 12) (s : State) : StepOutcome := .next (s.lineSample raw).kick

/-- PULSE_ARRIVAL: a pulse arrives on F0 to F3 (R7). -/
def execPulseArrival (p : PulseInput) (s : State) : StepOutcome := .next (s.pulse p).kick

/-- INPUTS (R15). -/
def execInputs (tag : Byte) (payload : List Byte) (s : State) : StepOutcome :=
  .next (s.onFrame 0x04#8 tag (answerInputs payload))

end Sys2Proof.Machine
end

