-- ==== Sys2Proof/Machine/Water.lean ====
section
/-! DEFINITION. Water.lean: the tank and supply unit's requests and events (spec/07, spec/08). Each meaning says what
a command does to all of the state but the queue of commands; where a transmitter is left idle with something to send
it then begins a frame (R152). -/

namespace Sys2Proof.Machine

/-- TANK_UPDATE: a tank update is made (R119, R136). -/
def execTankUpdate (t : TankIx) (s : State) : StepOutcome := .next (s.tankUpdate t).kick

/-- SETTLE_TIMER_EXPIRY: a settle timer expires (R138). -/
def execSettleTimerExpiry (t : TankIx) (s : State) : StepOutcome := .next (s.settleExpiry t).kick

/-- TANK_SET (R125, R126). -/
def execTankSet (tag : Byte) (payload : List Byte) (s : State) : StepOutcome :=
  .next (s.onFrame 0x42#8 tag (answerTankSet payload))

/-- TANK_TABLE (R127). -/
def execTankTable (tag : Byte) (payload : List Byte) (s : State) : StepOutcome :=
  .next (s.onFrame 0x41#8 tag (answerTankTable payload))

/-- TANK_READ (R129, R130). -/
def execTankRead (tag : Byte) (payload : List Byte) (s : State) : StepOutcome :=
  .next (s.onFrame 0x40#8 tag (answerTankRead payload))

/-- SOURCE (R140, R141). -/
def execSource (tag : Byte) (payload : List Byte) (s : State) : StepOutcome :=
  .next (s.onFrame 0x43#8 tag (answerSource payload))

/-- CHANGEOVER_WINDOW_EXPIRY: the changeover window expires (R142). -/
def execChangeoverWindowExpiry (s : State) : StepOutcome := .next (s.changeoverExpiry).kick

/-- FILL (R144). -/
def execFill (tag : Byte) (payload : List Byte) (s : State) : StepOutcome :=
  .next (s.onFrame 0x44#8 tag (answerFill payload))

/-- RISE_TIMER_EXPIRY: the rise timer expires (R145). -/
def execRiseTimerExpiry (s : State) : StepOutcome := .next (s.riseExpiry).kick

end Sys2Proof.Machine
end

