-- ==== Sys2Proof/Machine/Dispatch.lean ====
section
/-! DEFINITION. Dispatch.lean: one arm per command, each one direct call of its meaning. -/

namespace Sys2Proof.Machine

def exec (i : Instr) (s : State) : Host.Outcome State Fault Refusal :=
  match i with
  | .powerOn found => Sys2Proof.Machine.execPowerOn found s
  | .resetLine found => Sys2Proof.Machine.execResetLine found s
  | .writeBackWordDone found => Sys2Proof.Machine.execWriteBackWordDone found s
  | .pressureSample c0 c1 => Sys2Proof.Machine.execPressureSample c0 c1 s
  | .temperatureSample c2 => Sys2Proof.Machine.execTemperatureSample c2 s
  | .levelSample ch c => Sys2Proof.Machine.execLevelSample ch c s
  | .engineSpeedGateEnd => Sys2Proof.Machine.execEngineSpeedGateEnd s
  | .roadSpeedGateEnd => Sys2Proof.Machine.execRoadSpeedGateEnd s
  | .flowGateEnd m => Sys2Proof.Machine.execFlowGateEnd m s
  | .lineSample raw => Sys2Proof.Machine.execLineSample raw s
  | .rollOverspeedExpiry => Sys2Proof.Machine.execRollOverspeedExpiry s
  | .lockoutDelayExpiry e => Sys2Proof.Machine.execLockoutDelayExpiry e s
  | .status tag payload => Sys2Proof.Machine.execStatus tag payload s
  | .fetch tag payload => Sys2Proof.Machine.execFetch tag payload s
  | .gate tag payload => Sys2Proof.Machine.execGate tag payload s
  | .inputs tag payload => Sys2Proof.Machine.execInputs tag payload s
  | .lockoutSet tag payload => Sys2Proof.Machine.execLockoutSet tag payload s
  | .lockoutGet tag payload => Sys2Proof.Machine.execLockoutGet tag payload s
  | .latchClear tag payload => Sys2Proof.Machine.execLatchClear tag payload s
  | .silence tag payload => Sys2Proof.Machine.execSilence tag payload s
  | .engage tag payload => Sys2Proof.Machine.execEngage tag payload s
  | .confirm tag payload => Sys2Proof.Machine.execConfirm tag payload s
  | .disengage tag payload => Sys2Proof.Machine.execDisengage tag payload s
  | .shiftWindowExpiry => Sys2Proof.Machine.execShiftWindowExpiry s
  | .rangeWindowExpiry => Sys2Proof.Machine.execRangeWindowExpiry s
  | .clutchWindowExpiry => Sys2Proof.Machine.execClutchWindowExpiry s
  | .confirmWindowExpiry => Sys2Proof.Machine.execConfirmWindowExpiry s
  | .idleDownWindowExpiry => Sys2Proof.Machine.execIdleDownWindowExpiry s
  | .neutralWaitExpiry => Sys2Proof.Machine.execNeutralWaitExpiry s
  | .releaseWindowExpiry => Sys2Proof.Machine.execReleaseWindowExpiry s
  | .govern tag payload => Sys2Proof.Machine.execGovern tag payload s
  | .nudge tag payload => Sys2Proof.Machine.execNudge tag payload s
  | .resume tag payload => Sys2Proof.Machine.execResume tag payload s
  | .prime tag payload => Sys2Proof.Machine.execPrime tag payload s
  | .govRead tag payload => Sys2Proof.Machine.execGovRead tag payload s
  | .governorUpdate => Sys2Proof.Machine.execGovernorUpdate s
  | .primeTimeExpiry => Sys2Proof.Machine.execPrimeTimeExpiry s
  | .tankUpdate t => Sys2Proof.Machine.execTankUpdate t s
  | .settleTimerExpiry t => Sys2Proof.Machine.execSettleTimerExpiry t s
  | .tankSet tag payload => Sys2Proof.Machine.execTankSet tag payload s
  | .tankTable tag payload => Sys2Proof.Machine.execTankTable tag payload s
  | .tankRead tag payload => Sys2Proof.Machine.execTankRead tag payload s
  | .source tag payload => Sys2Proof.Machine.execSource tag payload s
  | .changeoverWindowExpiry => Sys2Proof.Machine.execChangeoverWindowExpiry s
  | .fill tag payload => Sys2Proof.Machine.execFill tag payload s
  | .riseTimerExpiry => Sys2Proof.Machine.execRiseTimerExpiry s
  | .paramSet tag payload => Sys2Proof.Machine.execParamSet tag payload s
  | .paramGet tag payload => Sys2Proof.Machine.execParamGet tag payload s
  | .commit tag payload => Sys2Proof.Machine.execCommit tag payload s
  | .commitWordDone found => Sys2Proof.Machine.execCommitWordDone found s
  | .restart tag payload => Sys2Proof.Machine.execRestart tag payload s
  | .unknownKindFrame kind tag payload => Sys2Proof.Machine.execUnknownKindFrame kind tag payload s
  | .frameDiscarded closing => Sys2Proof.Machine.execFrameDiscarded closing s
  | .frameGapTimeout => Sys2Proof.Machine.execFrameGapTimeout s
  | .transmitFrameEnd => Sys2Proof.Machine.execTransmitFrameEnd s
  | .byteArrival b => Sys2Proof.Machine.execByteArrival b s
  | .pulseArrival p => Sys2Proof.Machine.execPulseArrival p s

end Sys2Proof.Machine
end

