-- ==== Sys2Proof/Safety.lean ====
section
/-! DEFINITION. Safety.lean: the laws that the manual says the part keeps, as predicates of one state. Each is stated so
that every command keeps it; where that takes a companion fact, the companion is part of the law and named. -/

namespace Sys2Proof.Machine

/-- Until the image is complete the mode is START and the sequencer IDLE; from then on every line has settled and the
mode is what the sequencer's state and path give (R16, R18, R19, R65). -/
def State.PhaseLaw (s : State) : Prop :=
  (s.image.complete = false → s.matrix.mode = .start ∧ s.seq.state = .idle) ∧
  (s.image.complete = true →
    s.matrix.mode = modeOf s.seq.state s.seq.path ∧ ∀ l, (s.image.lines.get l).state ≠ .unsettled)

/-- The drive path is NONE in IDLE alone, SPLIT in SHIFTING and AWAIT_RANGE and CLUTCH in CLUTCHING, and O_CLUTCH is
energized only on the clutch path and never in RELEASING (R42, R46, R47, R61). -/
def State.PathLaw (s : State) : Prop :=
  (s.seq.path = .none ↔ s.seq.state = .idle) ∧
  (s.seq.state = .shifting ∨ s.seq.state = .awaitRange → s.seq.path = .split) ∧
  (s.seq.state = .clutching → s.seq.path = .clutch) ∧
  (s.seq.oClutch = true → s.seq.path = .clutch ∧ s.seq.state ≠ .releasing)

/-- The shift solenoids are never energized together, each only in its state, and only while the truck is stopped
(R48). -/
def State.SolenoidLaw (s : State) : Prop :=
  (s.seq.oShiftPump = true → s.seq.oShiftRoad = false ∧ s.seq.state = .shifting ∧ s.image.v < 5) ∧
  (s.seq.oShiftRoad = true → s.seq.state = .releasing ∧ s.seq.path = .split ∧ s.image.v < 5)

/-- Every permit stands as its conditions say, and O_DRIVE_INHIBIT is asserted while DRIVE is withheld (R21, R22). -/
def State.PermitLaw (s : State) : Prop :=
  (∀ p, s.matrix.permits.get p = s.permitHeld p) ∧ s.matrix.driveInhibit = !s.matrix.permits.drive

/-- O_THROTTLE_MODE follows the apparatus mode (R20). -/
def State.ThrottleModeLaw (s : State) : Prop := s.matrix.throttleMode = throttleModeOf s.matrix.mode

/-- The cap is what R27 gives, the demand never exceeds it, and the demand is 0 outside ENGAGED (R27, R81). -/
def State.DemandLaw (s : State) : Prop :=
  s.matrix.cap = s.throttleCap ∧ s.gov.demand ≤ s.matrix.cap ∧ (s.seq.state ≠ .engaged → s.gov.demand = 0)

/-- The integrator stays within 0 to 256000 and the demand within 0 to 1000; the cap and roll_cap stay within 0 to 1000
(R27, R89). -/
def State.RangeLaw (s : State) : Prop :=
  s.gov.integrator ≤ 256000 ∧ s.gov.demand ≤ 1000 ∧ s.matrix.cap ≤ 1000 ∧ s.config.rollCap ≤ 1000

/-- The saved operator context is present exactly when the set of active causes is non-empty (R96). -/
def State.ContextLaw (s : State) : Prop := s.gov.saved.isSome = !s.gov.noCauses

/-- O_HORN sounds while a horn condition holds and the horn is not muted, and the mute ends with the last condition
(R40, R41). -/
def State.HornLaw (s : State) : Prop :=
  s.matrix.horn = (s.hornCondition && !s.matrix.muted) ∧ (s.matrix.muted = true → s.hornCondition = true) ∧
  s.matrix.tankHorn = s.tankHornCondition

/-- The tank-to-pump valve is open exactly while its condition holds (R139). -/
def State.ValveLaw (s : State) : Prop := s.supply.tankToPump = s.valveOpen

/-- A queue of at most 24 reports, no two of the same kind and subject, every update count from 1 to 255 (R159). -/
def ReportQueue.Wf (q : ReportQueue) : Prop :=
  q.list.length ≤ 24 ∧ q.list.Pairwise (fun a b => a.sameKey b = false) ∧ ∀ r ∈ q.list, 1 ≤ r.count ∧ r.count ≤ 255

/-- At most four replies wait (R150). -/
def State.ReplyLaw (s : State) : Prop := s.link.replies.length ≤ 4

/-- The store's list of words is in its canonical form (R165; log 7). -/
def State.StoreLaw (s : State) : Prop := cellsWf s.store.cells = true

/-- Every tank's settings are a consistent record (R116, R130). -/
def WorkingConfig.TanksConsistent (c : WorkingConfig) : Prop := ∀ t, tankConsistent t (c.tanks.get t) = true

/-- A volume that is absent or at most so many litres. -/
def within (capacity : Nat) (v : Option Nat) : Prop := ∀ x, v = some x → x ≤ capacity

/-- Every volume a tank holds lies within its capacity, given consistent records (R122). -/
def State.VolumeLaw (s : State) : Prop :=
  s.config.TanksConsistent ∧
  ∀ t, within (s.config.tanks.get t).capacity (s.tanks.get t).volume ∧
    within (s.config.tanks.get t).capacity (s.tanks.get t).sensed ∧
    within (s.config.tanks.get t).capacity (s.tanks.get t).v0

/-- In PUMP_AND_ROLL the water source is TANK with no changeover in progress (R140). -/
def State.RollSourceLaw (s : State) : Prop :=
  s.matrix.mode = .pumpAndRoll → s.supply.source = .tank ∧ s.supply.changeover = none

/-- A fill is in progress only while the FILL permit is held and the source is not TANK (R144, R145). -/
def State.FillLaw (s : State) : Prop :=
  s.supply.fill ≠ none → s.matrix.permits.fill = true ∧ s.supply.source ≠ .tank

/-- Every value of the working configuration is in its range: parameters (R168), lockout entries (R29, R36), consistent
tank records (R116), and the gate of class 0 open (R162). -/
def WorkingConfig.InRange (c : WorkingConfig) : Prop :=
  (∀ p, paramClamp p (c.param p) = c.param p) ∧
  (∀ i e, c.entries.get i = some e → e.armed ≠ 0 ∧ e.effects ≠ 0 ∧ clampEntry e = e) ∧
  c.TanksConsistent ∧ c.gates.getLsbD 0 = true

/-! ### What requests and samples leave, in the terms of the claims -/

/-- The link port right after a request was answered with that reply: no partial frame, the reply last in the list, and
an idle transmitter begins the oldest reply of the list (R150, R152). -/
def LinkPort.answered (k : LinkPort) (r : Reply) : LinkPort :=
  { k with
    rx := [], replies := k.replies ++ [r]
    tx := match k.tx, k.replies ++ [r] with
      | none, q :: _ => some ⟨true, frameBytes q.kind q.tag q.payload⟩
      | t, _ => t }

/-- A state in which, besides what the owner did, a request of that kind and tag was answered. -/
def State.answered (s : State) (kind tag : Byte) (a : Answer) : State :=
  { s with link := s.link.answered (replyOf kind tag a) }

/-- The command that a frame of a kind, tag and payload stands for (R150, R155). -/
def requestOf (kind tag : Byte) (payload : List Byte) : Instr :=
  match kind.toNat with
  | 0x01 => .status tag payload | 0x02 => .fetch tag payload | 0x03 => .gate tag payload | 0x04 => .inputs tag payload
  | 0x10 => .lockoutSet tag payload | 0x11 => .lockoutGet tag payload | 0x12 => .latchClear tag payload
  | 0x13 => .silence tag payload | 0x20 => .engage tag payload | 0x21 => .confirm tag payload
  | 0x22 => .disengage tag payload | 0x30 => .govern tag payload | 0x31 => .nudge tag payload
  | 0x32 => .resume tag payload | 0x33 => .prime tag payload | 0x34 => .govRead tag payload
  | 0x40 => .tankRead tag payload | 0x41 => .tankTable tag payload | 0x42 => .tankSet tag payload
  | 0x43 => .source tag payload | 0x44 => .fill tag payload | 0x50 => .paramSet tag payload
  | 0x51 => .paramGet tag payload | 0x52 => .commit tag payload | 0x53 => .restart tag payload
  | _ => .unknownKindFrame kind tag payload

/-- The payload length that the layout table gives for a request kind; none for TANK_TABLE, whose length its count gives,
and for a kind that is none (R150, R155). -/
def requestLength : Nat → Option Nat
  | 0x01 => some 1 | 0x02 => some 0 | 0x03 => some 1 | 0x04 => some 2 | 0x10 => some 10 | 0x11 => some 1
  | 0x12 => some 1 | 0x13 => some 0 | 0x20 => some 1 | 0x21 => some 0 | 0x22 => some 0 | 0x30 => some 3
  | 0x31 => some 2 | 0x32 => some 0 | 0x33 => some 1 | 0x34 => some 0 | 0x40 => some 2 | 0x42 => some 15
  | 0x43 => some 1 | 0x44 => some 3 | 0x50 => some 4 | 0x51 => some 2 | 0x52 => some 0 | 0x53 => some 0
  | _ => none

/-- The table of R4 for one sample of an analog channel, `value` the number that a code from 400 to 3600 stands for (R3). -/
def ChannelStep (value : Nat → Int) (c : Code) (old new : Channel) : Prop :=
  if c.toNat < 300 ∨ 3700 < c.toNat then
    if old.status = .fault then new = { old with inCount := 0 }
    else if old.outCount < 2 then new = { old with outCount := old.outCount + 1 }
    else new = { old with status := .fault, outCount := 3, inCount := 0, faultCode := c.toNat }
  else if old.status = .fault ∧ old.inCount < 2 then new = { old with inCount := old.inCount + 1 }
  else new = { old with
    value := some (value (if c.toNat < 400 then 400 else if 3600 < c.toNat then 3600 else c.toNat))
    status := if c.toNat < 400 ∨ 3600 < c.toNat then .clamped else .ok, outCount := 0, inCount := 0 }

/-- What a line sample of that raw level makes of one line, filtered over `n` samples (R12 to R14). -/
def LineStep (n : Nat) (raw : Bool) (old new : LineFilter) : Prop :=
  new.prevRaw = some raw ∧
  match old.state with
  | .unsettled =>
    let count := if old.prevRaw = some raw then old.count + 1 else 1
    new.latch = old.latch ∧
    if n ≤ count then new.state = (if raw then .high else .low) ∧ new.count = 0
    else new.state = .unsettled ∧ new.count = count
  | .low | .high =>
    if (old.state = .high ↔ raw = true) then new.state = old.state ∧ new.count = 0 ∧ new.latch = old.latch
    else if n ≤ old.count + 1 then new.state = (if raw then .high else .low) ∧ new.count = 0 ∧ new.latch = true
    else new.state = old.state ∧ new.count = old.count + 1 ∧ new.latch = old.latch

end Sys2Proof.Machine
end

