-- ==== Sys2Proof/WellFormed.lean ====
section
/-! DEFINITION. WellFormed.lean: which commands the serial line and the store can bring about at all. The meanings are
total and do not rely on it. -/

namespace Sys2Proof

/-- The codes of the request kinds, in the order of the layout table (R155). -/
def requestKinds : List Nat :=
  [0x01, 0x02, 0x03, 0x04, 0x10, 0x11, 0x12, 0x13, 0x20, 0x21, 0x22, 0x30, 0x31, 0x32, 0x33, 0x34,
   0x40, 0x41, 0x42, 0x43, 0x44, 0x50, 0x51, 0x52, 0x53]

/-- A frame's length byte is at most 62, so its payload is at most 60 bytes (R148, R155). -/
def wfPayload (payload : List Byte) : Bool := payload.length ≤ 60

/-- The store has the addresses 0 to 255 (R165). -/
def wfFound (found : List (Nat × StoreWord)) : Bool := found.all fun w => w.1 < 256

/-- A kind that is not a request kind (R150). -/
def wfUnknownKind (kind : Byte) : Bool := !requestKinds.contains kind.toNat

/-- The commands that can come about. -/
def Instr.wellFormed : Instr → Bool
  | .powerOn found | .resetLine found => wfFound found
  | .status _ p | .fetch _ p | .gate _ p | .inputs _ p | .lockoutSet _ p | .lockoutGet _ p | .latchClear _ p
  | .silence _ p | .engage _ p | .confirm _ p | .disengage _ p | .govern _ p | .nudge _ p | .resume _ p
  | .prime _ p | .govRead _ p | .tankSet _ p | .tankTable _ p | .tankRead _ p | .source _ p | .fill _ p
  | .paramSet _ p | .paramGet _ p | .commit _ p | .restart _ p => wfPayload p
  | .unknownKindFrame kind _ p => wfUnknownKind kind && wfPayload p
  | .writeBackWordDone _ | .pressureSample _ _ | .temperatureSample _ | .levelSample _ _ | .engineSpeedGateEnd
  | .roadSpeedGateEnd | .flowGateEnd _ | .lineSample _ | .rollOverspeedExpiry | .lockoutDelayExpiry _
  | .shiftWindowExpiry | .rangeWindowExpiry | .clutchWindowExpiry | .confirmWindowExpiry | .idleDownWindowExpiry
  | .neutralWaitExpiry | .releaseWindowExpiry | .governorUpdate | .primeTimeExpiry | .tankUpdate _
  | .settleTimerExpiry _ | .changeoverWindowExpiry | .riseTimerExpiry | .commitWordDone _ | .frameDiscarded _
  | .frameGapTimeout | .transmitFrameEnd | .byteArrival _ | .pulseArrival _ => true

end Sys2Proof
end

