-- ==== Sys2Proof/Certificates/Slice0/Obligations.lean ====
section
/-! DEFINITION. Obligations.lean: the statements about the part, in the order of OBLIGATIONS.json. `State.answered` and the
laws they name stand in Safety.lean. Where a statement rests on a choice of the model its docstring names the log entry. -/

open Sys2Proof Sys2Proof.Machine

/-! ### The queue of commands, and every command -/

/-- A step takes the command at the front of the queue and carries it out with the queue's rest; on an empty queue
the part idles. The queue is the model's own: log 2 (spec/95). -/
def Obligations.StepTakesTheFrontCommand : Prop :=
  (∀ (c : Instr) (rest : List Instr) (s : State),
    step { s with pending := c :: rest } = exec c { s with pending := rest }) ∧
  ∀ s : State, s.pending = [] → step s = .next s

/-- Every command completes: it answers a next state in which the queue of commands and the strap pin are as before.
No command faults and none is refused by the model (R151: refused requests are replies). The queue, a strap that no
command changes and the want of any fault are the model's choices: logs 2, 6 and 32. -/
def Obligations.EveryCommandCompletesAndLeavesQueueAndStrap : Prop :=
  ∀ (c : Instr) (s : State), ∃ t, exec c s = .next t ∧ t.pending = s.pending ∧ t.strap = s.strap

/-- Right after reset every law of Safety.lean holds, and the outputs are those of R172: the demand 0, the throttle
mode NONE, every solenoid, valve and the horn off, O_DRIVE_INHIBIT asserted. Where the spec gives State.reset no value
it is the model's: the strap (log 6), the first contents of the store, on which the range, volume and store laws rest
(log 7), and the model's own fields, tankHorn of the horn's law among them (log 40). -/
def Obligations.LawsAndOutputsAtReset : Prop :=
  State.reset.PhaseLaw ∧ State.reset.PathLaw ∧ State.reset.SolenoidLaw ∧ State.reset.PermitLaw ∧
  State.reset.ThrottleModeLaw ∧ State.reset.DemandLaw ∧ State.reset.RangeLaw ∧ State.reset.ContextLaw ∧
  State.reset.HornLaw ∧ State.reset.ValveLaw ∧ State.reset.RollSourceLaw ∧ State.reset.FillLaw ∧
  State.reset.reports.Wf ∧ State.reset.ReplyLaw ∧ State.reset.StoreLaw ∧ State.reset.VolumeLaw ∧ State.reset.config.InRange ∧
  State.reset.gov.demand = 0 ∧ State.reset.matrix.throttleMode = .none ∧ State.reset.seq.oShiftPump = false ∧
  State.reset.seq.oShiftRoad = false ∧ State.reset.seq.oClutch = false ∧ State.reset.gov.primer = none ∧
  State.reset.gov.reliefOpen = false ∧ State.reset.supply.tankToPump = false ∧ State.reset.supply.fill = none ∧
  State.reset.matrix.horn = false ∧ State.reset.matrix.driveInhibit = true

/-! ### Encodings -/

/-- A frame written by the layout of R155 with the check of R149 is read back whole, with its kind, tag and payload
and whatever bytes stand behind it, and no part of it that is shorter is taken for a frame or discarded (R148). -/
def Obligations.FrameIsReadBackWhole : Prop :=
  ∀ (kind tag : Byte) (payload rest : List Byte), payload.length ≤ 60 →
    readFrame ((frameBytes kind tag payload).tail ++ rest) = .whole kind tag payload rest ∧
    ∀ n, n < payload.length + 4 → readFrame ((frameBytes kind tag payload).tail.take n) = .partly

/-- The bytes of a frame, arriving one after another at a hunting receiver that listens, while the transmitter has
nothing to choose, do exactly what the request of the frame's kind does (R148, R150, R155; log 1). -/
def Obligations.BytesOfAFrameBringItsRequest : Prop :=
  ∀ (s : State) (kind tag : Byte) (payload : List Byte), payload.length ≤ 60 → s.listening = true → s.link.rx = [] →
    s.kick = s →
    (frameBytes kind tag payload).foldl
      (fun o b => match o with
        | .next t => exec (.byteArrival b) t
        | .fault f => .fault f
        | .refused r => .refused r) (.next s) = exec (requestOf kind tag payload) s

/-- A tank table packed by R157 takes the bytes that R157 counts, and unpacked again is the same table. -/
def Obligations.TankTableIsReadBack : Prop :=
  ∀ table : List Breakpoint, (∀ b ∈ table, b.level < 2048 ∧ b.volume < 32768) →
    (packTable table).length = (26 * table.length + 7) / 8 ∧ unpackTable table.length (packTable table) = table

/-- The nine bytes in which LOCKOUT_GET shows an entry are those in which LOCKOUT_SET would write it, and an absent
entry shows nine zeros, of which the first alone writes "absent" (R155, R156). -/
def Obligations.LockoutEntryIsReadBack : Prop :=
  (∀ e : LockoutEntry, e.armed ≠ 0 → e.effects ≠ 0 → condOp1 e.cond < 65536 → e.delay < 65536 →
    ∃ b0 b1 b2 b3 b4 b5 b6 b7 b8, entryBytes (some e) = [b0, b1, b2, b3, b4, b5, b6, b7, b8] ∧
      readEntry b0 b1 b2 b3 b4 b5 b6 b7 b8 = .present e) ∧
  entryBytes none = List.replicate 9 0 ∧
  ∀ b1 b2 b3 b4 b5 b6 b7 b8 : Byte, readEntry 0 b1 b2 b3 b4 b5 b6 b7 b8 = .absent

/-- A configuration in range, written word by word as a commit writes it, is what the next loading of the store
gives, with the commit's number as the commit counter, no section invalid and nothing to write back (R165 to R167,
R170). The layout of the words inside a section is the model's: log 8. -/
def Obligations.CommittedConfigurationIsLoadedBack : Prop :=
  ∀ (c : WorkingConfig) (number : Nat) (cells : List (Nat × StoreWord)), c.InRange → number < 65536 →
    (∀ a, a < 184 → readCell cells a = ⟨configWord c number a, 0⟩) →
    (loadStore cells).config = c ∧ (loadStore cells).counter = number ∧ (loadStore cells).writeBack = [] ∧
    (∀ sec, (loadStore cells).invalid.get sec = false) ∧ (loadStore cells).queue = ⟨[], false⟩

/-! ### Laws that every step keeps -/

/-- Until the image is complete the mode is START and the sequencer IDLE; from then on every line has settled and
the mode is what state and path give (R16, R18, R19, R65). The drive path is NONE in IDLE alone, fits the states that belong
to one path, and O_CLUTCH is energized only on the clutch path and never in RELEASING (R42, R46, R47, R61). Every step
keeps both. -/
def Obligations.PhaseAndPathLawsAreKept : Prop :=
  (∀ s t : State, s.PhaseLaw → step s = .next t → t.PhaseLaw) ∧
  ∀ s t : State, s.PhaseLaw → s.PathLaw → step s = .next t → t.PathLaw

/-- R48: the shift solenoids are never energized together, each only in its state, and only while the truck is
stopped; every step keeps this, so the event that ends the state or makes the truck moving de-energizes them. -/
def Obligations.SolenoidLawIsKept : Prop :=
  ∀ s t : State, s.PhaseLaw → s.SolenoidLaw → step s = .next t → t.SolenoidLaw

/-- R59: a step that de-energizes O_CLUTCH or energizes O_SHIFT_ROAD leaves the demand at 0 and the engine speed at
or below the engage limit, start-up excepted, which alone empties a complete image or leaves it as start-up does. -/
def Obligations.DriveIsReleasedOnlyAtIdle : Prop :=
  ∀ s t : State, s.PhaseLaw → s.PathLaw → s.DemandLaw → step s = .next t →
    (s.seq.oClutch = true ∧ t.seq.oClutch = false) ∨ (s.seq.oShiftRoad = false ∧ t.seq.oShiftRoad = true) →
    t.image = startImage ∨ (t.gov.demand = 0 ∧ t.image.n ≤ t.config.idleRpm + 150)

/-- Every permit stands as its conditions say, O_DRIVE_INHIBIT is asserted while DRIVE is withheld (R21 to R25), and
O_THROTTLE_MODE follows the apparatus mode (R20); every step keeps both. -/
def Obligations.PermitAndThrottleModeLawsAreKept : Prop :=
  (∀ s t : State, s.PhaseLaw → s.PermitLaw → step s = .next t → t.PermitLaw) ∧
  ∀ s t : State, s.ThrottleModeLaw → step s = .next t → t.ThrottleModeLaw

/-- R81: the demand never exceeds the throttle cap, which is what R27 gives, and it is 0 whenever the sequencer is
in any state other than ENGAGED; every step keeps this. -/
def Obligations.DemandLawIsKept : Prop :=
  ∀ s t : State, s.PhaseLaw → s.DemandLaw → step s = .next t → t.DemandLaw

/-- The integrator stays within 0 to 256000, demand and cap within 0 to 1000 (R27, R66, R89); every step keeps
this. -/
def Obligations.RangeLawIsKept : Prop :=
  ∀ s t : State, s.RangeLaw → step s = .next t → t.RangeLaw

/-- The saved operator context is present exactly while the set of active causes is not empty (R96, R97, R109,
R111), and O_HORN sounds exactly while a horn condition holds and the horn is not muted, a mute that ends with the last
condition (R40, R41); every step keeps both. -/
def Obligations.ContextAndHornLawsAreKept : Prop :=
  (∀ s t : State, s.ContextLaw → step s = .next t → t.ContextLaw) ∧
  ∀ s t : State, s.HornLaw → step s = .next t → t.HornLaw

/-- O_TANK_TO_PUMP is open exactly while its condition holds (R139), the mode is PUMP_AND_ROLL only while the source
is TANK with no changeover in progress (R140), and a fill is in progress only while FILL is held and the source is not
TANK, so that the event that withholds the permit or makes the source TANK ends it (R144, R145); every step keeps
each. -/
def Obligations.ValveAndRollSourceLawsAreKept : Prop :=
  (∀ s t : State, s.ValveLaw → step s = .next t → t.ValveLaw) ∧
  (∀ s t : State, s.PhaseLaw → s.RollSourceLaw → step s = .next t → t.RollSourceLaw) ∧
  ∀ s t : State, s.FillLaw → step s = .next t → t.FillLaw

/-- The report queue holds at most 24 reports, no two of the same kind and subject, every update count from 1 to 255
(R159, R160), at most four replies wait (R150), and the store's list of words keeps its canonical form (log 7); every
step keeps each. -/
def Obligations.QueueRepliesAndStoreAreKept : Prop :=
  (∀ s t : State, s.reports.Wf → step s = .next t → t.reports.Wf) ∧
  (∀ s t : State, s.ReplyLaw → step s = .next t → t.ReplyLaw) ∧
  ∀ s t : State, s.StoreLaw → step s = .next t → t.StoreLaw

/-- R122: every volume a tank holds lies between 0 and its capacity, its settings a consistent record; every step
keeps this. -/
def Obligations.VolumeLawIsKept : Prop :=
  ∀ s t : State, s.VolumeLaw → step s = .next t → t.VolumeLaw

/-- Every value of the working configuration stays in its range, whatever a request sends or the store holds (R36,
R116, R162, R167, R169); every step keeps this. -/
def Obligations.ConfigurationStaysInRange : Prop :=
  ∀ s t : State, s.config.InRange → step s = .next t → t.config.InRange

/-! ### Start-up and the configuration store (spec/11) -/

/-- POWER_ON and RESET_LINE: whatever the part was doing, every block takes its start-up state (R172), each tank every
one of its contents (R118, R131), the words last written stay in the store but for those that hold something else
(R171), and the store's contents give the working configuration, the commit counter, the invalid set and the write-back list (R166, R167). The model's choices in it:
the clock and the strap pin (logs 3, 6), the operand that says what words hold (log 10), RECOVERED_AT_START clear at
once (log 14), a store that keeps its words and ends a commit (log 33), and the fields of State.reset that the spec
does not name (log 40). -/
def Obligations.StartUpBeginsEveryBlockAfresh : Prop :=
  ∀ (found : List (Nat × StoreWord)) (s : State), ∃ u : State, exec (.powerOn found) s = .next u.kick ∧
    exec (.resetLine found) s = .next u.kick ∧
    u = { State.reset with
      pending := s.pending, strap := s.strap, config := u.config, tanks := u.tanks, reports := u.reports
      store := u.store, link := startLink s.strap } ∧
    (∀ t, u.tanks.get t =
      { state := if (u.config.tanks.get t).role = .unused then .unconfigured else .blind
        h := none, tilt := none, single := false, tilted := false, sensed := none, volume := none, basis := .none
        band := .normal, v0 := none, outMark := none, inMark := none, settleTimer := none }) ∧
    u.store.cells = writeCells s.store.cells found ∧ u.store.commit = none ∧
    u.config = (loadStore u.store.cells).config ∧ u.store.counter = (loadStore u.store.cells).counter ∧
    u.store.invalid = (loadStore u.store.cells).invalid ∧
    u.store.writeBack = (loadStore u.store.cells).writeBack ∧ u.reports = (loadStore u.store.cells).queue ∧
    (u.store.degraded = true ↔ ∃ sec, u.store.invalid.get sec = true)

/-- A section with an uncorrectable word, or with sound marks of two different commit numbers, is INVALID at start-up:
it joins the invalid set, STORE_DEGRADED is set, and the part's fixed fallback stands in its place (R166, R167). That
a word is its data with a mask of wrong bits is log 9, the operand log 10, and the mark's place in the low 16 bits of
a mark word log 8. -/
def Obligations.BadSectionTakesItsFallback : Prop :=
  ∀ (found : List (Nat × StoreWord)) (s : State) (sec : Section) (k : Nat), k < sectionSize sec →
    let word (j : Nat) : StoreWord := readCell (writeCells s.store.cells found) (sectionBase sec + j)
    wrongBits (word k) = 2 ∨ (wrongBits (word 0) = 0 ∧ wrongBits (word (sectionSize sec - 1)) = 0 ∧
      (word 0).data.toNat % 65536 ≠ (word (sectionSize sec - 1)).data.toNat % 65536) →
    ∃ u : State, exec (.powerOn found) s = .next u.kick ∧ u.store.invalid.get sec = true ∧ u.store.degraded = true ∧
      match sec with
      | .header => u.store.counter = 0
      | .governor => u.config.gov = defaultGov
      | .sequencer => u.config.windows = defaultWindows
      | .inputs => u.config.inputs = defaultInputs
      | .interlock => (∀ i, u.config.entries.get i = none) ∧ u.config.idleRpm = 700 ∧ u.config.rollCeiling = 100 ∧
          u.config.rollCap = 600
      | .tank0 => u.config.tanks.get .t0 = blankTank .t0 ∧ u.config.settleTime = 8 ∧ u.config.changeoverWindow = 30
      | .tank1 => u.config.tanks.get .t1 = blankTank .t1
      | .tank2 => u.config.tanks.get .t2 = blankTank .t2
      | .reports => u.config.gates = 0b111111#6

/-- COMMIT: refused STORE_BUSY while the store is busy, otherwise answered DONE at once, a commit then in flight with
the next number modulo 65536, from address 0, of the working configuration as it stands; nothing else changes (R170). -/
def Obligations.CommitBegins : Prop :=
  ∀ (tag : Byte) (s : State), s.listening = true →
    exec (.commit tag []) s = .next (
      if s.store.commit.isSome = true ∨ s.store.writeBack ≠ [] then
        s.answered 0x52 tag (.refused .storeBusy 0 0 0)
      else
        ({ s with store := { s.store with
            commit := some { number := (s.store.counter + 1) % 65536, next := 0, config := s.config, failed := [] } } }
          ).answered 0x52 tag (.done false false []))

/-- WRITE_BACK_WORD_DONE (R166): the first word of the write-back list is written corrected and leaves the list; read
again it is that word or what was found, which makes its section invalid and submits COMMIT_FAULT with the address.
COMMIT_WORD_DONE (R170): the word at the commit's address reads as the configuration's word under the new number, or
as what was found, a failed word with its COMMIT_FAULT report; after the last word the commit completes: the counter
takes the number, the sections of failed words are the invalid set, STORE_DEGRADED follows it, and COMMIT_DONE is
submitted. Every other word of the store reads as before, and nothing happens with an empty list and with no commit.
That a read-back matches only if it is exact is log 11, the operand log 10, and the sizes of the reports' values log
15. -/
def Obligations.StoreWordsAreWrittenAndReadBack : Prop :=
  (∀ (found : Option StoreWord) (s : State), s.StoreLaw →
    (s.store.writeBack = [] → exec (.writeBackWordDone found) s = .next s.kick) ∧
    ∀ a d rest, s.store.writeBack = (a, d) :: rest →
      ∃ u : State, exec (.writeBackWordDone found) s = .next u.kick ∧
        u = { s with store := u.store, reports := u.reports } ∧ u.store.writeBack = rest ∧
        u.store.commit = s.store.commit ∧ u.store.counter = s.store.counter ∧
        readCell u.store.cells a = found.getD ⟨d, 0⟩ ∧
        (∀ b, b ≠ a → readCell u.store.cells b = readCell s.store.cells b) ∧
        if found.getD ⟨d, 0⟩ = ⟨d, 0⟩ then
          u.reports = s.reports ∧ u.store.invalid = s.store.invalid ∧ u.store.degraded = s.store.degraded
        else u.reports = s.reports.submit (plainReport .commitFault 0 (u8 a)) ∧ u.store.degraded = true ∧
          ∀ sec, u.store.invalid.get sec = (if sec = sectionOf a then true else s.store.invalid.get sec)) ∧
  ∀ (found : Option StoreWord) (s : State), s.StoreLaw →
    (s.store.commit = none → exec (.commitWordDone found) s = .next s.kick) ∧
    ∀ c, s.store.commit = some c →
      let word : StoreWord := ⟨configWord c.config c.number c.next, 0⟩
      let good := found.getD word = word
      let failed := if good then c.failed else c.failed ++ [c.next]
      let queue := if good then s.reports else s.reports.submit (plainReport .commitFault 0 (u8 c.next))
      ∃ u : State, exec (.commitWordDone found) s = .next u.kick ∧
        u = { s with store := u.store, reports := u.reports } ∧ u.store.writeBack = s.store.writeBack ∧
        readCell u.store.cells c.next = found.getD word ∧
        (∀ b, b ≠ c.next → readCell u.store.cells b = readCell s.store.cells b) ∧
        if c.next < 183 then
          u.store.commit = some { c with next := c.next + 1, failed } ∧ u.reports = queue ∧
          u.store.counter = s.store.counter ∧ u.store.invalid = s.store.invalid ∧
          u.store.degraded = s.store.degraded
        else u.store.commit = none ∧ u.store.counter = c.number ∧
          u.reports = queue.submit (plainReport .commitDone 0 (u16 c.number ++ u8 failed.length)) ∧
          (∀ sec, u.store.invalid.get sec = true ↔ ∃ a ∈ failed, sectionOf a = sec) ∧
          (u.store.degraded = true ↔ failed ≠ [])

/-- While the store is busy no command but a start-up changes the working configuration (R36, R125, R127, R162,
R166, R169). -/
def Obligations.BusyStoreKeepsTheConfiguration : Prop :=
  ∀ (c : Instr) (s t : State), s.storeBusy = true → s.link.restarting = false →
    (∀ found, c ≠ .powerOn found ∧ c ≠ .resetLine found) → exec c s = .next t → t.config = s.config

/-- PARAM_SET (R169): an unknown identifier, a busy store and a parameter of ROAD in another mode are refused in that
order and change nothing. Otherwise the parameter takes the value clamped to its range, which the reply carries, with
CLAMPED where the clamp changed it; every other parameter, entry, tank record and gate stays. A value that is the same
changes nothing at all (log 26). A new one moves only what its owner moves: a meter's remainder becomes 0 (R11);
p_set_max and rpm_set_max clamp the operator target and the saved context's where their mode is concerned, an
effective target taken from the operator's following (R68); temp_cut and temp_relief_on judge the relief valve and
OVERHEAT_CUT on the A2 value (R103, R112); idle_rpm, roll_cap and roll_ceiling recompute permits, cap and horn (R23,
R27), the last with the roll-speed state and the overspeed timer (R26, R28). Any other parameter moves nothing but the
configuration. -/
def Obligations.ParamSetWritesTheClampedValue : Prop :=
  ∀ (tag ihi ilo vhi vlo : Byte) (s : State), s.listening = true →
    match paramOfId (readU16 ihi ilo) with
    | none => exec (.paramSet tag [ihi, ilo, vhi, vlo]) s =
        .next (s.answered 0x50 tag (.refused .unknownItem ihi ilo 0))
    | some p =>
      let x := clampInt (paramRange p).1 (paramRange p).2 (readI16 vhi vlo)
      if s.storeBusy = true then exec (.paramSet tag [ihi, ilo, vhi, vlo]) s =
        .next (s.answered 0x50 tag (.refused .storeBusy 0 0 0))
      else if paramRoadOnly p = true ∧ s.matrix.mode ≠ .road then exec (.paramSet tag [ihi, ilo, vhi, vlo]) s =
        .next (s.answered 0x50 tag s.wrongState)
      else ∃ u : State, exec (.paramSet tag [ihi, ilo, vhi, vlo]) s =
          .next (u.answered 0x50 tag (.done (decide (x ≠ readI16 vhi vlo)) false (i16 x))) ∧
        u.config.param p = x ∧ (∀ q, q ≠ p → u.config.param q = s.config.param q) ∧
        u.config.entries = s.config.entries ∧ u.config.tanks = s.config.tanks ∧ u.config.gates = s.config.gates ∧
        (s.config.param p = x → u = s) ∧
        (s.config.param p ≠ x →
          let reclamped (lo hi : Int) (concerns : GovMode → Bool) : Prop :=
            let own := if concerns s.gov.opMode then clampInt lo hi s.gov.opTarget else s.gov.opTarget
            u = { s with
              config := u.config
              gov := { s.gov with
                opTarget := own
                effTarget := if own ≠ s.gov.opTarget ∧ s.gov.noCauses = true then s.gov.effTarget.map fun _ => own
                  else s.gov.effTarget
                saved := s.gov.saved.map fun c =>
                  if concerns c.mode then ⟨c.mode, clampInt lo hi c.target⟩ else c } }
          let recomputed (roll : RollState) (timer : Option Timer) : Prop :=
            u = { s with
              config := u.config, matrix := u.matrix, reports := u.reports
              gov := { s.gov with demand := u.gov.demand, capCut := u.gov.capCut }
              supply := { s.supply with fill := u.supply.fill } } ∧
            u.matrix = { s.matrix with
              permits := u.matrix.permits, cap := u.matrix.cap, driveInhibit := u.matrix.driveInhibit
              horn := u.matrix.horn, muted := u.matrix.muted, tankHorn := u.matrix.tankHorn, roll
              overspeedTimer := timer } ∧
            (∀ k, u.matrix.permits.get k = u.permitHeld k) ∧ u.matrix.cap = u.throttleCap ∧
            (s.gov.demand ≤ s.matrix.cap → u.gov.demand = min s.gov.demand u.matrix.cap) ∧
            (s.matrix.permits.fill = false ∨ u.matrix.permits.fill = true → u.supply.fill = s.supply.fill)
          match p with
          | .kDis => u = { s with
              config := u.config
              image := { s.image with
                meters := s.image.meters.set .dis { s.image.meters.get .dis with remainder := 0 } } }
          | .kFill => u = { s with
              config := u.config
              image := { s.image with
                meters := s.image.meters.set .fill { s.image.meters.get .fill with remainder := 0 } } }
          | .pSetMax => reclamped 0 x fun m => m == .pressure || m == .limit
          | .rpmSetMax => reclamped s.config.idleRpm x fun m => m == .rpm
          | .tempCut | .tempReliefOn =>
            u = { s with
              config := u.config, gov := u.gov, reports := u.reports
              matrix := { s.matrix with
                horn := u.matrix.horn, muted := u.matrix.muted, tankHorn := u.matrix.tankHorn } } ∧
            u.gov.opMode = s.gov.opMode ∧ u.gov.opTarget = s.gov.opTarget ∧ u.gov.demand = s.gov.demand ∧
            (s.image.a2.value = none → u = { s with config := u.config }) ∧
            ∀ a, s.image.a2.value = some a →
              let opens := u.config.param .tempReliefOn
              let cuts := u.config.param .tempCut
              u.gov.reliefOpen = (if s.gov.reliefOpen then !decide (a ≤ opens - 10) else decide (opens ≤ a)) ∧
              (cuts ≤ a → s.gov.opMode ≠ .off →
                (u.gov.causes.get .overheatCut).active = true ∧ (u.gov.causes.get .overheatCut).present = true) ∧
              (a ≤ opens - 10 → a ≤ cuts - 10 → (s.gov.causes.get .overheatCut).active = true →
                (u.gov.causes.get .overheatCut).active = true ∧ (u.gov.causes.get .overheatCut).present = false)
          | .idleRpm | .rollCap => recomputed s.matrix.roll s.matrix.overspeedTimer
          | .rollCeiling => recomputed
              (match s.matrix.roll with
                | .under => if x < s.image.v then .over else .under
                | .over => if (s.image.v : Int) ≤ max 0 (x - 20) then .under else .over)
              (if (s.image.v : Int) ≤ x + 20 then none else s.matrix.overspeedTimer)
          | _ => u = { s with config := u.config })

/-- PARAM_GET carries a known parameter's value (R169), LOCKOUT_GET an entry's nine bytes, its runtime state and the
time left on a delay timer in tenths of a second, rounded up (R37, R155, R156); both change nothing and refuse
UNKNOWN_ITEM for what names nothing. Timers stand on the model's clock (logs 3, 35). A one-byte index in the detail of
UNKNOWN_ITEM, with 0 before it, is log 18. -/
def Obligations.ParamGetAndLockoutGetRead : Prop :=
  ∀ (tag b c : Byte) (s : State), s.listening = true →
    exec (.paramGet tag [b, c]) s = .next (s.answered 0x51 tag (
      match paramOfId (readU16 b c) with
      | none => .refused .unknownItem b c 0
      | some p => .done false false (i16 (s.config.param p)))) ∧
    exec (.lockoutGet tag [b]) s = .next (s.answered 0x11 tag (
      match entryOfNo b.toNat with
      | none => .refused .unknownItem 0 b 0
      | some i => .done false false (entryBytes (s.config.entries.get i) ++
          match s.config.entries.get i with
          | none => [0, 0, 0]
          | some _ => u8 (s.matrix.locks.get i).state.code ++
              match (s.matrix.locks.get i).timer with
              | none => [0, 0]
              | some t => u16 ((t.startedAt + t.length - s.clock + 99) / 100))))

/-! ### The input stage (spec/01) -/

/-- PRESSURE_SAMPLE and TEMPERATURE_SAMPLE: each channel moves by the table of R4 with the scaling of R3, and nothing
but what reads the channels changes with it. A changed A2 value judges the relief valve (R112), and one at or above temp_cut
leaves OVERHEAT_CUT in the set with its condition present, unless the governor is OFF (R103). The model's clock of 10 ms a
sample is log 3. -/
def Obligations.AnalogSamplesMoveTheirChannels : Prop :=
  (∀ (c0 c1 : Code) (s : State), ∃ u : State, exec (.pressureSample c0 c1) s = .next u.kick ∧
    u = { s with
      clock := s.clock + 10, image := { s.image with a0 := u.image.a0, a1 := u.image.a1 }, matrix := u.matrix
      gov := u.gov, supply := u.supply, reports := u.reports } ∧
    ChannelStep (fun c => (c : Int) - 400) c0 s.image.a0 u.image.a0 ∧
    ChannelStep (fun c => ((c - 400) / 2 : Nat) - 100) c1 s.image.a1 u.image.a1) ∧
  ∀ (c2 : Code) (s : State), ∃ u : State, exec (.temperatureSample c2) s = .next u.kick ∧
    u = { s with
      image := { s.image with a2 := u.image.a2 }, matrix := u.matrix, gov := u.gov, supply := u.supply
      reports := u.reports } ∧
    ChannelStep (fun c => ((c - 400) / 20 : Nat)) c2 s.image.a2 u.image.a2 ∧
    if u.image.a2.value = s.image.a2.value then u.gov = s.gov ∧ u.matrix = s.matrix ∧ u.supply = s.supply
    else ∀ x, u.image.a2.value = some x →
      u.gov.reliefOpen = (if s.gov.reliefOpen then !decide (x ≤ (s.config.gov.tempReliefOn : Int) - 10)
        else decide ((s.config.gov.tempReliefOn : Int) ≤ x)) ∧
      ((s.config.gov.tempCut : Int) ≤ x → s.gov.opMode ≠ .off →
        (u.gov.causes.get .overheatCut).active = true ∧ (u.gov.causes.get .overheatCut).present = true)

/-- LEVEL_SAMPLE (R4, R5): a taken sample joins the averaging ring of up to eight, the oldest giving way, and the
channel's value is the mean of the ring; the sample of a recovery is alone in it; a channel in FAULT has an empty ring.
Nothing but that channel and the reports changes. -/
def Obligations.LevelSampleKeepsTheRing : Prop :=
  ∀ (ch : LevelIx) (c : Code) (s : State), ∃ u : State, exec (.levelSample ch c) s = .next u.kick ∧
    u = { s with
      image := { s.image with levels := s.image.levels.set ch (u.image.levels.get ch) }, reports := u.reports } ∧
    let old := s.image.levels.get ch
    let new := u.image.levels.get ch
    let x := ((if c.toNat < 400 then 400 else if 3600 < c.toNat then 3600 else c.toNat) - 400) * 5 / 8
    if c.toNat < 300 ∨ 3700 < c.toNat then
      ChannelStep (fun _ => 0) c old.chan new.chan ∧ (new.chan.status = .fault → new.ring = []) ∧
      (new.chan.status ≠ .fault → new.ring = old.ring)
    else if old.chan.status = .fault ∧ old.chan.inCount < 2 then
      new = { old with chan := { old.chan with inCount := old.chan.inCount + 1 } }
    else
      new.ring = (if old.chan.status = .fault then [x]
        else (if 8 ≤ old.ring.length then old.ring.drop 1 else old.ring) ++ [x]) ∧
      new.chan = { old.chan with
        value := some ((new.ring.sum / new.ring.length : Nat) : Int)
        status := if c.toNat < 400 ∨ 3600 < c.toNat then .clamped else .ok, outCount := 0, inCount := 0 }

/-- ENGINE_SPEED_GATE_END (R8): N is the floor of the count times 600 by ppr, at most 4000, and the count starts
again. In IDLING_DOWN an N at or below the engage limit, idle_rpm plus 150, ends the wait in RELEASING, or in IDLE where
the drive reads released already, and any other N leaves the wait (R60 to R62). -/
def Obligations.EngineGateSetsTheSpeedAndEndsTheWait : Prop :=
  ∀ s : State, s.PhaseLaw → ∃ u : State, exec .engineSpeedGateEnd s = .next u.kick ∧
    u = { s with
      image := { s.image with
        n := u.image.n, gateCount := s.image.gateCount.set .f0 0, gateEnded := s.image.gateEnded.set .f0 true
        complete := u.image.complete }
      matrix := u.matrix, seq := u.seq, recoveredAtStart := u.recoveredAtStart, gov := u.gov, supply := u.supply
      reports := u.reports } ∧
    u.image.n = min 4000 (s.image.gateCount.f0 * 600 / s.config.inputs.ppr) ∧
    u.image.complete = (s.image.complete || u.image.allMeasured) ∧
    (s.seq.state = .idlingDown →
      if u.image.n ≤ s.config.idleRpm + 150 then
        if s.seq.path = .clutch then
          u.seq.oClutch = false ∧ u.seq.state = (if s.lineClear .d4 then .idle else .releasing)
        else u.seq.state = (if s.lineClear .d3 then .idle else .releasing)
      else u.seq = s.seq)

/-- ROAD_SPEED_GATE_END: v is the floor of the count times 72000 by ppk, at most 1500 (R9); the roll-speed state
is judged on it (R26); a gate that makes the truck moving sends every configured tank into TRAVEL with its settle
timer stopped, one that makes it stopped sends every tank of TRAVEL into SETTLING with the settle timer running, and
no gate changes a volume (R134, R135). Timers stand on the model's clock (logs 3, 35). -/
def Obligations.RoadGateSetsTheSpeedAndMovesTheTanks : Prop :=
  ∀ s : State, ∃ u : State, exec .roadSpeedGateEnd s = .next u.kick ∧
    u = { s with
      image := { s.image with
        v := u.image.v, gateCount := s.image.gateCount.set .f1 0, gateEnded := s.image.gateEnded.set .f1 true
        complete := u.image.complete }
      matrix := u.matrix, seq := u.seq, recoveredAtStart := u.recoveredAtStart, gov := u.gov, tanks := u.tanks
      supply := u.supply, reports := u.reports } ∧
    u.image.v = min 1500 (s.image.gateCount.f1 * 72000 / s.config.inputs.ppk) ∧
    u.matrix.roll = (match s.matrix.roll with
      | .under => if s.config.rollCeiling < u.image.v then .over else .under
      | .over => if u.image.v ≤ s.config.rollCeiling - 20 then .under else .over) ∧
    ∀ t, (u.tanks.get t).volume = (s.tanks.get t).volume ∧
      (if 5 ≤ u.image.v ∧ s.image.v < 5 then
        if (s.tanks.get t).state = .unconfigured ∨ (s.tanks.get t).state = .travel then
          u.tanks.get t = s.tanks.get t
        else (u.tanks.get t).state = .travel ∧
          ((s.tanks.get t).state = .settling → (u.tanks.get t).settleTimer = none) ∧
          ((s.tanks.get t).state = .sensed → (u.tanks.get t).v0 = (s.tanks.get t).volume ∧
            (u.tanks.get t).outMark = some s.supply.outflow ∧
            (u.tanks.get t).inMark = some s.image.meters.fill.total) ∧
          ((s.tanks.get t).state ≠ .sensed → (u.tanks.get t).v0 = (s.tanks.get t).v0 ∧
            (u.tanks.get t).basis = (s.tanks.get t).basis)
      else if u.image.v < 5 ∧ 5 ≤ s.image.v ∧ (s.tanks.get t).state = .travel then
        u.tanks.get t = { s.tanks.get t with
          state := .settling, settleTimer := some ⟨s.clock, s.config.settleTime * 1000⟩ }
      else u.tanks.get t = s.tanks.get t)

/-- R51: an F1 gate that makes the truck moving in SHIFTING or AWAIT_RANGE de-energizes O_SHIFT_PUMP at that event and
ends the engagement in IDLING_DOWN with reason MOTION, or in the release that follows at once where the engine is
idle. The road shift of RELEASING on the split path (R48, R62): at the end of an F0 or F1 gate and at a change of D1,
D2 or D3 other than the clearing of D3, it begins with the release window where D3 is set and every condition holds,
and is let go with its timer stopped where one after the first fails; a line sample that changes none of the three
leaves it. The demand, one of the conditions, is 0 outside ENGAGED by R81, the premise DemandLaw. Timers stand on the model's clock (logs 3, 35). -/
def Obligations.MotionEndsAnEngagement : Prop :=
  (∀ s : State, s.PhaseLaw → s.PathLaw → s.seq.state = .shifting ∨ s.seq.state = .awaitRange → s.image.v < 5 →
    5 ≤ s.image.gateCount.f1 * 72000 / s.config.inputs.ppk →
    ∃ u : State, exec .roadSpeedGateEnd s = .next u.kick ∧ u.seq.oShiftPump = false ∧ u.seq.oShiftRoad = false ∧
      if s.image.n ≤ s.config.idleRpm + 150 then
        u.seq.state = (if s.lineClear .d3 then .idle else .releasing) ∧
        u.seq.reason = (if s.lineClear .d3 then none else some .motion)
      else u.seq.state = .idlingDown ∧ u.seq.reason = some .motion ∧
        u.seq.stepTimer = some ⟨.idleDown, ⟨s.clock, s.config.windows.idleDown * 1000⟩⟩) ∧
  ∀ (c : Instr) (s : State), s.PhaseLaw → s.DemandLaw → s.seq.state = .releasing → s.seq.path = .split →
    c = .engineSpeedGateEnd ∨ c = .roadSpeedGateEnd ∨ (∃ raw, c = .lineSample raw) →
    ∃ u : State, exec c s = .next u.kick ∧
      let changed (l : Line) : Prop := (u.image.lines.get l).state ≠ (s.image.lines.get l).state
      let ready : Prop := u.lineClear .d2 = true ∧ u.lineSet .d1 = true ∧ u.image.v < 5 ∧ u.gov.demand = 0 ∧
        u.image.n ≤ s.config.idleRpm + 150
      (¬(changed .d3 ∧ u.lineClear .d3 = true) →
        ((∃ raw, c = .lineSample raw) → changed .d1 ∨ changed .d2 ∨ changed .d3) →
        (s.seq.oShiftRoad = true → ready → u.seq = s.seq) ∧
        (s.seq.oShiftRoad = true → ¬ready → u.seq = { s.seq with oShiftRoad := false, stepTimer := none }) ∧
        (s.seq.oShiftRoad = false → u.lineSet .d3 = true → ready → u.seq = { s.seq with
          oShiftRoad := true, stepTimer := some ⟨.release, ⟨s.clock, s.config.windows.release * 1000⟩⟩ }) ∧
        (s.seq.oShiftRoad = false → ¬(u.lineSet .d3 = true ∧ ready) → u.seq = s.seq)) ∧
      ((∃ raw, c = .lineSample raw) → ¬changed .d1 → ¬changed .d2 → ¬changed .d3 → u.seq = s.seq)

/-- FLOW_GATE_END (R10, R11, R132): the flow is the floor of the count times 6000 by the calibration, 6000 with
FLOW_OVER beyond it; the count joins the meter total, a hundred times the count the accumulator, and for F2 the
tank-outflow accumulator while the valve is open, all modulo 4294967296. PULSE_ARRIVAL adds one to the count of its
input's gate and does nothing else (R7). -/
def Obligations.FlowGateMetersAndPulsesCount : Prop :=
  (∀ (m : Meter) (s : State), ∃ u : State, exec (.flowGateEnd m) s = .next u.kick ∧
    u = { s with
      image := { s.image with
        meters := s.image.meters.set m (u.image.meters.get m), gateCount := s.image.gateCount.set (meterInput m) 0
        gateEnded := s.image.gateEnded.set (meterInput m) true, complete := u.image.complete }
      matrix := u.matrix, seq := u.seq, recoveredAtStart := u.recoveredAtStart, gov := u.gov, supply := u.supply
      reports := u.reports } ∧
    (let count := s.image.gateCount.get (meterInput m)
    let k := if m = .dis then s.config.inputs.kDis else s.config.inputs.kFill
    let old := s.image.meters.get m
    let new := u.image.meters.get m
    new.flow = min 6000 (count * 6000 / k) ∧ (new.flowOver = true ↔ 6000 < count * 6000 / k) ∧
    new.total.toNat = (old.total.toNat + count) % 4294967296 ∧
    new.litres.toNat = (old.litres.toNat + (old.remainder + 100 * count) / k) % 4294967296 ∧
    new.remainder = (old.remainder + 100 * count) % k ∧
    u.supply.outflow.toNat =
      if m = .dis ∧ s.supply.tankToPump = true then (s.supply.outflow.toNat + count) % 4294967296
      else s.supply.outflow.toNat) ∧
    (s.image.complete = true → u.matrix = s.matrix ∧ u.seq = s.seq ∧ u.gov = s.gov ∧ u.reports = s.reports)) ∧
  ∀ (p : PulseInput) (s : State), exec (.pulseArrival p) s =
    .next ({ s with image := { s.image with
      gateCount := s.image.gateCount.set p (s.image.gateCount.get p + 1) } }).kick

/-- LINE_SAMPLE: every line is filtered by R12 to R14 with its own filter_count, and where the image is complete and
no line changed nothing else happens. The event that completes the image, a line sample or a gate end (R16), decides
the start (R65): D3 set gives HELD with path SPLIT and RECOVERED_AT_START, otherwise the sequencer stays. START ends
(R19) for FAULT_HOLD or ROAD, O_THROTTLE_MODE NONE and the cap 0, with the roll-speed state judged on v (R26; log 23),
every permit as its conditions say, and every CLEAR entry that is armed in ROAD judged on its condition. -/
def Obligations.LineSampleFiltersEveryLine : Prop :=
  (∀ (raw : BitVec 12) (s : State), ∃ u : State, exec (.lineSample raw) s = .next u.kick ∧
    u = { s with
      image := { s.image with lines := u.image.lines, complete := u.image.complete }
      matrix := u.matrix, seq := u.seq, recoveredAtStart := u.recoveredAtStart, gov := u.gov, supply := u.supply
      reports := u.reports } ∧
    (∀ l, LineStep (s.config.inputs.filterCount.get l) (raw.getLsbD (lineNo l)) (s.image.lines.get l)
      (u.image.lines.get l)) ∧
    u.image.complete = (s.image.complete || u.image.allMeasured) ∧
    (s.image.complete = true →
      (∀ l, (s.image.lines.get l).state = .unsettled ∨ (u.image.lines.get l).state = (s.image.lines.get l).state) →
      u.matrix = s.matrix ∧ u.seq = s.seq ∧ u.gov = s.gov ∧ u.supply = s.supply ∧ u.reports = s.reports)) ∧
  ∀ (c : Instr) (s t : State), s.PhaseLaw → s.image.complete = false → exec c s = .next t → t.image.complete = true →
    t.recoveredAtStart = t.lineSet .d3 ∧
    t.seq = (if t.lineSet .d3 = true then { s.seq with state := .held, path := .split, reason := none } else s.seq) ∧
    t.matrix.mode = (if t.lineSet .d3 = true then .faultHold else .road) ∧ t.matrix.throttleMode = .none ∧
    t.matrix.cap = 0 ∧
    t.matrix.roll = (match s.matrix.roll with
      | .under => if s.config.rollCeiling < t.image.v then .over else .under
      | .over => if t.image.v ≤ s.config.rollCeiling - 20 then .under else .over) ∧
    (∀ p, t.matrix.permits.get p = t.permitHeld p) ∧
    ∀ i e, s.config.entries.get i = some e → (s.matrix.locks.get i).state = .clear →
      (t.matrix.locks.get i).state = (if t.lineSet .d3 = false ∧ e.armed.getLsbD 0 = true ∧ t.lockCondition e.cond = true then
        (if e.delay = 0 then .tripped else .pending) else .clear)

/-- What a change of a line does to an engagement, by the state it finds (R49, R50, R52, R53, R56, R61, R63): D3
set ends SHIFTING, D2 set ends AWAIT_RANGE, D4 set ends CLUTCHING; feedback lost ends AWAIT_CONFIRM, and takes ENGAGED
to HELD with reason FEEDBACK, the operator mode IDLE and the demand 0; the line that reads released ends RELEASING in
IDLE. Timers stand on the model's clock (logs 3, 35). -/
def Obligations.LinesMoveTheSequencer : Prop :=
  ∀ (raw : BitVec 12) (s : State), s.PhaseLaw → s.PathLaw → ∃ u : State, exec (.lineSample raw) s = .next u.kick ∧
    let rises (l : Line) : Prop := s.lineClear l = true ∧ u.lineSet l = true
    let falls (l : Line) : Prop := s.lineSet l = true ∧ u.lineClear l = true
    let lost : Prop := (s.seq.path = .split ∧ (falls .d2 ∨ falls .d3)) ∨ (s.seq.path = .clutch ∧ falls .d4)
    (s.seq.state = .shifting → rises .d3 →
      u.seq.oShiftPump = false ∧ u.seq.state = (if u.lineSet .d2 then .awaitConfirm else .awaitRange)) ∧
    (s.seq.state = .awaitRange → rises .d2 → ¬ falls .d3 →
      u.seq.state = .awaitConfirm ∧ u.seq.stepTimer = some ⟨.confirm, ⟨s.clock, s.config.windows.confirm * 1000⟩⟩) ∧
    (s.seq.state = .clutching → rises .d4 →
      u.seq.state = .awaitConfirm ∧ u.seq.oClutch = s.seq.oClutch) ∧
    (s.seq.state = .awaitConfirm → lost →
      u.seq.state = .idlingDown ∨ u.seq.state = .releasing ∨ u.seq.state = .idle) ∧
    (s.seq.state = .engaged → lost →
      u.seq.state = .held ∧ u.seq.reason = some .feedback ∧ u.seq.path = s.seq.path ∧ u.seq.oClutch = s.seq.oClutch ∧
      u.matrix.mode = .faultHold ∧ u.gov.opMode = .idle ∧ u.gov.demand = 0 ∧ u.gov.integrator = 0 ∧
      u.gov.ring = []) ∧
    (s.seq.state = .releasing → (s.seq.path = .split ∧ falls .d3) ∨ (s.seq.path = .clutch ∧ falls .d4) →
      u.seq.state = .idle ∧ u.seq.path = .none ∧ u.seq.oShiftRoad = false ∧ u.seq.oClutch = false ∧
      u.seq.stepTimer = none ∧ u.seq.reason = none ∧ u.matrix.mode = .road ∧ u.gov.saved = none) ∧
    (s.seq.state = .idle ∨ s.seq.state = .held ∨ s.seq.state = .idlingDown → s.image.complete = true → u.seq = s.seq)

/-- INPUTS (R15, R155): part SIGNALS is 38 bytes, in which the values and statuses of A0 to A7, line states, latches,
speeds, flows, FLOW_OVER flags and completeness stand at their places; a clear flag other than 0 then clears every change latch, after the record is gathered.
Part METERS is 20 bytes, total, litres and remainder of each meter, and clears nothing; any other part is refused UNKNOWN_ITEM. A one-byte part in the detail of
UNKNOWN_ITEM, with 0 before it, is log 18. -/
def Obligations.InputsReadsTheImage : Prop :=
  ∀ (tag part clear : Byte) (s : State), s.listening = true →
    (part = 0 → ∃ r : List Byte, ∃ u : State, exec (.inputs tag [part, clear]) s =
        .next (u.answered 0x04 tag (.done false false r)) ∧ r.length = 38 ∧
      u = { s with image := { s.image with lines := u.image.lines } } ∧
      (∀ l, u.image.lines.get l =
        if clear = 0 then s.image.lines.get l else { s.image.lines.get l with latch := false }) ∧
      (∀ x, s.image.a0.value = some x → -32768 ≤ x → x < 32768 → readI16 (r.getD 0 0) (r.getD 1 0) = x) ∧
      (s.image.a0.value = none → readI16 (r.getD 0 0) (r.getD 1 0) = -32768) ∧
      (∀ x, s.image.a1.value = some x → -32768 ≤ x → x < 32768 → readI16 (r.getD 2 0) (r.getD 3 0) = x) ∧
      (s.image.a1.value = none → readI16 (r.getD 2 0) (r.getD 3 0) = -32768) ∧
      (∀ x, s.image.a2.value = some x → -32768 ≤ x → x < 32768 → readI16 (r.getD 4 0) (r.getD 5 0) = x) ∧
      (s.image.a2.value = none → readI16 (r.getD 4 0) (r.getD 5 0) = -32768) ∧
      (∀ ch, let field := readI16 (r.getD (2 * levelNo ch) 0) (r.getD (2 * levelNo ch + 1) 0)
        (∀ x, (s.image.levels.get ch).chan.value = some x → -32768 ≤ x → x < 32768 → field = x) ∧
        ((s.image.levels.get ch).chan.value = none → field = -32768) ∧
        r.getD (16 + levelNo ch) 0 = BitVec.ofNat 8 (s.image.levels.get ch).chan.status.code) ∧
      (r.drop 16).take 3 = [BitVec.ofNat 8 s.image.a0.status.code, BitVec.ofNat 8 s.image.a1.status.code,
        BitVec.ofNat 8 s.image.a2.status.code] ∧
      (∀ l, (natOfBytes ((r.drop 24).take 3)) / 4 ^ lineNo l % 4 = (s.image.lines.get l).state.code) ∧
      (∀ l, (natOfBytes ((r.drop 27).take 2)).testBit (lineNo l) = (s.image.lines.get l).latch) ∧
      (s.image.n < 65536 → readU16 (r.getD 29 0) (r.getD 30 0) = s.image.n) ∧
      (s.image.v < 65536 → readU16 (r.getD 31 0) (r.getD 32 0) = s.image.v) ∧
      (s.image.meters.dis.flow < 65536 → readU16 (r.getD 33 0) (r.getD 34 0) = s.image.meters.dis.flow) ∧
      (s.image.meters.fill.flow < 65536 → readU16 (r.getD 35 0) (r.getD 36 0) = s.image.meters.fill.flow) ∧
      (r.getD 37 0).getLsbD 0 = s.image.meters.dis.flowOver ∧ (r.getD 37 0).getLsbD 1 = s.image.meters.fill.flowOver ∧
      (r.getD 37 0).getLsbD 2 = s.image.complete) ∧
    (part = 1 → ∃ r : List Byte, exec (.inputs tag [part, clear]) s =
        .next (s.answered 0x04 tag (.done false false r)) ∧ r.length = 20 ∧
      natOfBytes (r.take 4) = s.image.meters.dis.total.toNat ∧
      natOfBytes ((r.drop 4).take 4) = s.image.meters.dis.litres.toNat ∧
      (s.image.meters.dis.remainder < 65536 → readU16 (r.getD 8 0) (r.getD 9 0) = s.image.meters.dis.remainder) ∧
      natOfBytes ((r.drop 10).take 4) = s.image.meters.fill.total.toNat ∧
      natOfBytes ((r.drop 14).take 4) = s.image.meters.fill.litres.toNat ∧
      (s.image.meters.fill.remainder < 65536 → readU16 (r.getD 18 0) (r.getD 19 0) = s.image.meters.fill.remainder)) ∧
    (1 < part.toNat → exec (.inputs tag [part, clear]) s =
      .next (s.answered 0x04 tag (.refused .unknownItem 0 part 0)))

/-! ### The report queue and the link port (spec/09, spec/10) -/

/-- STATUS (R153, R155): the 18 bytes of the status record show mode, path, states, modes, demand, cap, permits,
source, tank 0, the number of reports, changeover, store, flags and link mode as they stand; a clear flag other than 0
then clears QUEUE_OVERFLOWED and RECOVERED_AT_START, and nothing else changes. -/
def Obligations.StatusReadsThePart : Prop :=
  ∀ (tag clear : Byte) (s : State), s.listening = true → ∃ r : List Byte,
    exec (.status tag [clear]) s = .next ((if clear = 0 then s else
      { s with reports := { s.reports with overflowed := false }, recoveredAtStart := false }).answered 0x01 tag
        (.done false false r)) ∧
    r.length = 18 ∧
    r.take 6 = [BitVec.ofNat 8 s.matrix.mode.code, BitVec.ofNat 8 s.seq.path.code, BitVec.ofNat 8 s.seq.state.code,
      BitVec.ofNat 8 s.gov.opMode.code, BitVec.ofNat 8 s.gov.effMode.code, BitVec.ofNat 8 s.gov.causeSet] ∧
    (∀ c, (r.getD 5 0).getLsbD (causeCode c) = (s.gov.causes.get c).active) ∧
    (s.gov.demand < 65536 → readU16 (r.getD 6 0) (r.getD 7 0) = s.gov.demand) ∧
    (s.matrix.cap < 65536 → readU16 (r.getD 8 0) (r.getD 9 0) = s.matrix.cap) ∧
    (∀ p, (r.getD 10 0).getLsbD (permitCode p) = s.matrix.permits.get p) ∧
    (r.getD 10 0).getLsbD 4 = s.matrix.driveInhibit ∧ r.getD 11 0 = BitVec.ofNat 8 s.supply.source.code ∧
    (∀ v, (s.tanks.get .t0).volume = some v → v < 65536 → readU16 (r.getD 12 0) (r.getD 13 0) = v) ∧
    ((s.tanks.get .t0).volume = none → readU16 (r.getD 12 0) (r.getD 13 0) = 65535) ∧
    r.getD 14 0 = BitVec.ofNat 8 (s.tanks.get .t0).basis.code ∧
    r.getD 15 0 = BitVec.ofNat 8 (s.tanks.get .t0).band.code ∧
    (s.reports.list.length < 256 → (r.getD 16 0).toNat = s.reports.list.length) ∧
    (r.getD 17 0).getLsbD 0 = s.supply.changeover.isSome ∧ ((r.getD 17 0).getLsbD 5 = true ↔ s.link.mode = .twoWire) ∧
    (r.getD 17 0).getLsbD 1 = s.storeBusy ∧ (r.getD 17 0).getLsbD 2 = s.reports.overflowed ∧
    (r.getD 17 0).getLsbD 3 = s.store.degraded ∧ (r.getD 17 0).getLsbD 4 = s.recoveredAtStart

/-- FETCH takes the oldest deliverable reports of the smallest classes, three at most, in that order; they leave the
queue, the others keep their order, and the reply says how many were taken and how many are still deliverable (R161,
R164). -/
def Obligations.FetchTakesTheNextReports : Prop :=
  ∀ (tag : Byte) (s : State), s.listening = true → ∃ taken : List Report, ∃ u : State,
    exec (.fetch tag []) s = .next (u.answered 0x02 tag (.done false false
      (u8 taken.length ++ u8 (u.reports.list.countP fun r => gateOpen s.config.gates r.cls)
        ++ taken.flatMap reportRecord))) ∧
    u = { s with reports := { s.reports with list := u.reports.list } } ∧
    taken = (([0, 1, 2, 3, 4, 5].flatMap fun c =>
      s.reports.list.filter fun r => r.cls == c && gateOpen s.config.gates c).take 3) ∧
    s.reports.list.Perm (taken ++ u.reports.list) ∧ u.reports.list.Sublist s.reports.list

/-- R162: GATE refuses a set bit 6 or 7 as MALFORMED and a busy store as STORE_BUSY; otherwise classes 1 to 5 take the
setting of their bits, class 0 stays open, the reply carries the gates as they now stand, and CLAMPED says that bit 0 was
clear. Nothing else changes. That MALFORMED comes before STORE_BUSY is log 46. -/
def Obligations.GateSetsTheClasses : Prop :=
  ∀ (tag b : Byte) (s : State), s.listening = true →
    if 64 ≤ b.toNat then exec (.gate tag [b]) s = .next (s.answered 0x03 tag (.refused .malformed 1 1 0))
    else if s.storeBusy = true then exec (.gate tag [b]) s = .next (s.answered 0x03 tag (.refused .storeBusy 0 0 0))
    else ∃ u : State, exec (.gate tag [b]) s =
        .next (u.answered 0x03 tag (.done (!b.getLsbD 0) false [u.config.gates.setWidth 8])) ∧
      u = { s with config := { s.config with gates := u.config.gates } } ∧
      ∀ k, k < 6 → u.config.gates.getLsbD k = (if k = 0 then true else b.getLsbD k)

/-- A submission (R160) to a queue in order: a queued report of the same kind and subject takes the new state and
values in its place and counts one more, to 255; otherwise the report joins the end with count 1 while fewer than 24 wait;
otherwise it displaces the newest report of the largest class above its own; otherwise it is dropped. The last two set
QUEUE_OVERFLOWED, and nothing else does. -/
def Obligations.SubmissionCoalescesOrDisplaces : Prop :=
  ∀ (q : ReportQueue) (r : Report), q.Wf →
    (∀ pre x post, q.list = pre ++ x :: post → x.kind = r.kind → x.subject = r.subject →
      q.submit r = { q with list := pre ++
        { x with state := r.state, values := r.values, count := if x.count < 255 then x.count + 1 else 255 } :: post }) ∧
    ((∀ x ∈ q.list, ¬(x.kind = r.kind ∧ x.subject = r.subject)) →
      (q.list.length < 24 → q.submit r = { q with list := q.list ++ [{ r with count := 1 }] }) ∧
      (q.list.length = 24 →
        (∀ pre x post, q.list = pre ++ x :: post → r.cls < x.cls → (∀ y ∈ pre, y.cls ≤ x.cls) →
          (∀ y ∈ post, y.cls < x.cls) →
          q.submit r = { list := pre ++ post ++ [{ r with count := 1 }], overflowed := true }) ∧
        ((∀ x ∈ q.list, x.cls ≤ r.cls) → q.submit r = { q with overflowed := true })))

/-- RESTART (R154): refused STORE_BUSY while the store is busy, WRONG_STATE in any mode but ROAD; otherwise answered
DONE, and the receiver is closed: it takes no byte and no frame. It stays closed in every step until a start-up: that
of POWER_ON, of RESET_LINE, or of the end of the last reply. -/
def Obligations.RestartClosesTheReceiver : Prop :=
  (∀ (tag : Byte) (s : State), s.listening = true →
    if s.storeBusy = true then exec (.restart tag []) s = .next (s.answered 0x53 tag (.refused .storeBusy 0 0 0))
    else if s.matrix.mode ≠ .road then exec (.restart tag []) s = .next (s.answered 0x53 tag s.wrongState)
    else ∃ t : State, exec (.restart tag []) s = .next t ∧
      t = { s with link := { s.link.answered (replyOf 0x53 tag (.done false false [])) with restarting := true } } ∧
      (∀ b, exec (.byteArrival b) t = .next t) ∧
      ∀ kind tag' payload, exec (requestOf kind tag' payload) t = .next t) ∧
  ∀ (c : Instr) (s t : State), s.link.restarting = true → exec c s = .next t →
    t.link.restarting = true ∨ (∃ found, c = .powerOn found ∨ c = .resetLine found) ∨
    (c = .transmitFrameEnd ∧ ∃ f, s.link.tx = some f ∧
      (if f.isReply then s.link.replies.drop 1 else s.link.replies) = [])

/-- TRANSMIT_FRAME_END (R150, R152, R154): the frame leaves the transmitter and, if it was a reply, the reply list. If
that was the last reply after an accepted RESTART, start-up begins, otherwise the transmitter chooses again; an idle
transmitter ends nothing. That this start-up is the one of POWER_ON with an empty list, every word of the store found
as it was last written, is the model's choice: log 10. -/
def Obligations.TransmitFrameEndSendsTheNext : Prop :=
  ∀ s : State, (s.link.tx = none → exec .transmitFrameEnd s = .next s.kick) ∧
    ∀ f, s.link.tx = some f →
      let left := if f.isReply then s.link.replies.drop 1 else s.link.replies
      if s.link.restarting = true ∧ left = [] then exec .transmitFrameEnd s = exec (.powerOn []) s
      else exec .transmitFrameEnd s = .next ({ s with link := { s.link with tx := none, replies := left } }).kick

/-- The choice of the transmitter (R147, R152, R154, R163), which ends every event: a busy one keeps its frame; an idle
one begins the oldest waiting reply; with none, in FOUR_WIRE and with no RESTART accepted, it begins the next deliverable
report, the oldest of the smallest open class, which then leaves the queue; in TWO_WIRE it begins no report. -/
def Obligations.TransmitterChoosesRepliesFirst : Prop :=
  ∀ s : State, s.kick = { s with link := s.kick.link, reports := s.kick.reports } ∧
    s.kick.link.replies = s.link.replies ∧
    (∀ f, s.link.tx = some f → s.kick = s) ∧
    (s.link.tx = none →
      (∀ r rs, s.link.replies = r :: rs →
        s.kick.link.tx = some ⟨true, frameBytes r.kind r.tag r.payload⟩ ∧ s.kick.reports = s.reports) ∧
      (s.link.replies = [] → s.link.mode = .twoWire ∨ s.link.restarting = true → s.kick = s) ∧
      (s.link.replies = [] → s.link.mode = .fourWire → s.link.restarting = false →
        (∀ pre r post, s.reports.list = pre ++ r :: post → gateOpen s.config.gates r.cls = true →
          (∀ x ∈ pre, gateOpen s.config.gates x.cls = true → r.cls < x.cls) →
          (∀ x ∈ post, gateOpen s.config.gates x.cls = true → r.cls ≤ x.cls) →
          s.kick.link.tx = some ⟨false, frameBytes 0x60 0 (reportRecord r)⟩ ∧
          s.kick.reports = { s.reports with list := pre ++ post }) ∧
        ((∀ x ∈ s.reports.list, gateOpen s.config.gates x.cls = false) → s.kick = s)))

/-- A frame that names no request, or has the wrong payload length for its kind, TANK_TABLE's of fewer than two bytes
among them (R158), is answered UNKNOWN_KIND or MALFORMED with the length and changes nothing (R150, R151, R155); the
kind of the reply to an unknown kind of 0x80 and above is taken modulo 256 (log 5). While the receiver is closed, by
four waiting replies, by a RESTART or by the transmitter in TWO_WIRE, every frame is lost and changes nothing at all
(R147, R150, R154). -/
def Obligations.WrongAndLostFramesChangeNothing : Prop :=
  (∀ (kind tag : Byte) (payload : List Byte) (s : State), s.listening = true →
    (kind.toNat ∉ requestKinds → exec (.unknownKindFrame kind tag payload) s =
      .next (s.answered kind tag (.refused .unknownKind kind 0 0))) ∧
    (∀ n, requestLength kind.toNat = some n → payload.length ≠ n → exec (requestOf kind tag payload) s =
      .next (s.answered kind tag (.refused .malformed (BitVec.ofNat 8 payload.length) 0 0))) ∧
    (payload.length < 2 → exec (.tankTable tag payload) s =
      .next (s.answered 0x41 tag (.refused .malformed (BitVec.ofNat 8 payload.length) 0 0)))) ∧
  ∀ (kind tag : Byte) (payload : List Byte) (s : State),
    s.link.restarting = true ∨ 4 ≤ s.link.replies.length ∨ (s.link.mode = .twoWire ∧ s.link.tx ≠ none) →
    exec (requestOf kind tag payload) s = .next s

/-- The receiver (R148): a hunting one passes over a byte that is no start byte and begins a frame at a start byte; in a
frame it keeps a byte after which more are expected; at the byte that makes the length or the check bad it looks at the
frame's bytes again, from the one after its start byte, for the next start byte; a gap drops the partial frame without
another look. FRAME_DISCARDED is the third of these on its own (log 4). -/
def Obligations.ReceiverHuntsAndCollects : Prop :=
  (∀ (s : State) (b : Byte), s.listening = true → s.link.rx = [] → exec (.byteArrival b) s =
    .next ({ s with link := { s.link with rx := if b = 0x7A then [0x7A] else [] } }).kick) ∧
  (∀ (s : State) (b : Byte) (body : List Byte), s.listening = true → s.link.rx = 0x7A :: body →
    readFrame (body ++ [b]) = .partly →
    exec (.byteArrival b) s = .next ({ s with link := { s.link with rx := 0x7A :: (body ++ [b]) } }).kick) ∧
  (∀ (s : State) (b : Byte) (body pre post : List Byte), s.listening = true → s.link.rx = 0x7A :: body →
    readFrame (body ++ [b]) = .bad → body ++ [b] = pre ++ post → (∀ x ∈ pre, x ≠ 0x7A) →
    (post = [] ∨ ∃ more, post = 0x7A :: more ∧ readFrame more = .partly) →
    exec (.byteArrival b) s = .next ({ s with link := { s.link with rx := post } }).kick ∧
    exec (.frameDiscarded b) s = .next ({ s with link := { s.link with rx := post } }).kick) ∧
  ∀ s : State, exec .frameGapTimeout s = .next ({ s with link := { s.link with rx := [] } }).kick

/-! ### The interlock matrix (spec/02) -/

/-- The overspeed timer (R28): in PUMP_AND_ROLL an F1 gate starts it for 5 s where it does not run, roll overspeed is
not raised and v is above roll_ceiling plus 20, and stops it at or below that; a gate at or below roll_ceiling clears
roll overspeed. ROLL_OVERSPEED_EXPIRY with the timer running raises roll overspeed, reports it with v and sounds the
horn (R40, R41); LOCKOUT_DELAY_EXPIRY takes a PENDING entry to TRIPPED with its timer stopped, and withholds each
permit the entry names (R21, R32, R33); with THROTTLE withheld the cap is 0 and with it the demand (R27, R93). Neither
expiry does anything where no such timer runs. Timers stand on the model's clock (logs 3, 35). -/
def Obligations.InterlockTimersExpire : Prop :=
  (∀ s : State, s.PhaseLaw → ∃ u : State, exec .roadSpeedGateEnd s = .next u.kick ∧
    let v := min 1500 (s.image.gateCount.f1 * 72000 / s.config.inputs.ppk)
    (v ≤ s.config.rollCeiling ∨ s.matrix.overspeed = false → u.matrix.overspeed = false) ∧
    (s.matrix.mode = .pumpAndRoll → (s.config.rollCeiling < v → u.matrix.overspeed = s.matrix.overspeed) ∧
      u.matrix.overspeedTimer = match s.matrix.overspeedTimer with
        | some t => if v ≤ s.config.rollCeiling + 20 then none else some t
        | none => if s.matrix.overspeed = false ∧ s.config.rollCeiling + 20 < v then some ⟨s.clock, 5000⟩ else none)) ∧
  (∀ s : State,
    (s.matrix.overspeedTimer = none → exec .rollOverspeedExpiry s = .next s.kick) ∧
    ∀ t, s.matrix.overspeedTimer = some t → exec .rollOverspeedExpiry s =
      .next ({ s with
        matrix := { s.matrix with
          overspeed := true, overspeedTimer := none, muted := false, horn := true, tankHorn := s.tankHornCondition }
        reports := s.reports.submit (protReport .rollOverspeed .raised (u16 s.image.v)) }).kick) ∧
  ∀ (i : EntryIx) (s : State),
    (s.config.entries.get i = none ∨ (s.matrix.locks.get i).state ≠ .pending →
      exec (.lockoutDelayExpiry i) s = .next s.kick) ∧
    ∀ e, s.config.entries.get i = some e → (s.matrix.locks.get i).state = .pending →
      ∃ u : State, exec (.lockoutDelayExpiry i) s = .next u.kick ∧
        u = { s with matrix := u.matrix, gov := u.gov, supply := u.supply, reports := u.reports } ∧
        u.matrix.locks = s.matrix.locks.set i ⟨.tripped, none⟩ ∧ u.matrix.mode = s.matrix.mode ∧
        (∀ p, e.effects.getLsbD (permitCode p) = true → u.matrix.permits.get p = false) ∧
        (e.effects.getLsbD 4 = true → u.matrix.horn = true ∧ u.matrix.muted = false) ∧
        (u.matrix.permits.get .throttle = false → u.matrix.cap = 0 ∧ (s.gov.demand ≤ s.matrix.cap → u.gov.demand = 0))

/-- LOCKOUT_SET (R36, R155, R156): an index above 15, a malformed entry, a busy store, and a mode other than ROAD or a
moving truck are refused in that order and change nothing. Otherwise the entry is replaced, its operands clamped,
CLAMPED where a clamp changed it, and judged at once from CLEAR against the present mode and inputs (R31); no other
entry moves. Timers stand on the model's clock (logs 3, 35). The position of a two-byte field in MALFORMED is log 16,
a one-byte index in UNKNOWN_ITEM log 18. -/
def Obligations.LockoutSetWritesAndJudgesTheEntry : Prop :=
  ∀ (tag index b1 b2 b3 b4 b5 b6 b7 b8 b9 : Byte) (s : State), s.listening = true →
    let outcome := exec (.lockoutSet tag [index, b1, b2, b3, b4, b5, b6, b7, b8, b9]) s
    let written (i : EntryIx) (sent : Option LockoutEntry) : Prop :=
      if s.storeBusy = true then outcome = .next (s.answered 0x10 tag (.refused .storeBusy 0 0 0))
      else if s.matrix.mode ≠ .road ∨ 5 ≤ s.image.v then outcome = .next (s.answered 0x10 tag s.wrongState)
      else ∃ u : State,
        outcome = .next (u.answered 0x10 tag (.done (decide (sent.map clampEntry ≠ sent)) false [])) ∧
        u = { s with
          config := { s.config with entries := s.config.entries.set i (sent.map clampEntry) }, matrix := u.matrix
          gov := u.gov, supply := u.supply, reports := u.reports } ∧
        (∀ j, j ≠ i → u.matrix.locks.get j = s.matrix.locks.get j) ∧
        match sent.map clampEntry with
        | none => u.matrix.locks.get i = ⟨.clear, none⟩
        | some e =>
          if e.armed.getLsbD 0 = true ∧ s.lockCondition e.cond = true then
            if e.delay = 0 then u.matrix.locks.get i = ⟨.tripped, none⟩
            else u.matrix.locks.get i = ⟨.pending, some ⟨s.clock, e.delay * 100⟩⟩
          else u.matrix.locks.get i = ⟨.clear, none⟩
    match entryOfNo index.toNat with
    | none => outcome = .next (s.answered 0x10 tag (.refused .unknownItem 0 index 0))
    | some i => match readEntry b1 b2 b3 b4 b5 b6 b7 b8 b9 with
      | .malformed p => outcome = .next (s.answered 0x10 tag (.refused .malformed 10 (BitVec.ofNat 8 p) 0))
      | .absent => written i none
      | .present e => written i (some e)

/-- LATCH_CLEAR (R38, R39): of one entry, TRIPPED is refused CONDITION_PRESENT, CLEAR and PENDING stay, and LATCHED
goes to CLEAR and is judged from there (R31; log 25); with ALL every LATCHED entry does so and the TRIPPED latching
ones are listed. No other entry moves. SILENCE (R41) mutes a horn that a condition sounds and does nothing else.
Timers stand on the model's clock (logs 3, 35). A one-byte index in the detail of UNKNOWN_ITEM is log 18. -/
def Obligations.LatchClearAndSilence : Prop :=
  (∀ (tag index : Byte) (s : State), s.listening = true →
    let cleared (u : State) (i : EntryIx) (e : LockoutEntry) : Prop :=
      if s.armed e = true ∧ s.lockCondition e.cond = true then
        if e.delay = 0 then u.matrix.locks.get i = ⟨.tripped, none⟩
        else u.matrix.locks.get i = ⟨.pending, some ⟨s.clock, e.delay * 100⟩⟩
      else u.matrix.locks.get i = ⟨.clear, none⟩
    let framed (u : State) : Prop :=
      u = { s with matrix := u.matrix, gov := u.gov, supply := u.supply, reports := u.reports }
    (∀ i e, entryOfNo index.toNat = some i → s.config.entries.get i = some e →
      match (s.matrix.locks.get i).state with
      | .tripped => exec (.latchClear tag [index]) s = .next (s.answered 0x12 tag
          (.refused .conditionPresent (BitVec.ofNat 8 (2 ^ entryNo i / 256)) (BitVec.ofNat 8 (2 ^ entryNo i)) 0))
      | .clear | .pending => exec (.latchClear tag [index]) s = .next (s.answered 0x12 tag (.done false false []))
      | .latched => ∃ u : State,
          exec (.latchClear tag [index]) s = .next (u.answered 0x12 tag (.done false false [])) ∧ framed u ∧
          cleared u i e ∧ ∀ j, j ≠ i → u.matrix.locks.get j = s.matrix.locks.get j) ∧
    (index ≠ 255 → (∀ i e, entryOfNo index.toNat = some i → s.config.entries.get i ≠ some e) →
      exec (.latchClear tag [index]) s = .next (s.answered 0x12 tag (.refused .unknownItem 0 index 0))) ∧
    (index = 255 → ∃ (u : State) (a : Answer), exec (.latchClear tag [index]) s = .next (u.answered 0x12 tag a) ∧
      framed u ∧
      (∀ i, match s.config.entries.get i with
        | none => u.matrix.locks.get i = s.matrix.locks.get i
        | some e => if (s.matrix.locks.get i).state = .latched then cleared u i e
          else u.matrix.locks.get i = s.matrix.locks.get i) ∧
      let stands (i : EntryIx) : Prop := ∃ e, s.config.entries.get i = some e ∧ e.latching = true ∧
        (s.matrix.locks.get i).state = .tripped
      ((∀ i, ¬ stands i) → a = .done false false []) ∧
      ((∃ i, stands i) → ∃ d1 d2, a = .refused .conditionPresent d1 d2 0 ∧
        ∀ i, (natOfBytes [d1, d2]).testBit (entryNo i) = true ↔ stands i))) ∧
  ∀ (tag : Byte) (s : State), s.listening = true → s.HornLaw →
    exec (.silence tag []) s = .next ((if s.hornCondition = true then
      { s with matrix := { s.matrix with muted := true, horn := false } } else s).answered 0x13 tag (.done false false []))

/-! ### The engagement sequencer (spec/03) -/

/-- ENGAGE (R45 to R47): another target is MALFORMED, another state than IDLE WRONG_STATE, and in IDLE the failing
conditions are refused as one set by their bits, the third detail byte giving the lowest index among the entries that
withhold ENGAGE, or the mode where none does (R155). With none failing, STATIONARY begins SHIFTING on the split path
with O_SHIFT_PUMP energized and the shift window running, DRIVE withheld and, the permits standing as R21 and R22 say,
O_DRIVE_INHIBIT asserted; ROLL begins CLUTCHING on the clutch path with O_CLUTCH energized and the clutch window
running; the mode becomes TRANSFER. Timers stand on the model's clock (logs 3, 35); that MALFORMED comes before
WRONG_STATE is log 46. -/
def Obligations.EngageChecksAndBegins : Prop :=
  ∀ (tag target : Byte) (s : State), s.listening = true →
    let outcome := exec (.engage tag [target]) s
    let names (i : EntryIx) : Prop := ∃ e, s.config.entries.get i = some e ∧ e.effects.getLsbD 1 = true ∧
      ((s.matrix.locks.get i).state = .tripped ∨ (s.matrix.locks.get i).state = .latched)
    let locked : Prop := ∃ i, names i
    let feedback : Prop := s.lineSet .d3 = true ∨ s.lineSet .d4 = true
    let unsourced : Prop := target = 1 ∧ ¬(s.supply.source = .tank ∧ s.supply.changeover = none)
    let ready : Prop := s.matrix.mode = .road ∧ s.image.v < 5 ∧ s.lineSet .d0 = true ∧ s.lineSet .d1 = true ∧
      s.image.n ≤ s.config.idleRpm + 150 ∧ ¬locked ∧ ¬feedback ∧ ¬unsourced
    if 2 ≤ target.toNat then outcome = .next (s.answered 0x20 tag (.refused .malformed 1 1 0))
    else if s.seq.state ≠ .idle then outcome = .next (s.answered 0x20 tag s.wrongState)
    else
      (¬ready → ∃ set d3, outcome = .next (s.answered 0x20 tag (.refused .notPermitted 0 set d3)) ∧
        (set.getLsbD 0 = true ↔ s.matrix.mode ≠ .road) ∧ (set.getLsbD 1 = true ↔ 5 ≤ s.image.v) ∧
        (set.getLsbD 2 = true ↔ s.lineSet .d0 = false) ∧ (set.getLsbD 3 = true ↔ s.lineSet .d1 = false) ∧
        (set.getLsbD 4 = true ↔ s.config.idleRpm + 150 < s.image.n) ∧ (set.getLsbD 5 = true ↔ locked) ∧
        (set.getLsbD 6 = true ↔ feedback) ∧ (set.getLsbD 7 = true ↔ unsourced) ∧
        (¬locked → d3 = BitVec.ofNat 8 s.matrix.mode.code) ∧
        ∀ i, names i → (∀ j, entryNo j < entryNo i → ¬names j) → d3 = BitVec.ofNat 8 (entryNo i)) ∧
      (ready → ∃ u : State, outcome = .next (u.answered 0x20 tag (.done false false [])) ∧
        u = { s with
          seq := u.seq, matrix := u.matrix, gov := u.gov, supply := u.supply, reports := u.reports } ∧
        u.matrix.mode = .transfer ∧ u.matrix.permits.engage = false ∧
        if target = 0 then
          u.seq = { s.seq with
            state := .shifting, path := .split, oShiftPump := true
            stepTimer := some ⟨.shift, ⟨s.clock, s.config.windows.shift * 1000⟩⟩ } ∧
          u.matrix.permits.drive = false ∧ (s.PermitLaw → u.matrix.driveInhibit = true)
        else u.seq = { s.seq with
          state := .clutching, path := .clutch, oClutch := true
          stepTimer := some ⟨.clutch, ⟨s.clock, s.config.windows.clutch * 1000⟩⟩ })

/-- CONFIRM (R54, R55) and DISENGAGE (R57, R58, R60 to R62), by the state each finds. CONFIRM in AWAIT_CONFIRM,
and in HELD with its feedback present, enters ENGAGED with the governor in IDLE, unless the clutch path lacks the
source TANK; DISENGAGE ends any engagement in IDLING_DOWN with reason DISENGAGE and the governor OFF, or, with the
engine at idle, in the release that follows at once. Every other state is refused, or left as it is. Timers stand on
the model's clock (logs 3, 35). -/
def Obligations.ConfirmEngagesAndDisengageReleases : Prop :=
  ∀ (tag : Byte) (s : State), s.listening = true → s.PhaseLaw → s.PathLaw →
    (let outcome := exec (.confirm tag []) s
    let missing (l : Line) : Prop := l ∈ feedbackLines s.seq.path ∧ s.lineSet l = false
    (s.seq.state ≠ .awaitConfirm → s.seq.state ≠ .held → outcome = .next (s.answered 0x21 tag s.wrongState)) ∧
    (s.seq.state = .held → (∃ l, missing l) →
      ∃ d1 d2, outcome = .next (s.answered 0x21 tag (.refused .conditionPresent d1 d2 0)) ∧
        ∀ l, (natOfBytes [d1, d2]).testBit (lineNo l) = true ↔ missing l) ∧
    (s.seq.state = .awaitConfirm ∨ (s.seq.state = .held ∧ ∀ l, ¬ missing l) →
      (s.seq.path = .clutch → ¬(s.supply.source = .tank ∧ s.supply.changeover = none) →
        outcome = .next (s.answered 0x21 tag (.refused .notPermitted 0 0x80 (BitVec.ofNat 8 s.matrix.mode.code)))) ∧
      ((s.seq.path = .clutch → s.supply.source = .tank ∧ s.supply.changeover = none) →
        ∃ u : State, outcome = .next (u.answered 0x21 tag (.done false false [])) ∧
          u = { s with
            seq := u.seq, matrix := u.matrix, gov := u.gov, supply := u.supply, reports := u.reports } ∧
          u.seq = { s.seq with
            state := .engaged, stepTimer := none, reason := none, oClutch := s.seq.oClutch || s.seq.path == .clutch } ∧
          u.matrix.mode = (if s.seq.path = .split then .stationaryPump else .pumpAndRoll) ∧
          u.matrix.throttleMode = (if s.seq.path = .split then .sole else .ceiling) ∧
          u.gov.opMode = .idle ∧ u.gov.opTarget = s.gov.opTarget ∧
          (s.gov.noCauses = true → u.gov.effMode = .idle)))) ∧
    (let outcome := exec (.disengage tag []) s
    match s.seq.state with
    | .idle => outcome = .next (s.answered 0x22 tag s.wrongState)
    | .idlingDown | .releasing => outcome = .next (s.answered 0x22 tag (.done false false []))
    | .shifting | .awaitRange | .clutching | .awaitConfirm | .engaged | .held =>
      ∃ u : State, outcome = .next (u.answered 0x22 tag (.done false false [])) ∧
        u = { s with seq := u.seq, matrix := u.matrix, gov := u.gov, supply := u.supply, reports := u.reports } ∧
        u.gov.opMode = .off ∧ u.gov.demand = 0 ∧ u.gov.integrator = 0 ∧ u.seq.oShiftPump = false ∧
        if s.config.idleRpm + 150 < s.image.n then
          u.seq.state = .idlingDown ∧ u.seq.reason = some .disengage ∧ u.seq.oClutch = s.seq.oClutch ∧
          u.seq.stepTimer = some ⟨.idleDown, ⟨s.clock, s.config.windows.idleDown * 1000⟩⟩ ∧
          u.matrix.mode = .transfer
        else if (s.seq.path = .clutch ∧ s.lineClear .d4 = true) ∨ (s.seq.path = .split ∧ s.lineClear .d3 = true) then
          u.seq.state = .idle ∧ u.seq.path = .none ∧ u.matrix.mode = .road
        else u.seq.state = .releasing ∧ u.seq.path = s.seq.path ∧ u.seq.reason = some .disengage ∧
          u.matrix.mode = .transfer)

/-- The windows (R43, R49, R50, R52, R53, R60 to R63). One that is not running in its state does nothing. The shift,
range, clutch and confirm windows end their states in IDLING_DOWN with reason TIMEOUT and the governor OFF, or in the
release that follows at once; the idle-down window and the neutral wait stop, reporting ENGINE_NOT_IDLE with N and
AWAIT_NEUTRAL; the release window ends in HELD with reason TIMEOUT, the shift solenoid and the timer off and the
protection record empty. The bytes of ENGINE_NOT_IDLE, state, path, then N, are log 15. -/
def Obligations.WindowsExpire : Prop :=
  ∀ s : State, s.PhaseLaw → s.PathLaw →
    (∀ c st w, (c, st, w) ∈ [(Instr.shiftWindowExpiry, SeqState.shifting, StepWindow.shift),
        (.rangeWindowExpiry, .awaitRange, .range), (.clutchWindowExpiry, .clutching, .clutch),
        (.confirmWindowExpiry, .awaitConfirm, .confirm)] →
      (s.seq.state ≠ st ∨ s.timing w = false → exec c s = .next s.kick) ∧
      (s.seq.state = st → s.timing w = true → ∃ u : State, exec c s = .next u.kick ∧
        u = { s with seq := u.seq, matrix := u.matrix, gov := u.gov, supply := u.supply, reports := u.reports } ∧
        u.gov.opMode = .off ∧ u.gov.demand = 0 ∧ u.seq.oShiftPump = false ∧
        if s.config.idleRpm + 150 < s.image.n then
          u.seq.state = .idlingDown ∧ u.seq.reason = some .timeout ∧ u.seq.oClutch = s.seq.oClutch
        else if (s.seq.path = .clutch ∧ s.lineClear .d4 = true) ∨ (s.seq.path = .split ∧ s.lineClear .d3 = true) then
          u.seq.state = .idle ∧ u.seq.path = .none
        else u.seq.state = .releasing ∧ u.seq.reason = some .timeout)) ∧
    (exec .idleDownWindowExpiry s = .next (if s.seq.state = .idlingDown ∧ s.timing .idleDown = true then
      { s with
        seq := { s.seq with stepTimer := none }
        reports := s.reports.submit (codedReport .fault 0 6 (u8 7 ++ u8 s.seq.path.code ++ u16 s.image.n)) }
      else s).kick) ∧
    (exec .neutralWaitExpiry s = .next (if s.seq.state = .releasing ∧ s.timing .neutral = true then
      { s with
        seq := { s.seq with stepTimer := none }
        reports := s.reports.submit (codedReport .fault 0 7 (u8 8 ++ u8 s.seq.path.code)) }
      else s).kick) ∧
    (s.seq.state ≠ .releasing ∨ s.timing .release = false → exec .releaseWindowExpiry s = .next s.kick) ∧
    (s.seq.state = .releasing → s.timing .release = true → ∃ u : State, exec .releaseWindowExpiry s = .next u.kick ∧
      u = { s with seq := u.seq, matrix := u.matrix, gov := u.gov, supply := u.supply, reports := u.reports } ∧
      u.seq = { s.seq with state := .held, stepTimer := none, reason := some .timeout, oShiftRoad := false } ∧
      u.matrix.mode = .faultHold ∧ u.gov.saved = none ∧ u.gov.primer = none ∧
      (∀ c, (u.gov.causes.get c).active = false) ∧ u.supply.changeover = none ∧ u.supply.fill = none)

/-! ### The pump governor (spec/04 to spec/06) -/

/-- GOVERN (R73, R74, R76). A mode that is none is MALFORMED; the governor OFF is WRONG_STATE; a mode that R67 does
not allow is NOT_PERMITTED with the apparatus mode and an empty set (log 17). Otherwise the setpoint, read as signed
(log 31), is clamped into its mode's range. With no cause active the same mode moves the target, a new one takes mode
and target with a bumpless start (R72), IDLE drops target and setpoint, and a new pressure mode with A0 in FAULT
raises PRESSURE_SENSOR (R107), which RPM does not; with causes active the saved context takes the request, DEFERRED,
and nothing else moves. -/
def Obligations.GovernSetsOrDefers : Prop :=
  ∀ (tag mode hi lo : Byte) (s : State), s.listening = true →
    let outcome := exec (.govern tag [mode, hi, lo]) s
    let sent := readI16 hi lo
    match governMode mode with
    | none => outcome = .next (s.answered 0x30 tag (.refused .malformed 3 1 0))
    | some m =>
      let x := if m = .idle then sent
        else if m = .rpm then clampInt s.config.idleRpm s.config.gov.rpmSetMax sent
        else clampInt 0 s.config.gov.pSetMax sent
      let allowed : Prop := (s.matrix.mode = .stationaryPump ∧ m ≠ .limit) ∨
        (s.matrix.mode = .pumpAndRoll ∧ (m = .idle ∨ m = .limit)) ∨ (s.matrix.mode = .faultHold ∧ m = .idle)
      (s.gov.opMode = .off → outcome = .next (s.answered 0x30 tag s.wrongState)) ∧
      (s.gov.opMode ≠ .off → ¬allowed → outcome =
        .next (s.answered 0x30 tag (.refused .notPermitted 0 0 (BitVec.ofNat 8 s.matrix.mode.code)))) ∧
      (s.gov.opMode ≠ .off → allowed → s.gov.noCauses = false → ∀ ctx, s.gov.saved = some ctx →
        outcome = .next ({ s with gov := { s.gov with
          saved := some ⟨m, if m = GovMode.idle then ctx.target else x⟩ } }.answered 0x30 tag
          (.done (decide (x ≠ sent)) true []))) ∧
      (s.gov.opMode ≠ .off → allowed → s.gov.noCauses = true →
        ∃ u : State, outcome = .next (u.answered 0x30 tag (.done (decide (x ≠ sent)) false [])) ∧
          u = { s with gov := u.gov, matrix := u.matrix, reports := u.reports } ∧ u.gov.opMode = m ∧
          u.gov.opTarget = (if m = .idle then s.gov.opTarget else x) ∧ u.gov.demand = s.gov.demand ∧
          (m = s.gov.opMode → u = { s with gov := { s.gov with
            opTarget := u.gov.opTarget
            effTarget := if m = .idle then s.gov.effTarget else s.gov.effTarget.map fun _ => x } }) ∧
          (m ≠ s.gov.opMode → m = .idle → u.gov.effMode = .idle ∧ u.gov.effTarget = none ∧
            u.gov.effSetpoint = none ∧ u.gov.integrator = s.gov.integrator) ∧
          (m ≠ s.gov.opMode → m ≠ .idle → s.image.a0.status ≠ .fault ∨ m = .rpm →
            u = { s with gov := { s.gov with
              opMode := m, opTarget := x, effMode := m, effTarget := some x, effSetpoint := u.gov.effSetpoint
              integrator := min (s.gov.demand * 256) 256000, ring := [], suspect := 0 } } ∧
            u.gov.effSetpoint = some (if m = .rpm then clampInt s.config.idleRpm s.config.gov.rpmSetMax s.image.n
              else clampInt 0 s.config.gov.pSetMax (s.image.a0.value.getD 0))) ∧
          (m ≠ s.gov.opMode → m = .pressure ∨ m = .limit → s.image.a0.status = .fault →
            (u.gov.causes.get .pressureSensor).active = true ∧ u.gov.saved = some ⟨m, x⟩))

/-- NUDGE (R75, R76): a direction that is none is MALFORMED; the governor OFF, and a mode without a setpoint, is
WRONG_STATE. Otherwise the target moves by 25 a step, the count clamped to 1 to 10 and the result into its mode's
range, either clamp shown as CLAMPED; with no cause active it is the operator target, which the effective target
follows, otherwise the saved context's, DEFERRED. Nothing else moves. The count is one unsigned byte: log
31; that MALFORMED comes before WRONG_STATE is log 46. -/
def Obligations.NudgeStepsTheTarget : Prop :=
  ∀ (tag dir count : Byte) (s : State), s.listening = true →
    let outcome := exec (.nudge tag [dir, count]) s
    let own : SavedContext := ⟨s.gov.opMode, s.gov.opTarget⟩
    let ctx := if s.gov.noCauses = true then own else s.gov.saved.getD own
    if 2 ≤ dir.toNat then outcome = .next (s.answered 0x31 tag (.refused .malformed 2 1 0))
    else if s.gov.opMode = .off ∨ ctx.mode = .off ∨ ctx.mode = .idle then
      outcome = .next (s.answered 0x31 tag s.wrongState)
    else
      let steps : Nat := if count.toNat < 1 then 1 else if 10 < count.toNat then 10 else count.toNat
      let want : Int := if dir = 0 then ctx.target + 25 * steps else ctx.target - 25 * steps
      let x : Int := if ctx.mode = .rpm then clampInt s.config.idleRpm s.config.gov.rpmSetMax want
        else clampInt 0 s.config.gov.pSetMax want
      outcome = .next ({ s with gov :=
          if s.gov.noCauses = true then
            { s.gov with opTarget := x, effTarget := s.gov.effTarget.map fun _ => x }
          else { s.gov with saved := some ⟨ctx.mode, x⟩ } }.answered 0x31 tag
        (.done (decide (count.toNat < 1 ∨ 10 < count.toNat ∨ x ≠ want)) (!s.gov.noCauses) []))

/-- RESUME (R109): refused WRONG_STATE while the governor is OFF, the sequencer HELD or no cause active, and
CONDITION_PRESENT with the set of causes whose condition stands. Otherwise every cause leaves the set, the saved
context becomes operator mode and target, and the effective mode follows by a bumpless start or, for IDLE, with no
target. A sensor still in FAULT under a pressure mode raises PRESSURE_SENSOR afresh. OVERPRESSURE at an update (R104):
the over-limit run counts to 5 above p_limit in a mode with a setpoint while none of the four suspending causes is
active, and raises it; as the first cause it saves the context, is reported, sounds the horn and, while ENGAGED,
governs by RELIEF (R97, R98). Its return (R105): the run counts to 100 at or below p_limit less 300; it then leaves
the set while ENGAGED, as the last cause giving control back as RESUME does (log 20), and outside ENGAGED only its
condition goes. The order of an update's tests is log 22, the sizes of the report's values log 15. -/
def Obligations.ResumeReturnsControl : Prop :=
  (∀ (tag : Byte) (s : State), s.listening = true →
    let outcome := exec (.resume tag []) s
    let stands (c : Cause) : Prop := (s.gov.causes.get c).active = true ∧ (s.gov.causes.get c).present = true
    if s.gov.opMode = .off ∨ s.seq.state = .held ∨ s.gov.noCauses = true then
      outcome = .next (s.answered 0x32 tag s.wrongState)
    else
      ((∃ c, stands c) → ∃ set, outcome = .next (s.answered 0x32 tag (.refused .conditionPresent 0 set 0)) ∧
        ∀ c, set.getLsbD (causeCode c) = true ↔ stands c) ∧
      ((∀ c, ¬ stands c) → ∀ ctx, s.gov.saved = some ctx →
        ∃ u : State, outcome = .next (u.answered 0x32 tag (.done false false [])) ∧
          u = { s with gov := u.gov, matrix := u.matrix, reports := u.reports } ∧
          u.gov.opMode = ctx.mode ∧ u.gov.opTarget = ctx.target ∧ u.gov.demand = s.gov.demand ∧
          (s.image.a0.status ≠ .fault → (∀ c, (u.gov.causes.get c).active = false) ∧ u.gov.saved = none ∧
            u.gov.ring = [] ∧ u.gov.suspect = 0 ∧ u.gov.effMode = ctx.mode ∧
            if ctx.mode.working = true then
              u.gov.effTarget = some ctx.target ∧ u.gov.integrator = min (s.gov.demand * 256) 256000
            else u.gov.effTarget = none ∧ u.gov.effSetpoint = none) ∧
          (s.image.a0.status = .fault → ctx.mode = .pressure ∨ ctx.mode = .limit →
            (∀ c, (u.gov.causes.get c).active = true ↔ c = .pressureSensor) ∧ u.gov.saved = some ctx))) ∧
  ∀ (s : State) (p : Int), s.gov.opMode ≠ .off → s.image.a0.status ≠ .fault → s.image.a0.value = some p →
    ∃ u : State, exec .governorUpdate s = .next u.kick ∧
      let before := s.gov.causes.get .overpressure
      let after := u.gov.causes.get .overpressure
      let limit : Int := s.config.gov.pLimit
      let alone : Prop := ∀ c, c ≠ .overpressure → (s.gov.causes.get c).active = false
      (800 ≤ limit → limit < p → s.gov.effMode = .pressure ∨ s.gov.effMode = .limit ∨ s.gov.effMode = .rpm →
        (∀ c ∈ [Cause.overheatCut, .primeLost, .tankEmpty, .pressureSensor], (s.gov.causes.get c).active = false) →
        u.gov.overRun = min (s.gov.overRun + 1) 5 ∧
        (s.gov.overRun < 4 → after.active = before.active) ∧
        (4 ≤ s.gov.overRun → after.active = true ∧ after.present = true ∧
          (before.active = false →
            after.target = some (clampInt 0 s.config.gov.pSetMax (limit - 200)) ∧
            u.matrix.horn = true ∧ u.matrix.muted = false ∧
            (s.gov.noCauses = true → s.gov.suspect < 9 →
              u.gov.saved = some ⟨s.gov.opMode, s.gov.opTarget⟩ ∧
              u.reports = s.reports.submit (protReport .overpressure .raised (i16 p ++ u8 8)) ∧
              (s.seq.state = .engaged → u.gov.effMode = .pressure ∧ u.gov.effTarget = after.target ∧
                u.gov.integrator = min (u.gov.demand * 256) 256000))))) ∧
      (before.active = true → p ≤ limit - 300 →
        (s.gov.returnRun < 99 → after.active = true ∧ u.gov.returnRun = s.gov.returnRun + 1) ∧
        (99 ≤ s.gov.returnRun →
          (s.seq.state ≠ .engaged → after.active = true ∧ after.present = false ∧ u.gov.returnRun = 100) ∧
          (s.seq.state = .engaged → ¬alone →
            after.active = false ∧ u.gov.returnRun = 0 ∧ u.gov.opMode = s.gov.opMode ∧
            u.gov.opTarget = s.gov.opTarget ∧ u.gov.saved = s.gov.saved ∧
            ∀ c, c ≠ .overpressure → (s.gov.causes.get c).active = true → (u.gov.causes.get c).active = true) ∧
          (s.seq.state = .engaged → alone → s.gov.suspect < 9 → s.gov.primeLossRun < 249 →
            ∀ ctx, s.gov.saved = some ctx →
              (∀ c, (u.gov.causes.get c).active = false) ∧ u.gov.saved = none ∧ u.gov.opMode = ctx.mode ∧
              u.gov.opTarget = ctx.target ∧ u.gov.effMode = ctx.mode ∧
              if ctx.mode.working = true then
                u.gov.effTarget = some ctx.target ∧ u.gov.integrator = min (u.gov.demand * 256) 256000
              else u.gov.effTarget = none ∧ u.gov.effSetpoint = none)))

/-- PRIME, its success and its failure (R113, R114): another operand is MALFORMED; START is refused with the set of
failing conditions MODE, SOURCE and DEMAND, and otherwise starts an idle primer with its timer, count 0; STOP stops
it, its elapsed time staying as it stood (log 19); the 50th qualifying pressure sample in a row stops it and clears
PRIME_LOST's condition; prime_time stops it with a PRIME_FAILED report of the elapsed time (log 39). PRIME_LOST at an
update (R102): below 150 kPa at a demand of 300 and above, off the intake and with A0 sound, the run counts to 250 and
raises it, as the highest action taking the effective mode to IDLE while ENGAGED (R97, R98); 50 primed updates in a
row clear its condition. The order of an update's tests is log 22; timers stand on the model's clock (logs 3, 35). -/
def Obligations.PrimerStartsAndStops : Prop :=
  (∀ (tag operand : Byte) (s : State), s.listening = true →
    let outcome := exec (.prime tag [operand]) s
    if 2 ≤ operand.toNat then outcome = .next (s.answered 0x33 tag (.refused .malformed 1 1 0))
    else if operand = 1 then outcome = .next ({ s with gov :=
        match s.gov.primer with
        | none => s.gov
        | some r => { s.gov with primer := none, primerElapsed := s.clock - r.timer.startedAt } }.answered 0x33 tag
          (.done false false []))
    else if s.matrix.mode = .stationaryPump ∧ s.supply.source ≠ .intake ∧ s.gov.demand ≤ 200 then
      outcome = .next ({ s with gov :=
        if s.gov.primer = none then
          { s.gov with primer := some ⟨0, ⟨s.clock, s.config.gov.primeTime * 1000⟩⟩, primerElapsed := 0 }
        else s.gov }.answered 0x33 tag (.done false false []))
    else ∃ d1 d2, outcome = .next (s.answered 0x33 tag
        (.refused .notPermitted d1 d2 (BitVec.ofNat 8 s.matrix.mode.code))) ∧
      ((natOfBytes [d1, d2]).testBit 0 = true ↔ s.matrix.mode ≠ .stationaryPump) ∧
      ((natOfBytes [d1, d2]).testBit 7 = true ↔ s.supply.source = .intake) ∧
      ((natOfBytes [d1, d2]).testBit 11 = true ↔ 200 < s.gov.demand)) ∧
  (∀ (c0 c1 : Code) (s : State) (r : PrimerRun), s.gov.primer = some r → s.image.a0.status ≠ .fault →
    550 ≤ c0.toNat → c0.toNat ≤ 3600 → 49 ≤ r.count →
    ∃ u : State, exec (.pressureSample c0 c1) s = .next u.kick ∧ u.gov.primer = none ∧
      ((s.gov.causes.get .primeLost).active = true → (u.gov.causes.get .primeLost).active = true ∧
        (u.gov.causes.get .primeLost).present = false)) ∧
  (∀ s : State, (s.gov.primer = none → exec .primeTimeExpiry s = .next s.kick) ∧
    ∀ r, s.gov.primer = some r → exec .primeTimeExpiry s = .next ({ s with
      gov := { s.gov with primer := none, primerElapsed := r.timer.length }
      reports := s.reports.submit (protReport .primeLost .primeFailed (u16 (r.timer.length / 100))) }).kick) ∧
  ∀ s : State, s.gov.opMode ≠ .off → ∃ u : State, exec .governorUpdate s = .next u.kick ∧
    let before := s.gov.causes.get .primeLost
    let after := u.gov.causes.get .primeLost
    let unprimed : Prop := (∃ p, s.image.a0.value = some p ∧ p < 150) ∧ 300 ≤ u.gov.demand ∧
      s.supply.source ≠ .intake ∧ s.image.a0.status ≠ .fault
    (¬unprimed ∨ s.gov.primeLossRun < 249 → after.active = before.active) ∧
    (unprimed → 249 ≤ s.gov.primeLossRun → after.active = true ∧ after.present = true ∧ u.gov.primeLossRun = 250 ∧
      (before.active = false → u.matrix.horn = true ∧ u.matrix.muted = false ∧
        (s.gov.noCauses = true → u.gov.saved = some ⟨s.gov.opMode, s.gov.opTarget⟩) ∧
        (s.seq.state = .engaged →
          (∀ c, (s.gov.causes.get c).active = true → c = .cavitation ∨ c = .pressureSensor ∨ c = .overpressure) →
          u.gov.effMode = .idle ∧ u.gov.effTarget = none ∧ u.gov.effSetpoint = none))) ∧
    ((∃ p, s.image.a0.value = some p ∧ 150 ≤ p) → s.image.a0.status ≠ .fault → before.active = true →
      after.present = (before.present && decide (s.gov.primeReturnRun < 49)))

/-- GOV_READ (R77) shows the governor record in 28 bytes, and TANK_READ (R129, R130) a tank's state in 26 bytes, its
settings in 18, and its table in the packing of R157; an index or part that names nothing is refused UNKNOWN_ITEM.
Neither changes anything. The primer's elapsed time is cut to tenths of a second and stays after a run (log 19), the
metered figures are worked as R133 says, and one that fits four bytes stands in them (log 43). A one-byte index or
part in UNKNOWN_ITEM, and the index before the part, is log 18; the marks' bits are log 42; timers stand on the
model's clock (logs 3, 35). -/
def Obligations.GovReadAndTankReadShowTheRecords : Prop :=
  (∀ (tag : Byte) (s : State), s.listening = true → ∃ r : List Byte,
    exec (.govRead tag []) s = .next (s.answered 0x34 tag (.done false false r)) ∧ r.length = 28 ∧
    r.getD 0 0 = BitVec.ofNat 8 s.gov.opMode.code ∧ r.getD 3 0 = BitVec.ofNat 8 s.gov.effMode.code ∧
    (-32768 ≤ s.gov.opTarget → s.gov.opTarget < 32768 → readI16 (r.getD 1 0) (r.getD 2 0) = s.gov.opTarget) ∧
    (∀ x, s.gov.effTarget = some x → -32768 ≤ x → x < 32768 → readI16 (r.getD 4 0) (r.getD 5 0) = x) ∧
    (s.gov.effTarget = none → readI16 (r.getD 4 0) (r.getD 5 0) = -32768) ∧
    (s.gov.effSetpoint = none → readI16 (r.getD 6 0) (r.getD 7 0) = -32768) ∧
    (∀ x, s.gov.effSetpoint = some x → -32768 ≤ x → x < 32768 → readI16 (r.getD 6 0) (r.getD 7 0) = x) ∧
    (s.gov.integrator < 4294967296 → natOfBytes ((r.drop 8).take 4) = s.gov.integrator) ∧
    (s.gov.demand < 65536 → readU16 (r.getD 12 0) (r.getD 13 0) = s.gov.demand) ∧
    (s.matrix.cap < 65536 → readU16 (r.getD 14 0) (r.getD 15 0) = s.matrix.cap) ∧
    (r.getD 16 0).getLsbD 0 = s.gov.flags.satHigh ∧ (r.getD 16 0).getLsbD 1 = s.gov.flags.satLow ∧
    (r.getD 16 0).getLsbD 2 = s.gov.flags.rate ∧ (r.getD 16 0).getLsbD 3 = s.gov.flags.capCut ∧
    (r.getD 16 0).getLsbD 4 = s.gov.flags.frozen ∧
    (∀ c, (r.getD 17 0).getLsbD (causeCode c) = (s.gov.causes.get c).active) ∧
    (∀ c, (r.getD 18 0).getLsbD (causeCode c) = (s.gov.causes.get c).present) ∧
    (∀ ctx, s.gov.saved = some ctx → r.getD 19 0 = BitVec.ofNat 8 ctx.mode.code ∧
      (-32768 ≤ ctx.target → ctx.target < 32768 → readI16 (r.getD 20 0) (r.getD 21 0) = ctx.target)) ∧
    (s.gov.saved = none → r.getD 19 0 = 255) ∧ (s.gov.suspect < 256 → (r.getD 22 0).toNat = s.gov.suspect) ∧
    (s.gov.ring.length < 256 → (r.getD 23 0).toNat = s.gov.ring.length) ∧
    (let ms := match s.gov.primer with
      | some run => s.clock - run.timer.startedAt
      | none => s.gov.primerElapsed
    ms < 6553600 → readU16 (r.getD 25 0) (r.getD 26 0) = ms / 100) ∧
    (r.getD 24 0 = 1 ↔ s.gov.primer ≠ none) ∧ (r.getD 27 0 = 1 ↔ s.gov.reliefOpen = true)) ∧
  ∀ (tag index part : Byte) (s : State), s.listening = true →
    let outcome := exec (.tankRead tag [index, part]) s
    match tankOfNo index.toNat with
    | none => outcome = .next (s.answered 0x40 tag (.refused .unknownItem 0 index 0))
    | some t =>
      let c := s.config.tanks.get t
      let run := s.tanks.get t
      let litres (now : BitVec 32) (mark : Option (BitVec 32)) (k : Nat) : Nat := match mark with
        | some m => 100 * ((now.toNat + 4294967296 - m.toNat) % 4294967296) / k
        | none => 0
      let metered : Prop := run.basis = .metered ∧ (run.state = .travel ∨ run.state = .settling ∨ run.state = .blind)
      let outflow := if c.outMeter then litres s.supply.outflow run.outMark s.config.inputs.kDis else 0
      let inflow := if c.inMeter then litres s.image.meters.fill.total run.inMark s.config.inputs.kFill else 0
      (part = 0 → ∃ r : List Byte, outcome = .next (s.answered 0x40 tag (.done false false r)) ∧ r.length = 26 ∧
        r.getD 0 0 = index ∧ r.getD 1 0 = BitVec.ofNat 8 c.role.code ∧ r.getD 2 0 = BitVec.ofNat 8 run.state.code ∧
        r.getD 3 0 = BitVec.ofNat 8 run.basis.code ∧
        (∀ v, run.volume = some v → v < 65536 → readU16 (r.getD 4 0) (r.getD 5 0) = v) ∧
        (run.volume = none → readU16 (r.getD 4 0) (r.getD 5 0) = 65535) ∧
        (∀ h, run.h = some h → h < 32768 → readI16 (r.getD 6 0) (r.getD 7 0) = h) ∧
        (run.h = none → readI16 (r.getD 6 0) (r.getD 7 0) = -32768) ∧
        (∀ x, (s.image.levels.get c.fore).chan.value = some x → -32768 ≤ x → x < 32768 →
          readI16 (r.getD 8 0) (r.getD 9 0) = x) ∧
        ((s.image.levels.get c.fore).chan.value = none → readI16 (r.getD 8 0) (r.getD 9 0) = -32768) ∧
        (∀ aft x, c.aft = some aft → (s.image.levels.get aft).chan.value = some x → -32768 ≤ x → x < 32768 →
          readI16 (r.getD 10 0) (r.getD 11 0) = x) ∧
        ((∀ aft, c.aft = some aft → (s.image.levels.get aft).chan.value = none) →
          readI16 (r.getD 10 0) (r.getD 11 0) = -32768) ∧
        (∀ x, run.tilt = some x → -32768 ≤ x → x < 32768 → readI16 (r.getD 12 0) (r.getD 13 0) = x) ∧
        (run.tilt = none → readI16 (r.getD 12 0) (r.getD 13 0) = -32768) ∧
        (metered → outflow < 4294967296 → natOfBytes ((r.drop 16).take 4) = outflow) ∧
        (metered → inflow < 4294967296 → natOfBytes ((r.drop 20).take 4) = inflow) ∧
        (¬metered → (r.drop 16).take 8 = List.replicate 8 255) ∧
        (∀ f, s.supply.fill = some f → t = .t0 → f.target < 65536 → readU16 (r.getD 24 0) (r.getD 25 0) = f.target) ∧
        (s.supply.fill = none ∨ t ≠ .t0 → readU16 (r.getD 24 0) (r.getD 25 0) = 65535) ∧
        r.getD 14 0 = BitVec.ofNat 8 run.band.code ∧ (r.getD 15 0).getLsbD 0 = run.single ∧
        (r.getD 15 0).getLsbD 1 = run.tilted) ∧
      (part = 1 → outcome = .next (s.answered 0x40 tag (.done false false (
        [index, BitVec.ofNat 8 c.role.code] ++ u16 c.capacity ++ [BitVec.ofNat 8 (levelNo c.fore)]
          ++ [match c.aft with | some a => BitVec.ofNat 8 (levelNo a) | none => 255]
          ++ [if c.outMeter then 2 else 255, if c.inMeter then 3 else 255]
          ++ u16 c.emptyL ++ u16 c.reserveL ++ u16 c.fullL
          ++ [BitVec.ofNat 8 c.tolerance, BitVec.ofNat 8 c.table.length] ++ u16 (max 10 (c.capacity * 2 / 100)))))) ∧
      (part = 2 → outcome = .next (s.answered 0x40 tag (.done false false (
        [index, BitVec.ofNat 8 c.table.length] ++ packTable c.table)))) ∧
      (3 ≤ part.toNat → outcome = .next (s.answered 0x40 tag (.refused .unknownItem 0 part 0)))

/-- GOVERNOR_UPDATE (R70, R71, R86 to R94, R100, R101). None is made while the governor is OFF. In a mode with a
setpoint the setpoint ramps, the error gives the proportional and the integral term, and the raw demand is limited in
rate and by the cap; in IDLE raw demand and integrator are 0. The new demand and flags stand whatever the protection
tests that follow decide. The integrator and the ramped setpoint do too where they leave the set of causes as it was,
and mode and target then stay; where they raise or return a cause, by the rules R97 and R98, the integrator may be
preset from the new demand, and the order of the tests within the update is log 22. The tenth suspect update of a full
ring with sound sensors raises CAVITATION; a full ring with an absent P_in gives no suspect and makes the count 0. -/
def Obligations.GovernorUpdateDrivesTheDemand : Prop :=
  ∀ s : State, (s.gov.opMode = .off → exec .governorUpdate s = .next s.kick) ∧
    (s.gov.opMode ≠ .off → ∃ u : State, exec .governorUpdate s = .next u.kick ∧
      u = { s with gov := u.gov, matrix := u.matrix, reports := u.reports } ∧
      u.matrix = { s.matrix with horn := u.matrix.horn, muted := u.matrix.muted, tankHorn := u.matrix.tankHorn } ∧
      u.gov.capCut = false ∧
      let limited (raw : Int) (integrator : Nat) (frozen : Bool) : Prop :=
        let r := clampInt (s.gov.demand - s.config.gov.rateStep) (s.gov.demand + s.config.gov.rateStep) raw
        (u.gov.demand : Int) = clampInt 0 s.matrix.cap r ∧
        u.gov.flags = { satHigh := decide ((s.matrix.cap : Int) < raw), satLow := decide (raw < 0)
                        rate := decide (r ≠ raw), capCut := decide ((s.matrix.cap : Int) < r) || s.gov.capCut, frozen } ∧
        (u.gov.integrator = integrator ∨ u.gov.integrator = min (u.gov.demand * 256) 256000) ∧
        ((∀ c, (u.gov.causes.get c).active = (s.gov.causes.get c).active) → u.gov.integrator = integrator)
      (s.gov.effMode = .idle → limited 0 0 false) ∧
      (∀ sp target, s.gov.effSetpoint = some sp → s.gov.effTarget = some target →
        s.gov.effMode = .pressure ∨ s.gov.effMode = .limit ∨ s.gov.effMode = .rpm →
        let step : Int := if s.gov.effMode = .rpm then 25 else 20
        let sp' : Int := if target - sp ≤ step ∧ sp - target ≤ step then target
          else if sp < target then sp + step else sp - step
        let e : Int := if s.gov.effMode = .rpm then sp' - s.image.n else sp' - s.image.a0.value.getD 0
        let kp : Int := if s.gov.effMode = .rpm then s.config.gov.kpN else s.config.gov.kpP
        let ki : Int := if s.gov.effMode = .rpm then s.config.gov.kiN else s.config.gov.kiP
        let frozen : Bool := decide (((s.gov.flags.satHigh = true ∨ s.gov.capCut = true) ∧ 0 < e) ∨
          (s.gov.flags.satLow = true ∧ e < 0))
        let integrator : Nat :=
          if frozen then s.gov.integrator else (clampInt 0 256000 (s.gov.integrator + ki * e)).toNat
        limited ((integrator / 256 : Nat) + Int.tdiv (kp * e) 64) integrator frozen ∧
        ((∀ c, (u.gov.causes.get c).active = (s.gov.causes.get c).active) →
          u.gov.effSetpoint = some sp' ∧ u.gov.effTarget = some target ∧ u.gov.effMode = s.gov.effMode)) ∧
      (∀ old rest, s.gov.ring = old :: rest ∨ (∃ x, s.gov.ring = x :: old :: rest) → rest.length = 6 →
        s.gov.suspect = 9 → s.image.a0.status ≠ .fault → s.image.a1.status ≠ .fault →
        (∃ p, s.image.a1.value = some p ∧ p ≤ s.config.gov.cavThreshold) → old.n + 100 ≤ s.image.n →
        (∃ p q, s.image.a0.value = some p ∧ old.pDis = some q ∧ p ≤ q) → (∀ q ∈ old :: rest, q.pIn ≠ none) →
        (u.gov.causes.get .cavitation).active = true ∧ (u.gov.causes.get .cavitation).present = true) ∧
      (∀ old rest, s.gov.ring = old :: rest ∨ (∃ x, s.gov.ring = x :: old :: rest) → rest.length = 6 →
        s.image.a0.status ≠ .fault → s.image.a1.status ≠ .fault →
        s.image.a1.value = none ∨ (∃ q ∈ old :: rest, q.pIn = none) → u.gov.suspect = 0))

/-! ### The tank and supply unit (spec/07, spec/08) -/

/-- A table of rising levels gives a level at or below its first breakpoint that volume, one at or above its last
that, and one between two neighbours the volume between them, truncated (R121). TANK_UPDATE and SETTLE_TIMER_EXPIRY
(R119, R120, R122 to R124, R133, R136 to R138): an update works level, tilt, marks and sensed volume afresh, then V by
the tank's state, metered litres from 100 times the pulses since the mark modulo 4294967296 by the calibration, then
the band by its table; none is made for an UNCONFIGURED tank. The settle timer's expiry adopts the sensed volume of
the last update, or leaves the tank BLIND; one that does not run does nothing. A change of tank 0's band judges
TANK_EMPTY (R106). No other tank changes. -/
def Obligations.TankUpdateAndSettlingDecideTheVolume : Prop :=
  (∀ (table : List Breakpoint) (h : Nat), table.Pairwise (fun a b => a.level < b.level) →
    (∀ b rest, table = b :: rest → h ≤ b.level → volumeAt table h = b.volume) ∧
    (∀ pre b, table = pre ++ [b] → b.level ≤ h → volumeAt table h = b.volume) ∧
    (∀ pre b c post, table = pre ++ b :: c :: post → b.level ≤ h → h < c.level →
      volumeAt table h = b.volume + (c.volume - b.volume) * (h - b.level) / (c.level - b.level))) ∧
  ∀ (t : TankIx) (s : State),
    let c := s.config.tanks.get t
    let r := s.tanks.get t
    let level (ch : LevelIx) : Option Nat :=
      if (s.image.levels.get ch).chan.status = .fault then none else (s.image.levels.get ch).chan.value.map Int.toNat
    let hyst := max 10 (c.capacity * 2 / 100)
    let bandAfter (volume : Option Nat) : Band := match volume with
      | none => r.band
      | some v => if c.role = .unused then r.band else match r.band with
        | .normal =>
          if v ≤ c.emptyL then .empty else if v ≤ c.reserveL then .reserve else if c.fullL ≤ v then .full else .normal
        | .reserve =>
          if v ≤ c.emptyL then .empty else if c.fullL ≤ v then .full else if c.reserveL + hyst ≤ v then .normal
          else .reserve
        | .empty =>
          if c.emptyL + hyst ≤ v ∧ c.fullL ≤ v then .full else if c.emptyL + hyst ≤ v ∧ v ≤ c.reserveL then .reserve
          else if c.emptyL + hyst ≤ v then .normal else .empty
        | .full =>
          if v ≤ c.emptyL then .empty else if v ≤ c.reserveL then .reserve else if v + hyst ≤ c.fullL then .normal
          else .full
    let litres (now : BitVec 32) (mark : Option (BitVec 32)) (k : Nat) : Nat := match mark with
      | some m => 100 * ((now.toNat + 4294967296 - m.toNat) % 4294967296) / k
      | none => 0
    let estimate : Option Nat := match r.basis, r.v0 with
      | .metered, some v0 => some (clampInt 0 c.capacity ((v0 : Int)
          - (if c.outMeter then litres s.supply.outflow r.outMark s.config.inputs.kDis else 0)
          + (if c.inMeter then litres s.image.meters.fill.total r.inMark s.config.inputs.kFill else 0))).toNat
      | .held, v0 => v0
      | .sensed, _ => r.volume
      | .metered, none | .none, _ => none
    let handed (u : State) : Prop := t = .t0 → (u.tanks.get t).band ≠ r.band →
      let before := s.gov.causes.get .tankEmpty
      let after := u.gov.causes.get .tankEmpty
      if s.supply.source = .tank ∧ (u.tanks.get t).band = .empty then
        s.gov.opMode ≠ .off → after.active = true ∧ after.present = true
      else after.active = before.active ∧ (before.active = true → after.present = false)
    (r.state = .unconfigured → exec (.tankUpdate t) s = .next s.kick) ∧
    (r.state ≠ .unconfigured → ∃ u : State, exec (.tankUpdate t) s = .next u.kick ∧
      u = { s with
        tanks := s.tanks.set t (u.tanks.get t), matrix := u.matrix, gov := u.gov, supply := u.supply
        reports := u.reports } ∧
      let r' := u.tanks.get t
      (match c.aft with
        | none => r'.h = level c.fore ∧ r'.tilt = none ∧ r'.single = false
        | some aft => match level c.fore, level aft with
          | some f, some a => r'.h = some ((f + a) / 2) ∧ r'.tilt = some ((f : Int) - a) ∧ r'.single = false
          | some f, none => r'.h = some f ∧ r'.tilt = none ∧ r'.single = true
          | none, some a => r'.h = some a ∧ r'.tilt = none ∧ r'.single = true
          | none, none => r'.h = none ∧ r'.tilt = none ∧ r'.single = false) ∧
      (r'.tilted = true ↔ ∃ x, r'.tilt = some x ∧ (300 < x ∨ x < -300)) ∧
      r'.sensed = r'.h.map (volumeAt c.table) ∧ r'.band = bandAfter r'.volume ∧ handed u ∧
      match r.state, r'.h with
      | .sensed, some _ => r'.state = .sensed ∧ r'.volume = r'.sensed
      | .sensed, none => r'.state = .blind ∧ r'.volume = r.volume ∧ r'.v0 = r.volume ∧
          r'.outMark = some s.supply.outflow ∧ r'.inMark = some s.image.meters.fill.total ∧
          r'.basis = (if r.volume = none then .none else if c.outMeter || c.inMeter then .metered else .held)
      | .blind, some _ => r'.state = .sensed ∧ r'.basis = .sensed ∧ r'.volume = r'.sensed ∧ r'.v0 = none
      | state, _ => r'.state = state ∧ r'.basis = r.basis ∧ r'.v0 = r.v0 ∧ r'.volume = estimate) ∧
    (r.state ≠ .settling ∨ r.settleTimer = none → exec (.settleTimerExpiry t) s = .next s.kick) ∧
    (r.state = .settling → r.settleTimer ≠ none → ∃ u : State, exec (.settleTimerExpiry t) s = .next u.kick ∧
      u = { s with
        tanks := s.tanks.set t (u.tanks.get t), matrix := u.matrix, gov := u.gov, supply := u.supply
        reports := u.reports } ∧ handed u ∧
      u.tanks.get t = match r.sensed with
        | none => { r with state := .blind, settleTimer := none }
        | some v => { r with
            state := .sensed, basis := .sensed, volume := some v, v0 := none, outMark := none, inMark := none
            settleTimer := none, band := bandAfter (some v) })

/-- TANK_SET (R125, R126) and TANK_TABLE (R127, R158), with the restart of R128. Wrong lengths, indices, forms,
states, thresholds and tables are refused in the order of the rules and change nothing. Otherwise settings or table
are replaced, capacity and tolerance clamped, and the tank begins again: UNCONFIGURED when UNUSED, SENSED with the
volume of the level as it stands and the band of that volume from NORMAL (R123), or BLIND without one. No other tank
changes. The model's readings in it: the position of a two-byte field (log 16), UNKNOWN_ITEM's 0 before the index (log
18), and the meters' codes (log 31). -/
def Obligations.TankSetAndTankTableRestartTheTank : Prop :=
  ∀ (tag : Byte) (s : State), s.listening = true →
    let accepted (k : Byte) (clamped : Bool) (t : TankIx) (c : TankSettings)
        (outcome : Host.Outcome State Fault Refusal) : Prop :=
      ∃ u : State, outcome = .next (u.answered k tag (.done clamped false [])) ∧
        u = { s with
          config := { s.config with tanks := s.config.tanks.set t c }, tanks := s.tanks.set t (u.tanks.get t)
          matrix := u.matrix, gov := u.gov, supply := u.supply, reports := u.reports } ∧
        let r' := u.tanks.get t
        r'.v0 = none ∧ r'.outMark = none ∧ r'.inMark = none ∧ r'.settleTimer = none ∧
        if c.role = .unused then r'.state = .unconfigured ∧ r'.volume = none ∧ r'.h = none ∧ r'.basis = .none ∧
          r'.band = .normal
        else
          let h := (levelWork (s.levelValue c.fore) (c.aft.map s.levelValue)).h
          r'.h = h ∧ r'.sensed = h.map (volumeAt c.table) ∧
          match h with
          | none => r'.state = .blind ∧ r'.volume = none ∧ r'.basis = .none ∧ r'.band = .normal
          | some x => r'.state = .sensed ∧ r'.volume = some (volumeAt c.table x) ∧ r'.basis = .sensed ∧
              r'.band = (if volumeAt c.table x ≤ c.emptyL then .empty else if volumeAt c.table x ≤ c.reserveL then .reserve
                else if c.fullL ≤ volumeAt c.table x then .full else .normal)
    (∀ index b1 b2 b3 b4 b5 b6 b7 b8 b9 b10 b11 b12 b13 b14 : Byte,
      let outcome := exec (.tankSet tag [index, b1, b2, b3, b4, b5, b6, b7, b8, b9, b10, b11, b12, b13, b14]) s
      match tankOfNo index.toNat with
      | none => outcome = .next (s.answered 0x42 tag (.refused .unknownItem 0 index 0))
      | some t => match readTankSettings t b1 b2 b3 b4 b5 b6 b7 b8 b9 b10 b11 b12 b13 b14 with
        | .error p => outcome = .next (s.answered 0x42 tag (.refused .malformed 15 (BitVec.ofNat 8 p) 0))
        | .ok sent =>
          let c : TankSettings := { sent with
            capacity := clampNat 100 20000 sent.capacity, tolerance := clampNat 1 20 sent.tolerance
            table := (s.config.tanks.get t).table }
          if s.storeBusy = true then outcome = .next (s.answered 0x42 tag (.refused .storeBusy 0 0 0))
          else if s.matrix.mode ≠ .road ∨ 5 ≤ s.image.v then outcome = .next (s.answered 0x42 tag s.wrongState)
          else if ¬(c.emptyL < c.reserveL ∧ c.reserveL < c.fullL ∧ c.fullL ≤ c.capacity) then
            outcome = .next (s.answered 0x42 tag (.refused .badTable 255 0 0))
          else
            (∀ pre b post, c.table = pre ++ b :: post → c.capacity < b.volume → (∀ x ∈ pre, x.volume ≤ c.capacity) →
              outcome = .next (s.answered 0x42 tag (.refused .badTable (BitVec.ofNat 8 pre.length) 0 0))) ∧
            ((∀ b ∈ c.table, b.volume ≤ c.capacity) →
              accepted 0x42 (decide (c.capacity ≠ sent.capacity ∨ c.tolerance ≠ sent.tolerance)) t c outcome)) ∧
    (∀ payload : List Byte, payload.length < 2 → exec (.tankTable tag payload) s =
      .next (s.answered 0x41 tag (.refused .malformed (BitVec.ofNat 8 payload.length) 0 0))) ∧
    ∀ (index count : Byte) (bits : List Byte),
      let outcome := exec (.tankTable tag (index :: count :: bits)) s
      let counted : Prop := 2 ≤ count.toNat ∧ count.toNat ≤ 16
      let length := BitVec.ofNat 8 (bits.length + 2)
      if counted ∧ bits.length ≠ (26 * count.toNat + 7) / 8 then
        outcome = .next (s.answered 0x41 tag (.refused .malformed length 0 0))
      else match tankOfNo index.toNat with
        | none => outcome = .next (s.answered 0x41 tag (.refused .unknownItem 0 index 0))
        | some t =>
          let c := s.config.tanks.get t
          let table := unpackTable count.toNat bits
          let offending (before : List Breakpoint) (b : Breakpoint) : Prop := 2000 < b.level ∨ c.capacity < b.volume ∨
            ∃ p, before.getLast? = some p ∧ (b.level ≤ p.level ∨ b.volume < p.volume)
          if ¬counted then outcome = .next (s.answered 0x41 tag (.refused .malformed length 2 0))
          else if s.storeBusy = true then outcome = .next (s.answered 0x41 tag (.refused .storeBusy 0 0 0))
          else if s.matrix.mode ≠ .road ∨ 5 ≤ s.image.v then outcome = .next (s.answered 0x41 tag s.wrongState)
          else
            (∀ pre b post, table = pre ++ b :: post → offending pre b →
              (∀ pre' b' post', table = pre' ++ b' :: post' → pre'.length < pre.length → ¬offending pre' b') →
              outcome = .next (s.answered 0x41 tag (.refused .badTable (BitVec.ofNat 8 pre.length) 0 0))) ∧
            ((∀ pre b post, table = pre ++ b :: post → ¬offending pre b) →
              accepted 0x41 false t { c with table } outcome)

/-- SOURCE (R140, R141) by mode and source record: another target is MALFORMED; outside an engagement the source is
set at once; PUMP_AND_ROLL keeps TANK; in STATIONARY_PUMP and FAULT_HOLD a changeover from TANK begins, goes on, is
cancelled or keeps its target, and a return to TANK needs a configured tank that is not EMPTY. A changeover completes
at its 100th qualifying pressure sample in a row, closing the valve, and its window abandons it with NO_SUPPLY (R142;
the time it shows is log 39 and its two bytes log 15). Timers stand on the model's clock (logs 3, 35). Each change of the source judges TANK_EMPTY (R106). -/
def Obligations.SourceAndChangeover : Prop :=
  (∀ (tag b : Byte) (s : State), s.listening = true →
    let outcome := exec (.source tag [b]) s
    let done : Answer := .done false false []
    let becomes (src : WaterSource) : Prop := ∃ u : State, outcome = .next (u.answered 0x43 tag done) ∧
      u = { s with supply := u.supply, gov := u.gov, matrix := u.matrix, reports := u.reports } ∧
      u.supply.source = src ∧ (src = s.supply.source → u = s) ∧
      (src ≠ s.supply.source → u.supply.changeover = none ∧
        u.supply.fill = (if src = .tank then none else s.supply.fill) ∧
        u.gov.primer = (if src = .intake then none else s.gov.primer) ∧
        if src = .tank ∧ (s.tanks.get .t0).band = .empty then
          s.gov.opMode ≠ .off →
            (u.gov.causes.get .tankEmpty).active = true ∧ (u.gov.causes.get .tankEmpty).present = true
        else (u.gov.causes.get .tankEmpty).active = (s.gov.causes.get .tankEmpty).active ∧
          ((s.gov.causes.get .tankEmpty).active = true → (u.gov.causes.get .tankEmpty).present = false))
    match sourceOfByte b with
    | none => outcome = .next (s.answered 0x43 tag (.refused .malformed 1 1 0))
    | some src => match s.matrix.mode with
      | .start | .road | .transfer => becomes src
      | .pumpAndRoll =>
        if src = .tank then outcome = .next (s.answered 0x43 tag done)
        else outcome = .next (s.answered 0x43 tag (.refused .notPermitted 0 1 3))
      | .stationaryPump | .faultHold => match s.supply.source, s.supply.changeover with
        | .tank, none =>
          if src = .tank then outcome = .next (s.answered 0x43 tag done)
          else outcome = .next ({ s with supply := { s.supply with
            changeover := some ⟨src, 0, ⟨s.clock, s.config.changeoverWindow * 1000⟩⟩, tankToPump := true } }.answered
              0x43 tag done)
        | .tank, some c =>
          if src = .tank then outcome = .next ({ s with supply := { s.supply with
            changeover := none, tankToPump := true } }.answered 0x43 tag done)
          else if src = c.target then outcome = .next (s.answered 0x43 tag done)
          else outcome = .next (s.answered 0x43 tag s.wrongState)
        | .intake, _ | .draft, _ =>
          if src = .tank ∧ ((s.tanks.get .t0).band = .empty ∨ (s.tanks.get .t0).state = .unconfigured) then
            ∃ d1 d2, outcome = .next (s.answered 0x43 tag
                (.refused .notPermitted d1 d2 (BitVec.ofNat 8 s.matrix.mode.code))) ∧
              ((natOfBytes [d1, d2]).testBit 12 = true ↔ (s.tanks.get .t0).band = .empty) ∧
              ((natOfBytes [d1, d2]).testBit 13 = true ↔ (s.tanks.get .t0).state = .unconfigured)
          else becomes src) ∧
  (∀ (c0 c1 : Code) (s : State) (c : Changeover), s.supply.changeover = some c →
    s.image.a0.status ≠ .fault → s.image.a1.status ≠ .fault → 300 ≤ c0.toNat → c0.toNat ≤ 3600 →
    400 ≤ c1.toNat → c1.toNat ≤ 3600 →
    let qualifies : Prop := (c.target = .intake ∧ 700 ≤ c1.toNat) ∨
      (c.target = .draft ∧ c1.toNat < 582 ∧ 550 ≤ c0.toNat)
    ∃ u : State, exec (.pressureSample c0 c1) s = .next u.kick ∧
      (¬qualifies → u.supply = { s.supply with changeover := some { c with count := 0 } }) ∧
      (qualifies → c.count < 99 → u.supply = { s.supply with changeover := some { c with count := c.count + 1 } }) ∧
      (qualifies → 99 ≤ c.count → u.supply.source = c.target ∧ u.supply.changeover = none ∧
        u.supply.tankToPump = false ∧
        ((s.gov.causes.get .tankEmpty).active = true →
          (u.gov.causes.get .tankEmpty).active = true ∧ (u.gov.causes.get .tankEmpty).present = false))) ∧
  ∀ s : State, (s.supply.changeover = none → exec .changeoverWindowExpiry s = .next s.kick) ∧
    ∀ c, s.supply.changeover = some c → ∃ u : State, exec .changeoverWindowExpiry s = .next u.kick ∧
      u = { s with supply := { s.supply with changeover := none, tankToPump := u.supply.tankToPump }
                   reports := s.reports.submit (stateReport .changeover 0 .noSupply
                     (u8 c.target.code ++ u16 (c.window.length / 100))) } ∧
      (u.supply.tankToPump = true ↔ s.supply.source = .tank ∧
        (s.matrix.mode = .stationaryPump ∨ s.matrix.mode = .pumpAndRoll ∨ s.matrix.mode = .faultHold))

/-- FILL (R144, R155): another operand is MALFORMED; STOP ends a fill and is WRONG_STATE without one; a target or FULL
is WRONG_STATE with one, refused with the set of PERMIT, SOURCE, TANK and FULL that fail, and otherwise begins a fill
to full_L or to the target clamped to between V plus 1 and full_L, with the rise reference V and 60 s to rise; FULL
and STOP ignore the target bytes (log 31). A fill in progress (R145): an update of tank 0 that loses its level, or
with which FILL becomes withheld, abandons it; one that finds V at the target or the band FULL completes it with
FILL_DONE; any other moves the rise reference and starts the rise timer afresh where V has risen by the rise step. A
return of the source to TANK abandons it with FILL_FAULT ABANDONED, the expiry of the rise timer with NO_RISE (its
values: log 15, where V is absent too). An expiry that meets the update that started the timer afresh, and is taken after it, does not happen
(R146; the meeting is one count of the clock, log 44). Timers stand on the model's clock (logs 3, 35). -/
def Obligations.FillBeginsAndEnds : Prop :=
  (∀ (tag mode hi lo : Byte) (s : State), s.listening = true →
    let outcome := exec (.fill tag [mode, hi, lo]) s
    let full := (s.config.tanks.get .t0).fullL
    let tank := s.tanks.get .t0
    let atFull : Prop := tank.state = .sensed ∧ ∃ v, tank.volume = some v ∧ full ≤ v
    let ready : Prop := s.matrix.permits.fill = true ∧ s.supply.source ≠ .tank ∧ tank.state = .sensed ∧ ¬atFull
    if 3 ≤ mode.toNat then outcome = .next (s.answered 0x44 tag (.refused .malformed 3 1 0))
    else if mode = 2 then outcome = .next (if s.supply.fill = none then s.answered 0x44 tag s.wrongState
      else { s with supply := { s.supply with fill := none } }.answered 0x44 tag (.done false false []))
    else if s.supply.fill ≠ none then outcome = .next (s.answered 0x44 tag s.wrongState)
    else
      (¬ready → ∃ d1 d2, outcome = .next (s.answered 0x44 tag
          (.refused .notPermitted d1 d2 (BitVec.ofNat 8 s.matrix.mode.code))) ∧
        ((natOfBytes [d1, d2]).testBit 8 = true ↔ s.matrix.permits.fill = false) ∧
        ((natOfBytes [d1, d2]).testBit 7 = true ↔ s.supply.source = .tank) ∧
        ((natOfBytes [d1, d2]).testBit 9 = true ↔ tank.state ≠ .sensed) ∧
        ((natOfBytes [d1, d2]).testBit 10 = true ↔ atFull)) ∧
      (ready → ∀ v, tank.volume = some v →
        let sent := readU16 hi lo
        let target := if mode = 1 then full else if sent < v + 1 then v + 1 else if full < sent then full else sent
        outcome = .next ({ s with supply := { s.supply with fill := some ⟨target, v, ⟨s.clock, 60000⟩, false⟩ } }.answered 0x44 tag
          (.done (decide (mode = 0 ∧ target ≠ sent)) false [])))) ∧
  (∀ (s : State) (f : Fill), s.supply.fill = some f → (s.tanks.get .t0).state ≠ .unconfigured →
    ∃ u : State, exec (.tankUpdate .t0) s = .next u.kick ∧
      let old := s.tanks.get .t0
      let new := u.tanks.get .t0
      let abandoned : Prop := (old.state = .sensed ∧ new.state = .blind) ∨
        (s.matrix.permits.fill = true ∧ u.matrix.permits.fill = false)
      let reached : Prop := (∃ v, new.volume = some v ∧ f.target ≤ v) ∨ new.band = .full
      (abandoned → u.supply.fill = none) ∧
      (¬abandoned → reached → u.supply.fill = none ∧
        ∃ q : ReportQueue, u.reports = q.submit (plainReport .fillDone 0 (optU16 new.volume ++ u16 f.target)) ∧
          (new.band = old.band → new.basis = old.basis → q = s.reports)) ∧
      (¬abandoned → ¬reached → u.supply.fill = some (match new.volume with
        | some v => if f.riseReference + (s.config.tanks.get .t0).capacity / 100 ≤ v then
            ⟨f.target, v, ⟨s.clock, 60000⟩, true⟩
          else f
        | none => f))) ∧
  (∀ (tag : Byte) (s : State) (f : Fill), s.listening = true → s.supply.fill = some f →
    s.matrix.mode = .stationaryPump → s.supply.source ≠ .tank → (s.tanks.get .t0).band ≠ .empty →
    (s.tanks.get .t0).state ≠ .unconfigured → (s.gov.causes.get .tankEmpty).active = false →
    ∃ u : State, exec (.source tag [0]) s = .next (u.answered 0x43 tag (.done false false [])) ∧
      u.supply.source = .tank ∧ u.supply.fill = none ∧
      u.reports = s.reports.submit (stateReport .fillFault 0 .abandoned
        (optU16 (s.tanks.get .t0).volume ++ u16 f.target))) ∧
  ∀ s : State, (s.supply.fill = none → exec .riseTimerExpiry s = .next s.kick) ∧
    ∀ f, s.supply.fill = some f →
      let met : Prop := f.restarted = true ∧ s.clock ≤ f.riseTimer.startedAt + 10
      (met → exec .riseTimerExpiry s = .next s.kick) ∧
      (¬met → exec .riseTimerExpiry s = .next ({ s with
        supply := { s.supply with fill := none }
        reports := s.reports.submit (stateReport .fillFault 0 .noRise
          (optU16 (s.tanks.get .t0).volume ++ u16 f.target)) }).kick)
end

