-- ==== Sys2Proof/Laws/Records.lean ====
section
/-! SUPPORT. Records.lean: what reading a field of a numbered record gives after a write, for each of the nine records
of Word.lean, and that two records with the same fields are the same. -/

namespace Sys2Proof

theorem Line.mem_all (i : Line) : i ∈ Line.all := by cases i <;> decide

@[simp] theorem PerLine.get_set_self {α : Type} (p : PerLine α) (i : Line) (x : α) : (p.set i x).get i = x := by
  cases i <;> rfl

theorem PerLine.get_set_ne {α : Type} (p : PerLine α) (x : α) {i j : Line} (h : j ≠ i) : (p.set i x).get j = p.get j := by
  cases i <;> cases j <;> first | rfl | exact absurd rfl h

theorem PerLine.get_set {α : Type} (p : PerLine α) (i j : Line) (x : α) :
    (p.set i x).get j = if j = i then x else p.get j := by
  by_cases h : j = i
  · simp [h]
  · simp [h, PerLine.get_set_ne p x h]

@[simp] theorem PerLine.get_ofFn {α : Type} (f : Line → α) (i : Line) : (PerLine.ofFn f).get i = f i := by cases i <;> rfl

@[simp] theorem PerLine.get_const {α : Type} (x : α) (i : Line) : (PerLine.const x).get i = x := by cases i <;> rfl

theorem PerLine.ext_get {α : Type} {p q : PerLine α} (h : ∀ i, p.get i = q.get i) : p = q := by
  have e : ∀ r : PerLine α, PerLine.ofFn r.get = r := fun _ => rfl
  rw [← e p, ← e q, funext h]

theorem LevelIx.mem_all (i : LevelIx) : i ∈ LevelIx.all := by cases i <;> decide

@[simp] theorem PerLevel.get_set_self {α : Type} (p : PerLevel α) (i : LevelIx) (x : α) : (p.set i x).get i = x := by
  cases i <;> rfl

theorem PerLevel.get_set_ne {α : Type} (p : PerLevel α) (x : α) {i j : LevelIx} (h : j ≠ i) : (p.set i x).get j = p.get j := by
  cases i <;> cases j <;> first | rfl | exact absurd rfl h

theorem PerLevel.get_set {α : Type} (p : PerLevel α) (i j : LevelIx) (x : α) :
    (p.set i x).get j = if j = i then x else p.get j := by
  by_cases h : j = i
  · simp [h]
  · simp [h, PerLevel.get_set_ne p x h]

@[simp] theorem PerLevel.get_ofFn {α : Type} (f : LevelIx → α) (i : LevelIx) : (PerLevel.ofFn f).get i = f i := by cases i <;> rfl

@[simp] theorem PerLevel.get_const {α : Type} (x : α) (i : LevelIx) : (PerLevel.const x).get i = x := by cases i <;> rfl

theorem PerLevel.ext_get {α : Type} {p q : PerLevel α} (h : ∀ i, p.get i = q.get i) : p = q := by
  have e : ∀ r : PerLevel α, PerLevel.ofFn r.get = r := fun _ => rfl
  rw [← e p, ← e q, funext h]

theorem EntryIx.mem_all (i : EntryIx) : i ∈ EntryIx.all := by cases i <;> decide

@[simp] theorem PerEntry.get_set_self {α : Type} (p : PerEntry α) (i : EntryIx) (x : α) : (p.set i x).get i = x := by
  cases i <;> rfl

theorem PerEntry.get_set_ne {α : Type} (p : PerEntry α) (x : α) {i j : EntryIx} (h : j ≠ i) : (p.set i x).get j = p.get j := by
  cases i <;> cases j <;> first | rfl | exact absurd rfl h

theorem PerEntry.get_set {α : Type} (p : PerEntry α) (i j : EntryIx) (x : α) :
    (p.set i x).get j = if j = i then x else p.get j := by
  by_cases h : j = i
  · simp [h]
  · simp [h, PerEntry.get_set_ne p x h]

@[simp] theorem PerEntry.get_ofFn {α : Type} (f : EntryIx → α) (i : EntryIx) : (PerEntry.ofFn f).get i = f i := by cases i <;> rfl

@[simp] theorem PerEntry.get_const {α : Type} (x : α) (i : EntryIx) : (PerEntry.const x).get i = x := by cases i <;> rfl

theorem PerEntry.ext_get {α : Type} {p q : PerEntry α} (h : ∀ i, p.get i = q.get i) : p = q := by
  have e : ∀ r : PerEntry α, PerEntry.ofFn r.get = r := fun _ => rfl
  rw [← e p, ← e q, funext h]

theorem TankIx.mem_all (i : TankIx) : i ∈ TankIx.all := by cases i <;> decide

@[simp] theorem PerTank.get_set_self {α : Type} (p : PerTank α) (i : TankIx) (x : α) : (p.set i x).get i = x := by
  cases i <;> rfl

theorem PerTank.get_set_ne {α : Type} (p : PerTank α) (x : α) {i j : TankIx} (h : j ≠ i) : (p.set i x).get j = p.get j := by
  cases i <;> cases j <;> first | rfl | exact absurd rfl h

theorem PerTank.get_set {α : Type} (p : PerTank α) (i j : TankIx) (x : α) :
    (p.set i x).get j = if j = i then x else p.get j := by
  by_cases h : j = i
  · simp [h]
  · simp [h, PerTank.get_set_ne p x h]

@[simp] theorem PerTank.get_ofFn {α : Type} (f : TankIx → α) (i : TankIx) : (PerTank.ofFn f).get i = f i := by cases i <;> rfl

@[simp] theorem PerTank.get_const {α : Type} (x : α) (i : TankIx) : (PerTank.const x).get i = x := by cases i <;> rfl

theorem PerTank.ext_get {α : Type} {p q : PerTank α} (h : ∀ i, p.get i = q.get i) : p = q := by
  have e : ∀ r : PerTank α, PerTank.ofFn r.get = r := fun _ => rfl
  rw [← e p, ← e q, funext h]

theorem Cause.mem_all (i : Cause) : i ∈ Cause.all := by cases i <;> decide

@[simp] theorem PerCause.get_set_self {α : Type} (p : PerCause α) (i : Cause) (x : α) : (p.set i x).get i = x := by
  cases i <;> rfl

theorem PerCause.get_set_ne {α : Type} (p : PerCause α) (x : α) {i j : Cause} (h : j ≠ i) : (p.set i x).get j = p.get j := by
  cases i <;> cases j <;> first | rfl | exact absurd rfl h

theorem PerCause.get_set {α : Type} (p : PerCause α) (i j : Cause) (x : α) :
    (p.set i x).get j = if j = i then x else p.get j := by
  by_cases h : j = i
  · simp [h]
  · simp [h, PerCause.get_set_ne p x h]

@[simp] theorem PerCause.get_ofFn {α : Type} (f : Cause → α) (i : Cause) : (PerCause.ofFn f).get i = f i := by cases i <;> rfl

@[simp] theorem PerCause.get_const {α : Type} (x : α) (i : Cause) : (PerCause.const x).get i = x := by cases i <;> rfl

theorem PerCause.ext_get {α : Type} {p q : PerCause α} (h : ∀ i, p.get i = q.get i) : p = q := by
  have e : ∀ r : PerCause α, PerCause.ofFn r.get = r := fun _ => rfl
  rw [← e p, ← e q, funext h]

theorem Permit.mem_all (i : Permit) : i ∈ Permit.all := by cases i <;> decide

@[simp] theorem PerPermit.get_set_self {α : Type} (p : PerPermit α) (i : Permit) (x : α) : (p.set i x).get i = x := by
  cases i <;> rfl

theorem PerPermit.get_set_ne {α : Type} (p : PerPermit α) (x : α) {i j : Permit} (h : j ≠ i) : (p.set i x).get j = p.get j := by
  cases i <;> cases j <;> first | rfl | exact absurd rfl h

theorem PerPermit.get_set {α : Type} (p : PerPermit α) (i j : Permit) (x : α) :
    (p.set i x).get j = if j = i then x else p.get j := by
  by_cases h : j = i
  · simp [h]
  · simp [h, PerPermit.get_set_ne p x h]

@[simp] theorem PerPermit.get_ofFn {α : Type} (f : Permit → α) (i : Permit) : (PerPermit.ofFn f).get i = f i := by cases i <;> rfl

@[simp] theorem PerPermit.get_const {α : Type} (x : α) (i : Permit) : (PerPermit.const x).get i = x := by cases i <;> rfl

theorem PerPermit.ext_get {α : Type} {p q : PerPermit α} (h : ∀ i, p.get i = q.get i) : p = q := by
  have e : ∀ r : PerPermit α, PerPermit.ofFn r.get = r := fun _ => rfl
  rw [← e p, ← e q, funext h]

theorem Section.mem_all (i : Section) : i ∈ Section.all := by cases i <;> decide

@[simp] theorem PerSection.get_set_self {α : Type} (p : PerSection α) (i : Section) (x : α) : (p.set i x).get i = x := by
  cases i <;> rfl

theorem PerSection.get_set_ne {α : Type} (p : PerSection α) (x : α) {i j : Section} (h : j ≠ i) : (p.set i x).get j = p.get j := by
  cases i <;> cases j <;> first | rfl | exact absurd rfl h

theorem PerSection.get_set {α : Type} (p : PerSection α) (i j : Section) (x : α) :
    (p.set i x).get j = if j = i then x else p.get j := by
  by_cases h : j = i
  · simp [h]
  · simp [h, PerSection.get_set_ne p x h]

@[simp] theorem PerSection.get_ofFn {α : Type} (f : Section → α) (i : Section) : (PerSection.ofFn f).get i = f i := by cases i <;> rfl

@[simp] theorem PerSection.get_const {α : Type} (x : α) (i : Section) : (PerSection.const x).get i = x := by cases i <;> rfl

theorem PerSection.ext_get {α : Type} {p q : PerSection α} (h : ∀ i, p.get i = q.get i) : p = q := by
  have e : ∀ r : PerSection α, PerSection.ofFn r.get = r := fun _ => rfl
  rw [← e p, ← e q, funext h]

theorem PulseInput.mem_all (i : PulseInput) : i ∈ PulseInput.all := by cases i <;> decide

@[simp] theorem PerPulse.get_set_self {α : Type} (p : PerPulse α) (i : PulseInput) (x : α) : (p.set i x).get i = x := by
  cases i <;> rfl

theorem PerPulse.get_set_ne {α : Type} (p : PerPulse α) (x : α) {i j : PulseInput} (h : j ≠ i) : (p.set i x).get j = p.get j := by
  cases i <;> cases j <;> first | rfl | exact absurd rfl h

theorem PerPulse.get_set {α : Type} (p : PerPulse α) (i j : PulseInput) (x : α) :
    (p.set i x).get j = if j = i then x else p.get j := by
  by_cases h : j = i
  · simp [h]
  · simp [h, PerPulse.get_set_ne p x h]

@[simp] theorem PerPulse.get_ofFn {α : Type} (f : PulseInput → α) (i : PulseInput) : (PerPulse.ofFn f).get i = f i := by cases i <;> rfl

@[simp] theorem PerPulse.get_const {α : Type} (x : α) (i : PulseInput) : (PerPulse.const x).get i = x := by cases i <;> rfl

theorem PerPulse.ext_get {α : Type} {p q : PerPulse α} (h : ∀ i, p.get i = q.get i) : p = q := by
  have e : ∀ r : PerPulse α, PerPulse.ofFn r.get = r := fun _ => rfl
  rw [← e p, ← e q, funext h]

theorem Meter.mem_all (i : Meter) : i ∈ Meter.all := by cases i <;> decide

@[simp] theorem PerMeter.get_set_self {α : Type} (p : PerMeter α) (i : Meter) (x : α) : (p.set i x).get i = x := by
  cases i <;> rfl

theorem PerMeter.get_set_ne {α : Type} (p : PerMeter α) (x : α) {i j : Meter} (h : j ≠ i) : (p.set i x).get j = p.get j := by
  cases i <;> cases j <;> first | rfl | exact absurd rfl h

theorem PerMeter.get_set {α : Type} (p : PerMeter α) (i j : Meter) (x : α) :
    (p.set i x).get j = if j = i then x else p.get j := by
  by_cases h : j = i
  · simp [h]
  · simp [h, PerMeter.get_set_ne p x h]

@[simp] theorem PerMeter.get_ofFn {α : Type} (f : Meter → α) (i : Meter) : (PerMeter.ofFn f).get i = f i := by cases i <;> rfl

@[simp] theorem PerMeter.get_const {α : Type} (x : α) (i : Meter) : (PerMeter.const x).get i = x := by cases i <;> rfl

theorem PerMeter.ext_get {α : Type} {p q : PerMeter α} (h : ∀ i, p.get i = q.get i) : p = q := by
  have e : ∀ r : PerMeter α, PerMeter.ofFn r.get = r := fun _ => rfl
  rw [← e p, ← e q, funext h]

end Sys2Proof
end

