-- ==== Sys2Proof/Laws/State.lean ====
section
/-! SUPPORT. State.lean: the small facts of the state that every later proof uses: what a named update leaves in each
field, and that a fold keeps what each of its steps keeps. -/

namespace Sys2Proof.Machine

/-- A property that the start has and every step of a fold keeps holds at the end. -/
theorem foldl_keeps {α β : Type} (P : β → Prop) (f : β → α → β) (l : List α) (b : β) (start : P b)
    (kept : ∀ b a, P b → P (f b a)) : P (l.foldl f b) := by
  induction l generalizing b with
  | nil => exact start
  | cons a l ih => exact ih _ (kept b a start)

@[simp] theorem State.submit_reports (s : State) (r : Report) : (s.submit r).reports = s.reports.submit r := rfl

theorem State.submit_eq (s : State) (r : Report) : s.submit r = { s with reports := s.reports.submit r } := rfl

@[simp] theorem State.submitAll_nil (s : State) : s.submitAll [] = s := rfl

@[simp] theorem State.submitAll_cons (s : State) (r : Report) (rs : List Report) :
    s.submitAll (r :: rs) = (s.submit r).submitAll rs := rfl

@[simp] theorem State.pushReply_link (s : State) (r : Reply) :
    (s.pushReply r).link = { s.link with replies := s.link.replies ++ [r] } := rfl

@[simp] theorem State.setCause_gov (s : State) (c : Cause) (r : CauseRecord) :
    (s.setCause c r).gov = { s.gov with causes := s.gov.causes.set c r } := rfl

@[simp] theorem Governor.emptyRing_fields (g : Governor) :
    g.emptyRing.ring = [] ∧ g.emptyRing.suspect = 0 ∧ g.emptyRing.opMode = g.opMode ∧
    g.emptyRing.opTarget = g.opTarget ∧ g.emptyRing.effMode = g.effMode ∧ g.emptyRing.effTarget = g.effTarget ∧
    g.emptyRing.effSetpoint = g.effSetpoint ∧ g.emptyRing.integrator = g.integrator ∧
    g.emptyRing.demand = g.demand ∧ g.emptyRing.flags = g.flags ∧ g.emptyRing.capCut = g.capCut ∧
    g.emptyRing.causes = g.causes ∧ g.emptyRing.saved = g.saved ∧ g.emptyRing.primer = g.primer ∧
    g.emptyRing.primerElapsed = g.primerElapsed ∧ g.emptyRing.reliefOpen = g.reliefOpen :=
  by simp only [Governor.emptyRing, and_self]

@[simp] theorem Governor.dropThrottle_fields (g : Governor) :
    g.dropThrottle.demand = 0 ∧ g.dropThrottle.integrator = 0 ∧ g.dropThrottle.flags = noFlags ∧
    g.dropThrottle.capCut = false ∧ g.dropThrottle.opMode = g.opMode ∧ g.dropThrottle.opTarget = g.opTarget ∧
    g.dropThrottle.effMode = g.effMode ∧ g.dropThrottle.causes = g.causes ∧ g.dropThrottle.saved = g.saved ∧
    g.dropThrottle.primer = g.primer ∧ g.dropThrottle.ring = g.ring ∧ g.dropThrottle.suspect = g.suspect :=
  by simp only [Governor.dropThrottle, and_self]

end Sys2Proof.Machine
end

