-- ==== Sys2Proof/Laws/FramesProtection.lean ====
section
/-! SUPPORT. FramesProtection.lean: what reports, replies, the transmitter, the horn and the governor's shared operations leave alone, one lemma per operation, over the parts of the
state it does not touch. -/

namespace Sys2Proof.Machine

@[simp] theorem State.submit_frame (s : State) (r : Report) :
    (s.submit r).pending = s.pending ∧ (s.submit r).clock = s.clock ∧ (s.submit r).strap = s.strap ∧
    (s.submit r).config = s.config ∧ (s.submit r).image = s.image ∧ (s.submit r).matrix = s.matrix ∧
    (s.submit r).seq = s.seq ∧ (s.submit r).recoveredAtStart = s.recoveredAtStart ∧ (s.submit r).gov = s.gov ∧
    (s.submit r).tanks = s.tanks ∧ (s.submit r).supply = s.supply ∧ (s.submit r).store = s.store ∧
    (s.submit r).link = s.link := by
  simp only [State.submit]
  simp

@[simp] theorem State.submitAll_frame (s : State) (rs : List Report) :
    (s.submitAll rs).pending = s.pending ∧ (s.submitAll rs).clock = s.clock ∧ (s.submitAll rs).strap = s.strap ∧
    (s.submitAll rs).config = s.config ∧ (s.submitAll rs).image = s.image ∧ (s.submitAll rs).matrix = s.matrix ∧
    (s.submitAll rs).seq = s.seq ∧ (s.submitAll rs).recoveredAtStart = s.recoveredAtStart ∧
    (s.submitAll rs).gov = s.gov ∧ (s.submitAll rs).tanks = s.tanks ∧ (s.submitAll rs).supply = s.supply ∧
    (s.submitAll rs).store = s.store ∧ (s.submitAll rs).link = s.link := by
  unfold State.submitAll
  induction rs generalizing s with
  | nil => simp
  | cons r rs ih => simpa using ih (s.submit r)

@[simp] theorem State.pushReply_frame (s : State) (r : Reply) :
    (s.pushReply r).pending = s.pending ∧ (s.pushReply r).clock = s.clock ∧ (s.pushReply r).strap = s.strap ∧
    (s.pushReply r).config = s.config ∧ (s.pushReply r).image = s.image ∧ (s.pushReply r).matrix = s.matrix ∧
    (s.pushReply r).seq = s.seq ∧ (s.pushReply r).recoveredAtStart = s.recoveredAtStart ∧
    (s.pushReply r).gov = s.gov ∧ (s.pushReply r).tanks = s.tanks ∧ (s.pushReply r).supply = s.supply ∧
    (s.pushReply r).reports = s.reports ∧ (s.pushReply r).store = s.store := by
  simp only [State.pushReply]
  simp

@[simp] theorem State.kick_frame (s : State) :
    s.kick.pending = s.pending ∧ s.kick.clock = s.clock ∧ s.kick.strap = s.strap ∧ s.kick.config = s.config ∧
    s.kick.image = s.image ∧ s.kick.matrix = s.matrix ∧ s.kick.seq = s.seq ∧
    s.kick.recoveredAtStart = s.recoveredAtStart ∧ s.kick.gov = s.gov ∧ s.kick.tanks = s.tanks ∧
    s.kick.supply = s.supply ∧ s.kick.store = s.store := by
  simp only [State.kick]
  repeat' split
  all_goals simp

@[simp] theorem State.judgeHorn_frame (s : State) :
    s.judgeHorn.pending = s.pending ∧ s.judgeHorn.clock = s.clock ∧ s.judgeHorn.strap = s.strap ∧
    s.judgeHorn.config = s.config ∧ s.judgeHorn.image = s.image ∧ s.judgeHorn.seq = s.seq ∧
    s.judgeHorn.recoveredAtStart = s.recoveredAtStart ∧ s.judgeHorn.gov = s.gov ∧ s.judgeHorn.tanks = s.tanks ∧
    s.judgeHorn.supply = s.supply ∧ s.judgeHorn.reports = s.reports ∧ s.judgeHorn.store = s.store ∧
    s.judgeHorn.link = s.link := by
  simp only [State.judgeHorn]
  simp

@[simp] theorem State.hornArises_frame (s : State) :
    s.hornArises.pending = s.pending ∧ s.hornArises.clock = s.clock ∧ s.hornArises.strap = s.strap ∧
    s.hornArises.config = s.config ∧ s.hornArises.image = s.image ∧ s.hornArises.seq = s.seq ∧
    s.hornArises.recoveredAtStart = s.recoveredAtStart ∧ s.hornArises.gov = s.gov ∧
    s.hornArises.tanks = s.tanks ∧ s.hornArises.supply = s.supply ∧ s.hornArises.reports = s.reports ∧
    s.hornArises.store = s.store ∧ s.hornArises.link = s.link := by
  simp only [State.hornArises]
  simp

@[simp] theorem State.bumpless_frame (s : State) (m : GovMode) (x : Int) :
    (s.bumpless m x).pending = s.pending ∧ (s.bumpless m x).clock = s.clock ∧ (s.bumpless m x).strap = s.strap ∧
    (s.bumpless m x).config = s.config ∧ (s.bumpless m x).image = s.image ∧ (s.bumpless m x).matrix = s.matrix ∧
    (s.bumpless m x).seq = s.seq ∧ (s.bumpless m x).recoveredAtStart = s.recoveredAtStart ∧
    (s.bumpless m x).tanks = s.tanks ∧ (s.bumpless m x).supply = s.supply ∧
    (s.bumpless m x).reports = s.reports ∧ (s.bumpless m x).store = s.store ∧ (s.bumpless m x).link = s.link := by
  simp only [State.bumpless]
  simp

@[simp] theorem State.effectiveRest_frame (s : State) (m : GovMode) :
    (s.effectiveRest m).pending = s.pending ∧ (s.effectiveRest m).clock = s.clock ∧
    (s.effectiveRest m).strap = s.strap ∧ (s.effectiveRest m).config = s.config ∧
    (s.effectiveRest m).image = s.image ∧ (s.effectiveRest m).matrix = s.matrix ∧
    (s.effectiveRest m).seq = s.seq ∧ (s.effectiveRest m).recoveredAtStart = s.recoveredAtStart ∧
    (s.effectiveRest m).tanks = s.tanks ∧ (s.effectiveRest m).supply = s.supply ∧
    (s.effectiveRest m).reports = s.reports ∧ (s.effectiveRest m).store = s.store ∧
    (s.effectiveRest m).link = s.link := by
  simp only [State.effectiveRest]
  simp

@[simp] theorem State.takeEffective_frame (s : State) (m : GovMode) (x : Int) :
    (s.takeEffective m x).pending = s.pending ∧ (s.takeEffective m x).clock = s.clock ∧
    (s.takeEffective m x).strap = s.strap ∧ (s.takeEffective m x).config = s.config ∧
    (s.takeEffective m x).image = s.image ∧ (s.takeEffective m x).matrix = s.matrix ∧
    (s.takeEffective m x).seq = s.seq ∧ (s.takeEffective m x).recoveredAtStart = s.recoveredAtStart ∧
    (s.takeEffective m x).tanks = s.tanks ∧ (s.takeEffective m x).supply = s.supply ∧
    (s.takeEffective m x).reports = s.reports ∧ (s.takeEffective m x).store = s.store ∧
    (s.takeEffective m x).link = s.link := by
  simp only [State.takeEffective]
  repeat' split
  all_goals simp

@[simp] theorem State.takeGoverning_frame (s : State) :
    s.takeGoverning.pending = s.pending ∧ s.takeGoverning.clock = s.clock ∧ s.takeGoverning.strap = s.strap ∧
    s.takeGoverning.config = s.config ∧ s.takeGoverning.image = s.image ∧ s.takeGoverning.matrix = s.matrix ∧
    s.takeGoverning.seq = s.seq ∧ s.takeGoverning.recoveredAtStart = s.recoveredAtStart ∧
    s.takeGoverning.tanks = s.tanks ∧ s.takeGoverning.supply = s.supply ∧ s.takeGoverning.reports = s.reports ∧
    s.takeGoverning.store = s.store ∧ s.takeGoverning.link = s.link := by
  simp only [State.takeGoverning]
  repeat' split
  all_goals simp

@[simp] theorem State.setCause_frame (s : State) (c : Cause) (r : CauseRecord) :
    (s.setCause c r).pending = s.pending ∧ (s.setCause c r).clock = s.clock ∧ (s.setCause c r).strap = s.strap ∧
    (s.setCause c r).config = s.config ∧ (s.setCause c r).image = s.image ∧ (s.setCause c r).matrix = s.matrix ∧
    (s.setCause c r).seq = s.seq ∧ (s.setCause c r).recoveredAtStart = s.recoveredAtStart ∧
    (s.setCause c r).tanks = s.tanks ∧ (s.setCause c r).supply = s.supply ∧
    (s.setCause c r).reports = s.reports ∧ (s.setCause c r).store = s.store ∧ (s.setCause c r).link = s.link := by
  simp only [State.setCause]
  simp

@[simp] theorem State.settleRaised_frame (s : State) (c : Cause) :
    (s.settleRaised c).pending = s.pending ∧ (s.settleRaised c).clock = s.clock ∧
    (s.settleRaised c).strap = s.strap ∧ (s.settleRaised c).config = s.config ∧
    (s.settleRaised c).image = s.image ∧ (s.settleRaised c).matrix = s.matrix ∧ (s.settleRaised c).seq = s.seq ∧
    (s.settleRaised c).recoveredAtStart = s.recoveredAtStart ∧ (s.settleRaised c).tanks = s.tanks ∧
    (s.settleRaised c).supply = s.supply ∧ (s.settleRaised c).reports = s.reports ∧
    (s.settleRaised c).store = s.store ∧ (s.settleRaised c).link = s.link := by
  simp only [State.settleRaised]
  repeat' split
  all_goals simp

@[simp] theorem State.reportRaised_frame (s : State) (c : Cause) (v : List Byte) :
    (s.reportRaised c v).pending = s.pending ∧ (s.reportRaised c v).clock = s.clock ∧
    (s.reportRaised c v).strap = s.strap ∧ (s.reportRaised c v).config = s.config ∧
    (s.reportRaised c v).image = s.image ∧ (s.reportRaised c v).matrix = s.matrix ∧
    (s.reportRaised c v).seq = s.seq ∧ (s.reportRaised c v).recoveredAtStart = s.recoveredAtStart ∧
    (s.reportRaised c v).gov = s.gov ∧ (s.reportRaised c v).tanks = s.tanks ∧
    (s.reportRaised c v).supply = s.supply ∧ (s.reportRaised c v).store = s.store ∧
    (s.reportRaised c v).link = s.link := by
  simp only [State.reportRaised]
  simp

@[simp] theorem State.raiseCause_frame (s : State) (c : Cause) (v : List Byte) :
    (s.raiseCause c v).pending = s.pending ∧ (s.raiseCause c v).clock = s.clock ∧
    (s.raiseCause c v).strap = s.strap ∧ (s.raiseCause c v).config = s.config ∧
    (s.raiseCause c v).image = s.image ∧ (s.raiseCause c v).seq = s.seq ∧
    (s.raiseCause c v).recoveredAtStart = s.recoveredAtStart ∧ (s.raiseCause c v).tanks = s.tanks ∧
    (s.raiseCause c v).supply = s.supply ∧ (s.raiseCause c v).store = s.store ∧ (s.raiseCause c v).link = s.link := by
  simp only [State.raiseCause]
  repeat' split
  all_goals simp

@[simp] theorem State.causeAbsent_frame (s : State) (c : Cause) (v : List Byte) :
    (s.causeAbsent c v).pending = s.pending ∧ (s.causeAbsent c v).clock = s.clock ∧
    (s.causeAbsent c v).strap = s.strap ∧ (s.causeAbsent c v).config = s.config ∧
    (s.causeAbsent c v).image = s.image ∧ (s.causeAbsent c v).matrix = s.matrix ∧
    (s.causeAbsent c v).seq = s.seq ∧ (s.causeAbsent c v).recoveredAtStart = s.recoveredAtStart ∧
    (s.causeAbsent c v).tanks = s.tanks ∧ (s.causeAbsent c v).supply = s.supply ∧
    (s.causeAbsent c v).store = s.store ∧ (s.causeAbsent c v).link = s.link := by
  simp only [State.causeAbsent]
  repeat' split
  all_goals simp

@[simp] theorem State.causeLeaves_frame (s : State) (c : Cause) :
    (s.causeLeaves c).pending = s.pending ∧ (s.causeLeaves c).clock = s.clock ∧
    (s.causeLeaves c).strap = s.strap ∧ (s.causeLeaves c).config = s.config ∧
    (s.causeLeaves c).image = s.image ∧ (s.causeLeaves c).matrix = s.matrix ∧ (s.causeLeaves c).seq = s.seq ∧
    (s.causeLeaves c).recoveredAtStart = s.recoveredAtStart ∧ (s.causeLeaves c).tanks = s.tanks ∧
    (s.causeLeaves c).supply = s.supply ∧ (s.causeLeaves c).store = s.store ∧ (s.causeLeaves c).link = s.link := by
  simp only [State.causeLeaves]
  repeat' split
  all_goals simp

@[simp] theorem State.allCausesLeave_frame (s : State) :
    s.allCausesLeave.pending = s.pending ∧ s.allCausesLeave.clock = s.clock ∧ s.allCausesLeave.strap = s.strap ∧
    s.allCausesLeave.config = s.config ∧ s.allCausesLeave.image = s.image ∧ s.allCausesLeave.matrix = s.matrix ∧
    s.allCausesLeave.seq = s.seq ∧ s.allCausesLeave.recoveredAtStart = s.recoveredAtStart ∧
    s.allCausesLeave.tanks = s.tanks ∧ s.allCausesLeave.supply = s.supply ∧ s.allCausesLeave.store = s.store ∧
    s.allCausesLeave.link = s.link := by
  simp [State.allCausesLeave, Cause.all]

@[simp] theorem State.judgePressureSensor_frame (s : State) :
    s.judgePressureSensor.pending = s.pending ∧ s.judgePressureSensor.clock = s.clock ∧
    s.judgePressureSensor.strap = s.strap ∧ s.judgePressureSensor.config = s.config ∧
    s.judgePressureSensor.image = s.image ∧ s.judgePressureSensor.seq = s.seq ∧
    s.judgePressureSensor.recoveredAtStart = s.recoveredAtStart ∧ s.judgePressureSensor.tanks = s.tanks ∧
    s.judgePressureSensor.supply = s.supply ∧ s.judgePressureSensor.store = s.store ∧
    s.judgePressureSensor.link = s.link := by
  simp only [State.judgePressureSensor]
  repeat' split
  all_goals simp

@[simp] theorem State.raise_frame (s : State) (c : Cause) (v : List Byte) :
    (s.raise c v).pending = s.pending ∧ (s.raise c v).clock = s.clock ∧ (s.raise c v).strap = s.strap ∧
    (s.raise c v).config = s.config ∧ (s.raise c v).image = s.image ∧ (s.raise c v).seq = s.seq ∧
    (s.raise c v).recoveredAtStart = s.recoveredAtStart ∧ (s.raise c v).tanks = s.tanks ∧
    (s.raise c v).supply = s.supply ∧ (s.raise c v).store = s.store ∧ (s.raise c v).link = s.link := by
  simp only [State.raise]
  repeat' split
  all_goals simp

@[simp] theorem State.judgeOverheat_frame (s : State) :
    s.judgeOverheat.pending = s.pending ∧ s.judgeOverheat.clock = s.clock ∧ s.judgeOverheat.strap = s.strap ∧
    s.judgeOverheat.config = s.config ∧ s.judgeOverheat.image = s.image ∧ s.judgeOverheat.seq = s.seq ∧
    s.judgeOverheat.recoveredAtStart = s.recoveredAtStart ∧ s.judgeOverheat.tanks = s.tanks ∧
    s.judgeOverheat.supply = s.supply ∧ s.judgeOverheat.store = s.store ∧ s.judgeOverheat.link = s.link := by
  simp only [State.judgeOverheat]
  repeat' split
  all_goals simp

@[simp] theorem State.judgeTankEmpty_frame (s : State) :
    s.judgeTankEmpty.pending = s.pending ∧ s.judgeTankEmpty.clock = s.clock ∧ s.judgeTankEmpty.strap = s.strap ∧
    s.judgeTankEmpty.config = s.config ∧ s.judgeTankEmpty.image = s.image ∧ s.judgeTankEmpty.seq = s.seq ∧
    s.judgeTankEmpty.recoveredAtStart = s.recoveredAtStart ∧ s.judgeTankEmpty.tanks = s.tanks ∧
    s.judgeTankEmpty.supply = s.supply ∧ s.judgeTankEmpty.store = s.store ∧ s.judgeTankEmpty.link = s.link := by
  simp only [State.judgeTankEmpty]
  repeat' split
  all_goals simp

@[simp] theorem State.judgeRelief_frame (s : State) :
    s.judgeRelief.pending = s.pending ∧ s.judgeRelief.clock = s.clock ∧ s.judgeRelief.strap = s.strap ∧
    s.judgeRelief.config = s.config ∧ s.judgeRelief.image = s.image ∧ s.judgeRelief.matrix = s.matrix ∧
    s.judgeRelief.seq = s.seq ∧ s.judgeRelief.recoveredAtStart = s.recoveredAtStart ∧
    s.judgeRelief.tanks = s.tanks ∧ s.judgeRelief.supply = s.supply ∧ s.judgeRelief.store = s.store ∧
    s.judgeRelief.link = s.link := by
  simp only [State.judgeRelief]
  repeat' split
  all_goals simp

@[simp] theorem State.stopPrimer_frame (s : State) :
    s.stopPrimer.pending = s.pending ∧ s.stopPrimer.clock = s.clock ∧ s.stopPrimer.strap = s.strap ∧
    s.stopPrimer.config = s.config ∧ s.stopPrimer.image = s.image ∧ s.stopPrimer.matrix = s.matrix ∧
    s.stopPrimer.seq = s.seq ∧ s.stopPrimer.recoveredAtStart = s.recoveredAtStart ∧
    s.stopPrimer.tanks = s.tanks ∧ s.stopPrimer.supply = s.supply ∧ s.stopPrimer.reports = s.reports ∧
    s.stopPrimer.store = s.store ∧ s.stopPrimer.link = s.link := by
  simp only [State.stopPrimer]
  repeat' split
  all_goals simp

@[simp] theorem State.governorOff_frame (s : State) :
    s.governorOff.pending = s.pending ∧ s.governorOff.clock = s.clock ∧ s.governorOff.strap = s.strap ∧
    s.governorOff.config = s.config ∧ s.governorOff.image = s.image ∧ s.governorOff.seq = s.seq ∧
    s.governorOff.recoveredAtStart = s.recoveredAtStart ∧ s.governorOff.tanks = s.tanks ∧
    s.governorOff.supply = s.supply ∧ s.governorOff.store = s.store ∧ s.governorOff.link = s.link := by
  simp only [State.governorOff]
  simp

@[simp] theorem State.governorHold_frame (s : State) :
    s.governorHold.pending = s.pending ∧ s.governorHold.clock = s.clock ∧ s.governorHold.strap = s.strap ∧
    s.governorHold.config = s.config ∧ s.governorHold.image = s.image ∧ s.governorHold.seq = s.seq ∧
    s.governorHold.recoveredAtStart = s.recoveredAtStart ∧ s.governorHold.tanks = s.tanks ∧
    s.governorHold.supply = s.supply ∧ s.governorHold.store = s.store ∧ s.governorHold.link = s.link := by
  simp only [State.governorHold]
  simp

@[simp] theorem State.governorEngage_frame (s : State) :
    s.governorEngage.pending = s.pending ∧ s.governorEngage.clock = s.clock ∧ s.governorEngage.strap = s.strap ∧
    s.governorEngage.config = s.config ∧ s.governorEngage.image = s.image ∧ s.governorEngage.seq = s.seq ∧
    s.governorEngage.recoveredAtStart = s.recoveredAtStart ∧ s.governorEngage.tanks = s.tanks ∧
    s.governorEngage.supply = s.supply ∧ s.governorEngage.store = s.store ∧ s.governorEngage.link = s.link := by
  simp only [State.governorEngage]
  repeat' split
  all_goals simp

@[simp] theorem State.discardProtection_frame (s : State) :
    s.discardProtection.pending = s.pending ∧ s.discardProtection.clock = s.clock ∧
    s.discardProtection.strap = s.strap ∧ s.discardProtection.config = s.config ∧
    s.discardProtection.image = s.image ∧ s.discardProtection.seq = s.seq ∧
    s.discardProtection.recoveredAtStart = s.recoveredAtStart ∧ s.discardProtection.tanks = s.tanks ∧
    s.discardProtection.supply = s.supply ∧ s.discardProtection.store = s.store ∧
    s.discardProtection.link = s.link := by
  simp only [State.discardProtection]
  simp

@[simp] theorem State.returnToOperator_frame (s : State) :
    s.returnToOperator.pending = s.pending ∧ s.returnToOperator.clock = s.clock ∧
    s.returnToOperator.strap = s.strap ∧ s.returnToOperator.config = s.config ∧
    s.returnToOperator.image = s.image ∧ s.returnToOperator.seq = s.seq ∧
    s.returnToOperator.recoveredAtStart = s.recoveredAtStart ∧ s.returnToOperator.tanks = s.tanks ∧
    s.returnToOperator.supply = s.supply ∧ s.returnToOperator.store = s.store ∧ s.returnToOperator.link = s.link := by
  simp only [State.returnToOperator]
  simp

end Sys2Proof.Machine
end

