-- ==== Sys2Proof/Laws/FramesMatrix.lean ====
section
/-! SUPPORT. FramesMatrix.lean: what the interlock matrix's shared operations leave alone, one lemma per operation, over the parts of the
state it does not touch. -/

namespace Sys2Proof.Machine

@[simp] theorem State.abandonFill_frame (s : State) (st : ReportState) :
    (s.abandonFill st).pending = s.pending ∧ (s.abandonFill st).clock = s.clock ∧
    (s.abandonFill st).strap = s.strap ∧ (s.abandonFill st).config = s.config ∧
    (s.abandonFill st).image = s.image ∧ (s.abandonFill st).matrix = s.matrix ∧ (s.abandonFill st).seq = s.seq ∧
    (s.abandonFill st).recoveredAtStart = s.recoveredAtStart ∧ (s.abandonFill st).gov = s.gov ∧
    (s.abandonFill st).tanks = s.tanks ∧ (s.abandonFill st).store = s.store ∧ (s.abandonFill st).link = s.link := by
  simp only [State.abandonFill]
  repeat' split
  all_goals simp

@[simp] theorem State.judgeValve_frame (s : State) :
    s.judgeValve.pending = s.pending ∧ s.judgeValve.clock = s.clock ∧ s.judgeValve.strap = s.strap ∧
    s.judgeValve.config = s.config ∧ s.judgeValve.image = s.image ∧ s.judgeValve.matrix = s.matrix ∧
    s.judgeValve.seq = s.seq ∧ s.judgeValve.recoveredAtStart = s.recoveredAtStart ∧ s.judgeValve.gov = s.gov ∧
    s.judgeValve.tanks = s.tanks ∧ s.judgeValve.reports = s.reports ∧ s.judgeValve.store = s.store ∧
    s.judgeValve.link = s.link := by
  simp only [State.judgeValve]
  simp

@[simp] theorem State.dropChangeover_frame (s : State) :
    s.dropChangeover.pending = s.pending ∧ s.dropChangeover.clock = s.clock ∧ s.dropChangeover.strap = s.strap ∧
    s.dropChangeover.config = s.config ∧ s.dropChangeover.image = s.image ∧ s.dropChangeover.matrix = s.matrix ∧
    s.dropChangeover.seq = s.seq ∧ s.dropChangeover.recoveredAtStart = s.recoveredAtStart ∧
    s.dropChangeover.gov = s.gov ∧ s.dropChangeover.tanks = s.tanks ∧ s.dropChangeover.reports = s.reports ∧
    s.dropChangeover.store = s.store ∧ s.dropChangeover.link = s.link := by
  simp only [State.dropChangeover]
  simp

@[simp] theorem State.recomputePermit_frame (s : State) (p : Permit) :
    (s.recomputePermit p).pending = s.pending ∧ (s.recomputePermit p).clock = s.clock ∧
    (s.recomputePermit p).strap = s.strap ∧ (s.recomputePermit p).config = s.config ∧
    (s.recomputePermit p).image = s.image ∧ (s.recomputePermit p).seq = s.seq ∧
    (s.recomputePermit p).recoveredAtStart = s.recoveredAtStart ∧ (s.recomputePermit p).gov = s.gov ∧
    (s.recomputePermit p).tanks = s.tanks ∧ (s.recomputePermit p).supply = s.supply ∧
    (s.recomputePermit p).store = s.store ∧ (s.recomputePermit p).link = s.link := by
  simp only [State.recomputePermit]
  repeat' split
  all_goals simp

@[simp] theorem State.cutDemand_frame (s : State) (c : Nat) :
    (s.cutDemand c).pending = s.pending ∧ (s.cutDemand c).clock = s.clock ∧ (s.cutDemand c).strap = s.strap ∧
    (s.cutDemand c).config = s.config ∧ (s.cutDemand c).image = s.image ∧ (s.cutDemand c).matrix = s.matrix ∧
    (s.cutDemand c).seq = s.seq ∧ (s.cutDemand c).recoveredAtStart = s.recoveredAtStart ∧
    (s.cutDemand c).tanks = s.tanks ∧ (s.cutDemand c).supply = s.supply ∧ (s.cutDemand c).reports = s.reports ∧
    (s.cutDemand c).store = s.store ∧ (s.cutDemand c).link = s.link := by
  simp only [State.cutDemand]
  repeat' split
  all_goals simp

@[simp] theorem State.recomputeCap_frame (s : State) :
    s.recomputeCap.pending = s.pending ∧ s.recomputeCap.clock = s.clock ∧ s.recomputeCap.strap = s.strap ∧
    s.recomputeCap.config = s.config ∧ s.recomputeCap.image = s.image ∧ s.recomputeCap.seq = s.seq ∧
    s.recomputeCap.recoveredAtStart = s.recoveredAtStart ∧ s.recomputeCap.tanks = s.tanks ∧
    s.recomputeCap.supply = s.supply ∧ s.recomputeCap.reports = s.reports ∧ s.recomputeCap.store = s.store ∧
    s.recomputeCap.link = s.link := by
  simp only [State.recomputeCap]
  repeat' split
  all_goals simp

@[simp] theorem State.recomputePermits_frame (s : State) :
    s.recomputePermits.pending = s.pending ∧ s.recomputePermits.clock = s.clock ∧
    s.recomputePermits.strap = s.strap ∧ s.recomputePermits.config = s.config ∧
    s.recomputePermits.image = s.image ∧ s.recomputePermits.seq = s.seq ∧
    s.recomputePermits.recoveredAtStart = s.recoveredAtStart ∧ s.recomputePermits.tanks = s.tanks ∧
    s.recomputePermits.store = s.store ∧ s.recomputePermits.link = s.link := by
  simp only [State.recomputePermits, Permit.all, List.foldl]
  split
  all_goals simp

@[simp] theorem State.moveLock_frame (s : State) (i : EntryIx) (e : LockoutEntry) (n : LockState) :
    (s.moveLock i e n).pending = s.pending ∧ (s.moveLock i e n).clock = s.clock ∧
    (s.moveLock i e n).strap = s.strap ∧ (s.moveLock i e n).config = s.config ∧
    (s.moveLock i e n).image = s.image ∧ (s.moveLock i e n).seq = s.seq ∧
    (s.moveLock i e n).recoveredAtStart = s.recoveredAtStart ∧ (s.moveLock i e n).gov = s.gov ∧
    (s.moveLock i e n).tanks = s.tanks ∧ (s.moveLock i e n).supply = s.supply ∧
    (s.moveLock i e n).store = s.store ∧ (s.moveLock i e n).link = s.link := by
  simp only [State.moveLock]
  repeat' split
  all_goals simp

@[simp] theorem State.judgeLock_frame (s : State) (i : EntryIx) :
    (s.judgeLock i).pending = s.pending ∧ (s.judgeLock i).clock = s.clock ∧ (s.judgeLock i).strap = s.strap ∧
    (s.judgeLock i).config = s.config ∧ (s.judgeLock i).image = s.image ∧ (s.judgeLock i).seq = s.seq ∧
    (s.judgeLock i).recoveredAtStart = s.recoveredAtStart ∧ (s.judgeLock i).gov = s.gov ∧
    (s.judgeLock i).tanks = s.tanks ∧ (s.judgeLock i).supply = s.supply ∧ (s.judgeLock i).store = s.store ∧
    (s.judgeLock i).link = s.link := by
  simp only [State.judgeLock]
  repeat' split
  all_goals simp

@[simp] theorem State.judgeLocks_frame (s : State) (sel : LockCond → Bool) :
    (s.judgeLocks sel).pending = s.pending ∧ (s.judgeLocks sel).clock = s.clock ∧
    (s.judgeLocks sel).strap = s.strap ∧ (s.judgeLocks sel).config = s.config ∧
    (s.judgeLocks sel).image = s.image ∧ (s.judgeLocks sel).seq = s.seq ∧
    (s.judgeLocks sel).recoveredAtStart = s.recoveredAtStart ∧ (s.judgeLocks sel).gov = s.gov ∧
    (s.judgeLocks sel).tanks = s.tanks ∧ (s.judgeLocks sel).supply = s.supply ∧
    (s.judgeLocks sel).store = s.store ∧ (s.judgeLocks sel).link = s.link := by
  unfold State.judgeLocks
  refine foldl_keeps (fun t : State => t.pending = s.pending ∧ t.clock = s.clock ∧ t.strap = s.strap ∧ t.config = s.config ∧ t.image = s.image ∧ t.seq = s.seq ∧ t.recoveredAtStart = s.recoveredAtStart ∧ t.gov = s.gov ∧ t.tanks = s.tanks ∧ t.supply = s.supply ∧ t.store = s.store ∧ t.link = s.link) _ _ s (by simp) ?_
  intro t i h
  repeat' split
  all_goals simpa using h

@[simp] theorem State.matrixJudge_frame (s : State) (sel : LockCond → Bool) :
    (s.matrixJudge sel).pending = s.pending ∧ (s.matrixJudge sel).clock = s.clock ∧
    (s.matrixJudge sel).strap = s.strap ∧ (s.matrixJudge sel).config = s.config ∧
    (s.matrixJudge sel).image = s.image ∧ (s.matrixJudge sel).seq = s.seq ∧
    (s.matrixJudge sel).recoveredAtStart = s.recoveredAtStart ∧ (s.matrixJudge sel).tanks = s.tanks ∧
    (s.matrixJudge sel).store = s.store ∧ (s.matrixJudge sel).link = s.link := by
  simp only [State.matrixJudge]
  simp

@[simp] theorem State.matrixRecompute_frame (s : State) :
    s.matrixRecompute.pending = s.pending ∧ s.matrixRecompute.clock = s.clock ∧
    s.matrixRecompute.strap = s.strap ∧ s.matrixRecompute.config = s.config ∧
    s.matrixRecompute.image = s.image ∧ s.matrixRecompute.seq = s.seq ∧
    s.matrixRecompute.recoveredAtStart = s.recoveredAtStart ∧ s.matrixRecompute.tanks = s.tanks ∧
    s.matrixRecompute.store = s.store ∧ s.matrixRecompute.link = s.link := by
  simp only [State.matrixRecompute]
  simp

@[simp] theorem State.clearOverspeed_frame (s : State) :
    s.clearOverspeed.pending = s.pending ∧ s.clearOverspeed.clock = s.clock ∧ s.clearOverspeed.strap = s.strap ∧
    s.clearOverspeed.config = s.config ∧ s.clearOverspeed.image = s.image ∧ s.clearOverspeed.seq = s.seq ∧
    s.clearOverspeed.recoveredAtStart = s.recoveredAtStart ∧ s.clearOverspeed.gov = s.gov ∧
    s.clearOverspeed.tanks = s.tanks ∧ s.clearOverspeed.supply = s.supply ∧ s.clearOverspeed.store = s.store ∧
    s.clearOverspeed.link = s.link := by
  simp only [State.clearOverspeed]
  repeat' split
  all_goals simp

@[simp] theorem State.setMode_frame (s : State) (m : AppMode) :
    (s.setMode m).pending = s.pending ∧ (s.setMode m).clock = s.clock ∧ (s.setMode m).strap = s.strap ∧
    (s.setMode m).config = s.config ∧ (s.setMode m).image = s.image ∧ (s.setMode m).seq = s.seq ∧
    (s.setMode m).recoveredAtStart = s.recoveredAtStart ∧ (s.setMode m).gov = s.gov ∧
    (s.setMode m).tanks = s.tanks ∧ (s.setMode m).supply = s.supply ∧ (s.setMode m).store = s.store ∧
    (s.setMode m).link = s.link := by
  simp only [State.setMode]
  repeat' split
  all_goals simp

@[simp] theorem State.handMode_frame (s : State) :
    s.handMode.pending = s.pending ∧ s.handMode.clock = s.clock ∧ s.handMode.strap = s.strap ∧
    s.handMode.config = s.config ∧ s.handMode.image = s.image ∧ s.handMode.matrix = s.matrix ∧
    s.handMode.seq = s.seq ∧ s.handMode.recoveredAtStart = s.recoveredAtStart ∧ s.handMode.tanks = s.tanks ∧
    s.handMode.reports = s.reports ∧ s.handMode.store = s.store ∧ s.handMode.link = s.link := by
  simp only [State.handMode]
  repeat' split
  all_goals simp

@[simp] theorem State.enterMode_frame (s : State) (m : AppMode) :
    (s.enterMode m).pending = s.pending ∧ (s.enterMode m).clock = s.clock ∧ (s.enterMode m).strap = s.strap ∧
    (s.enterMode m).config = s.config ∧ (s.enterMode m).image = s.image ∧ (s.enterMode m).seq = s.seq ∧
    (s.enterMode m).recoveredAtStart = s.recoveredAtStart ∧ (s.enterMode m).tanks = s.tanks ∧
    (s.enterMode m).store = s.store ∧ (s.enterMode m).link = s.link := by
  simp only [State.enterMode]
  repeat' split
  all_goals simp

@[simp] theorem State.matrixTake_frame (s : State) :
    s.matrixTake.pending = s.pending ∧ s.matrixTake.clock = s.clock ∧ s.matrixTake.strap = s.strap ∧
    s.matrixTake.config = s.config ∧ s.matrixTake.image = s.image ∧ s.matrixTake.seq = s.seq ∧
    s.matrixTake.recoveredAtStart = s.recoveredAtStart ∧ s.matrixTake.tanks = s.tanks ∧
    s.matrixTake.store = s.store ∧ s.matrixTake.link = s.link := by
  simp only [State.matrixTake]
  repeat' split
  all_goals simp

@[simp] theorem State.judgeRoll_frame (s : State) :
    s.judgeRoll.pending = s.pending ∧ s.judgeRoll.clock = s.clock ∧ s.judgeRoll.strap = s.strap ∧
    s.judgeRoll.config = s.config ∧ s.judgeRoll.image = s.image ∧ s.judgeRoll.seq = s.seq ∧
    s.judgeRoll.recoveredAtStart = s.recoveredAtStart ∧ s.judgeRoll.gov = s.gov ∧ s.judgeRoll.tanks = s.tanks ∧
    s.judgeRoll.supply = s.supply ∧ s.judgeRoll.reports = s.reports ∧ s.judgeRoll.store = s.store ∧
    s.judgeRoll.link = s.link := by
  simp only [State.judgeRoll]
  simp

@[simp] theorem State.judgeOverspeed_frame (s : State) :
    s.judgeOverspeed.pending = s.pending ∧ s.judgeOverspeed.clock = s.clock ∧ s.judgeOverspeed.strap = s.strap ∧
    s.judgeOverspeed.config = s.config ∧ s.judgeOverspeed.image = s.image ∧ s.judgeOverspeed.seq = s.seq ∧
    s.judgeOverspeed.recoveredAtStart = s.recoveredAtStart ∧ s.judgeOverspeed.gov = s.gov ∧
    s.judgeOverspeed.tanks = s.tanks ∧ s.judgeOverspeed.supply = s.supply ∧ s.judgeOverspeed.store = s.store ∧
    s.judgeOverspeed.link = s.link := by
  simp only [State.judgeOverspeed]
  repeat' split
  all_goals simp

end Sys2Proof.Machine
end

