-- ==== Sys2Proof/Laws/FramesSequencer.lean ====
section
/-! SUPPORT. FramesSequencer.lean: what the sequencer's shared operations leave alone, one lemma per operation, over the parts of the
state it does not touch. -/

namespace Sys2Proof.Machine

@[simp] theorem State.reportStep_frame (s : State) :
    s.reportStep.pending = s.pending ∧ s.reportStep.clock = s.clock ∧ s.reportStep.strap = s.strap ∧
    s.reportStep.config = s.config ∧ s.reportStep.image = s.image ∧ s.reportStep.matrix = s.matrix ∧
    s.reportStep.seq = s.seq ∧ s.reportStep.recoveredAtStart = s.recoveredAtStart ∧ s.reportStep.gov = s.gov ∧
    s.reportStep.tanks = s.tanks ∧ s.reportStep.supply = s.supply ∧ s.reportStep.store = s.store ∧
    s.reportStep.link = s.link := by
  simp only [State.reportStep]
  simp

@[simp] theorem State.reportFault_frame (s : State) (f : SeqFault) (v : List Byte) :
    (s.reportFault f v).pending = s.pending ∧ (s.reportFault f v).clock = s.clock ∧
    (s.reportFault f v).strap = s.strap ∧ (s.reportFault f v).config = s.config ∧
    (s.reportFault f v).image = s.image ∧ (s.reportFault f v).matrix = s.matrix ∧
    (s.reportFault f v).seq = s.seq ∧ (s.reportFault f v).recoveredAtStart = s.recoveredAtStart ∧
    (s.reportFault f v).gov = s.gov ∧ (s.reportFault f v).tanks = s.tanks ∧
    (s.reportFault f v).supply = s.supply ∧ (s.reportFault f v).store = s.store ∧
    (s.reportFault f v).link = s.link := by
  simp only [State.reportFault]
  simp

@[simp] theorem State.setSeq_frame (s : State) (q : Sequencer) :
    (s.setSeq q).pending = s.pending ∧ (s.setSeq q).clock = s.clock ∧ (s.setSeq q).strap = s.strap ∧
    (s.setSeq q).config = s.config ∧ (s.setSeq q).image = s.image ∧ (s.setSeq q).matrix = s.matrix ∧
    (s.setSeq q).recoveredAtStart = s.recoveredAtStart ∧ (s.setSeq q).gov = s.gov ∧
    (s.setSeq q).tanks = s.tanks ∧ (s.setSeq q).supply = s.supply ∧ (s.setSeq q).store = s.store ∧
    (s.setSeq q).link = s.link := by
  simp only [State.setSeq]
  simp

@[simp] theorem State.endSupply_frame (s : State) :
    s.endSupply.pending = s.pending ∧ s.endSupply.clock = s.clock ∧ s.endSupply.strap = s.strap ∧
    s.endSupply.config = s.config ∧ s.endSupply.image = s.image ∧ s.endSupply.matrix = s.matrix ∧
    s.endSupply.seq = s.seq ∧ s.endSupply.recoveredAtStart = s.recoveredAtStart ∧ s.endSupply.gov = s.gov ∧
    s.endSupply.tanks = s.tanks ∧ s.endSupply.reports = s.reports ∧ s.endSupply.store = s.store ∧
    s.endSupply.link = s.link := by
  simp only [State.endSupply]
  simp

@[simp] theorem State.enterIdle_frame (s : State) :
    s.enterIdle.pending = s.pending ∧ s.enterIdle.clock = s.clock ∧ s.enterIdle.strap = s.strap ∧
    s.enterIdle.config = s.config ∧ s.enterIdle.image = s.image ∧
    s.enterIdle.recoveredAtStart = s.recoveredAtStart ∧ s.enterIdle.tanks = s.tanks ∧
    s.enterIdle.store = s.store ∧ s.enterIdle.link = s.link := by
  simp only [State.enterIdle]
  simp

@[simp] theorem State.enterHeldTimeout_frame (s : State) :
    s.enterHeldTimeout.pending = s.pending ∧ s.enterHeldTimeout.clock = s.clock ∧
    s.enterHeldTimeout.strap = s.strap ∧ s.enterHeldTimeout.config = s.config ∧
    s.enterHeldTimeout.image = s.image ∧ s.enterHeldTimeout.recoveredAtStart = s.recoveredAtStart ∧
    s.enterHeldTimeout.tanks = s.tanks ∧ s.enterHeldTimeout.store = s.store ∧ s.enterHeldTimeout.link = s.link := by
  simp only [State.enterHeldTimeout]
  simp

@[simp] theorem State.judgeRoadShift_frame (s : State) :
    s.judgeRoadShift.pending = s.pending ∧ s.judgeRoadShift.clock = s.clock ∧ s.judgeRoadShift.strap = s.strap ∧
    s.judgeRoadShift.config = s.config ∧ s.judgeRoadShift.image = s.image ∧
    s.judgeRoadShift.recoveredAtStart = s.recoveredAtStart ∧ s.judgeRoadShift.tanks = s.tanks ∧
    s.judgeRoadShift.store = s.store ∧ s.judgeRoadShift.link = s.link := by
  simp only [State.judgeRoadShift]
  repeat' split
  all_goals simp

@[simp] theorem State.enterReleasingClutch_frame (s : State) :
    s.enterReleasingClutch.pending = s.pending ∧ s.enterReleasingClutch.clock = s.clock ∧
    s.enterReleasingClutch.strap = s.strap ∧ s.enterReleasingClutch.config = s.config ∧
    s.enterReleasingClutch.image = s.image ∧ s.enterReleasingClutch.recoveredAtStart = s.recoveredAtStart ∧
    s.enterReleasingClutch.tanks = s.tanks ∧ s.enterReleasingClutch.store = s.store ∧
    s.enterReleasingClutch.link = s.link := by
  simp only [State.enterReleasingClutch]
  repeat' split
  all_goals simp

@[simp] theorem State.enterReleasingSplit_frame (s : State) :
    s.enterReleasingSplit.pending = s.pending ∧ s.enterReleasingSplit.clock = s.clock ∧
    s.enterReleasingSplit.strap = s.strap ∧ s.enterReleasingSplit.config = s.config ∧
    s.enterReleasingSplit.image = s.image ∧ s.enterReleasingSplit.recoveredAtStart = s.recoveredAtStart ∧
    s.enterReleasingSplit.tanks = s.tanks ∧ s.enterReleasingSplit.store = s.store ∧
    s.enterReleasingSplit.link = s.link := by
  simp only [State.enterReleasingSplit]
  repeat' split
  all_goals simp

@[simp] theorem State.enterReleasing_frame (s : State) :
    s.enterReleasing.pending = s.pending ∧ s.enterReleasing.clock = s.clock ∧ s.enterReleasing.strap = s.strap ∧
    s.enterReleasing.config = s.config ∧ s.enterReleasing.image = s.image ∧
    s.enterReleasing.recoveredAtStart = s.recoveredAtStart ∧ s.enterReleasing.tanks = s.tanks ∧
    s.enterReleasing.store = s.store ∧ s.enterReleasing.link = s.link := by
  simp only [State.enterReleasing]
  repeat' split
  all_goals simp

@[simp] theorem State.judgeIdlingDown_frame (s : State) :
    s.judgeIdlingDown.pending = s.pending ∧ s.judgeIdlingDown.clock = s.clock ∧
    s.judgeIdlingDown.strap = s.strap ∧ s.judgeIdlingDown.config = s.config ∧
    s.judgeIdlingDown.image = s.image ∧ s.judgeIdlingDown.recoveredAtStart = s.recoveredAtStart ∧
    s.judgeIdlingDown.tanks = s.tanks ∧ s.judgeIdlingDown.store = s.store ∧ s.judgeIdlingDown.link = s.link := by
  simp only [State.judgeIdlingDown]
  repeat' split
  all_goals simp

@[simp] theorem State.enterIdlingDown_frame (s : State) (r : SeqReason) :
    (s.enterIdlingDown r).pending = s.pending ∧ (s.enterIdlingDown r).clock = s.clock ∧
    (s.enterIdlingDown r).strap = s.strap ∧ (s.enterIdlingDown r).config = s.config ∧
    (s.enterIdlingDown r).image = s.image ∧ (s.enterIdlingDown r).recoveredAtStart = s.recoveredAtStart ∧
    (s.enterIdlingDown r).tanks = s.tanks ∧ (s.enterIdlingDown r).store = s.store ∧
    (s.enterIdlingDown r).link = s.link := by
  simp only [State.enterIdlingDown]
  simp

@[simp] theorem State.faultToIdlingDown_frame (s : State) (f : SeqFault) (r : SeqReason) :
    (s.faultToIdlingDown f r).pending = s.pending ∧ (s.faultToIdlingDown f r).clock = s.clock ∧
    (s.faultToIdlingDown f r).strap = s.strap ∧ (s.faultToIdlingDown f r).config = s.config ∧
    (s.faultToIdlingDown f r).image = s.image ∧
    (s.faultToIdlingDown f r).recoveredAtStart = s.recoveredAtStart ∧
    (s.faultToIdlingDown f r).tanks = s.tanks ∧ (s.faultToIdlingDown f r).store = s.store ∧
    (s.faultToIdlingDown f r).link = s.link := by
  simp only [State.faultToIdlingDown]
  simp

@[simp] theorem State.enterShifting_frame (s : State) :
    s.enterShifting.pending = s.pending ∧ s.enterShifting.clock = s.clock ∧ s.enterShifting.strap = s.strap ∧
    s.enterShifting.config = s.config ∧ s.enterShifting.image = s.image ∧
    s.enterShifting.recoveredAtStart = s.recoveredAtStart ∧ s.enterShifting.tanks = s.tanks ∧
    s.enterShifting.store = s.store ∧ s.enterShifting.link = s.link := by
  simp only [State.enterShifting]
  simp

@[simp] theorem State.enterClutching_frame (s : State) :
    s.enterClutching.pending = s.pending ∧ s.enterClutching.clock = s.clock ∧ s.enterClutching.strap = s.strap ∧
    s.enterClutching.config = s.config ∧ s.enterClutching.image = s.image ∧
    s.enterClutching.recoveredAtStart = s.recoveredAtStart ∧ s.enterClutching.tanks = s.tanks ∧
    s.enterClutching.store = s.store ∧ s.enterClutching.link = s.link := by
  simp only [State.enterClutching]
  simp

@[simp] theorem State.enterAwaitConfirm_frame (s : State) :
    s.enterAwaitConfirm.pending = s.pending ∧ s.enterAwaitConfirm.clock = s.clock ∧
    s.enterAwaitConfirm.strap = s.strap ∧ s.enterAwaitConfirm.config = s.config ∧
    s.enterAwaitConfirm.image = s.image ∧ s.enterAwaitConfirm.recoveredAtStart = s.recoveredAtStart ∧
    s.enterAwaitConfirm.tanks = s.tanks ∧ s.enterAwaitConfirm.store = s.store ∧
    s.enterAwaitConfirm.link = s.link := by
  simp only [State.enterAwaitConfirm]
  simp

@[simp] theorem State.enterAwaitRange_frame (s : State) :
    s.enterAwaitRange.pending = s.pending ∧ s.enterAwaitRange.clock = s.clock ∧
    s.enterAwaitRange.strap = s.strap ∧ s.enterAwaitRange.config = s.config ∧
    s.enterAwaitRange.image = s.image ∧ s.enterAwaitRange.recoveredAtStart = s.recoveredAtStart ∧
    s.enterAwaitRange.tanks = s.tanks ∧ s.enterAwaitRange.store = s.store ∧ s.enterAwaitRange.link = s.link := by
  simp only [State.enterAwaitRange]
  repeat' split
  all_goals simp

@[simp] theorem State.clearFeedbackLost_frame (s : State) :
    s.clearFeedbackLost.pending = s.pending ∧ s.clearFeedbackLost.clock = s.clock ∧
    s.clearFeedbackLost.strap = s.strap ∧ s.clearFeedbackLost.config = s.config ∧
    s.clearFeedbackLost.image = s.image ∧ s.clearFeedbackLost.matrix = s.matrix ∧
    s.clearFeedbackLost.seq = s.seq ∧ s.clearFeedbackLost.recoveredAtStart = s.recoveredAtStart ∧
    s.clearFeedbackLost.gov = s.gov ∧ s.clearFeedbackLost.tanks = s.tanks ∧
    s.clearFeedbackLost.supply = s.supply ∧ s.clearFeedbackLost.store = s.store ∧
    s.clearFeedbackLost.link = s.link := by
  simp only [State.clearFeedbackLost]
  repeat' split
  all_goals simp

@[simp] theorem State.enterEngaged_frame (s : State) :
    s.enterEngaged.pending = s.pending ∧ s.enterEngaged.clock = s.clock ∧ s.enterEngaged.strap = s.strap ∧
    s.enterEngaged.config = s.config ∧ s.enterEngaged.image = s.image ∧
    s.enterEngaged.recoveredAtStart = s.recoveredAtStart ∧ s.enterEngaged.tanks = s.tanks ∧
    s.enterEngaged.store = s.store ∧ s.enterEngaged.link = s.link := by
  simp only [State.enterEngaged]
  simp

@[simp] theorem State.enterHeldFeedback_frame (s : State) :
    s.enterHeldFeedback.pending = s.pending ∧ s.enterHeldFeedback.clock = s.clock ∧
    s.enterHeldFeedback.strap = s.strap ∧ s.enterHeldFeedback.config = s.config ∧
    s.enterHeldFeedback.image = s.image ∧ s.enterHeldFeedback.recoveredAtStart = s.recoveredAtStart ∧
    s.enterHeldFeedback.tanks = s.tanks ∧ s.enterHeldFeedback.store = s.store ∧
    s.enterHeldFeedback.link = s.link := by
  simp only [State.enterHeldFeedback]
  simp

@[simp] theorem State.seqLineChange_frame (s : State) (l : Line) :
    (s.seqLineChange l).pending = s.pending ∧ (s.seqLineChange l).clock = s.clock ∧
    (s.seqLineChange l).strap = s.strap ∧ (s.seqLineChange l).config = s.config ∧
    (s.seqLineChange l).image = s.image ∧ (s.seqLineChange l).recoveredAtStart = s.recoveredAtStart ∧
    (s.seqLineChange l).tanks = s.tanks ∧ (s.seqLineChange l).store = s.store ∧
    (s.seqLineChange l).link = s.link := by
  simp only [State.seqLineChange]
  repeat' split
  all_goals simp

@[simp] theorem State.seqEngineGate_frame (s : State) :
    s.seqEngineGate.pending = s.pending ∧ s.seqEngineGate.clock = s.clock ∧ s.seqEngineGate.strap = s.strap ∧
    s.seqEngineGate.config = s.config ∧ s.seqEngineGate.image = s.image ∧
    s.seqEngineGate.recoveredAtStart = s.recoveredAtStart ∧ s.seqEngineGate.tanks = s.tanks ∧
    s.seqEngineGate.store = s.store ∧ s.seqEngineGate.link = s.link := by
  simp only [State.seqEngineGate]
  repeat' split
  all_goals simp

@[simp] theorem State.seqRoadGate_frame (s : State) (b : Bool) :
    (s.seqRoadGate b).pending = s.pending ∧ (s.seqRoadGate b).clock = s.clock ∧
    (s.seqRoadGate b).strap = s.strap ∧ (s.seqRoadGate b).config = s.config ∧
    (s.seqRoadGate b).image = s.image ∧ (s.seqRoadGate b).recoveredAtStart = s.recoveredAtStart ∧
    (s.seqRoadGate b).tanks = s.tanks ∧ (s.seqRoadGate b).store = s.store ∧ (s.seqRoadGate b).link = s.link := by
  simp only [State.seqRoadGate]
  repeat' split
  all_goals simp

@[simp] theorem State.windowExpiry_frame (s : State) (st : SeqState) (w : StepWindow) (f : SeqFault) :
    (s.windowExpiry st w f).pending = s.pending ∧ (s.windowExpiry st w f).clock = s.clock ∧
    (s.windowExpiry st w f).strap = s.strap ∧ (s.windowExpiry st w f).config = s.config ∧
    (s.windowExpiry st w f).image = s.image ∧ (s.windowExpiry st w f).recoveredAtStart = s.recoveredAtStart ∧
    (s.windowExpiry st w f).tanks = s.tanks ∧ (s.windowExpiry st w f).store = s.store ∧
    (s.windowExpiry st w f).link = s.link := by
  simp only [State.windowExpiry]
  repeat' split
  all_goals simp

@[simp] theorem State.stopStepTimer_frame (s : State) :
    s.stopStepTimer.pending = s.pending ∧ s.stopStepTimer.clock = s.clock ∧ s.stopStepTimer.strap = s.strap ∧
    s.stopStepTimer.config = s.config ∧ s.stopStepTimer.image = s.image ∧ s.stopStepTimer.matrix = s.matrix ∧
    s.stopStepTimer.recoveredAtStart = s.recoveredAtStart ∧ s.stopStepTimer.gov = s.gov ∧
    s.stopStepTimer.tanks = s.tanks ∧ s.stopStepTimer.supply = s.supply ∧ s.stopStepTimer.reports = s.reports ∧
    s.stopStepTimer.store = s.store ∧ s.stopStepTimer.link = s.link := by
  simp only [State.stopStepTimer]
  simp

@[simp] theorem State.idleDownExpiry_frame (s : State) :
    s.idleDownExpiry.pending = s.pending ∧ s.idleDownExpiry.clock = s.clock ∧ s.idleDownExpiry.strap = s.strap ∧
    s.idleDownExpiry.config = s.config ∧ s.idleDownExpiry.image = s.image ∧ s.idleDownExpiry.matrix = s.matrix ∧
    s.idleDownExpiry.recoveredAtStart = s.recoveredAtStart ∧ s.idleDownExpiry.gov = s.gov ∧
    s.idleDownExpiry.tanks = s.tanks ∧ s.idleDownExpiry.supply = s.supply ∧ s.idleDownExpiry.store = s.store ∧
    s.idleDownExpiry.link = s.link := by
  simp only [State.idleDownExpiry]
  repeat' split
  all_goals simp

@[simp] theorem State.neutralExpiry_frame (s : State) :
    s.neutralExpiry.pending = s.pending ∧ s.neutralExpiry.clock = s.clock ∧ s.neutralExpiry.strap = s.strap ∧
    s.neutralExpiry.config = s.config ∧ s.neutralExpiry.image = s.image ∧ s.neutralExpiry.matrix = s.matrix ∧
    s.neutralExpiry.recoveredAtStart = s.recoveredAtStart ∧ s.neutralExpiry.gov = s.gov ∧
    s.neutralExpiry.tanks = s.tanks ∧ s.neutralExpiry.supply = s.supply ∧ s.neutralExpiry.store = s.store ∧
    s.neutralExpiry.link = s.link := by
  simp only [State.neutralExpiry]
  repeat' split
  all_goals simp

@[simp] theorem State.releaseExpiry_frame (s : State) :
    s.releaseExpiry.pending = s.pending ∧ s.releaseExpiry.clock = s.clock ∧ s.releaseExpiry.strap = s.strap ∧
    s.releaseExpiry.config = s.config ∧ s.releaseExpiry.image = s.image ∧
    s.releaseExpiry.recoveredAtStart = s.recoveredAtStart ∧ s.releaseExpiry.tanks = s.tanks ∧
    s.releaseExpiry.store = s.store ∧ s.releaseExpiry.link = s.link := by
  simp only [State.releaseExpiry]
  repeat' split
  all_goals simp

end Sys2Proof.Machine
end

