-- ==== Sys2Proof/Laws/FramesTank.lean ====
section
/-! SUPPORT. FramesTank.lean: what the tank and supply unit's shared operations leave alone, one lemma per operation, over the parts of the
state it does not touch. -/

namespace Sys2Proof.Machine

@[simp] theorem State.setTank_frame (s : State) (t : TankIx) (r : TankRun) :
    (s.setTank t r).pending = s.pending ∧ (s.setTank t r).clock = s.clock ∧ (s.setTank t r).strap = s.strap ∧
    (s.setTank t r).config = s.config ∧ (s.setTank t r).image = s.image ∧ (s.setTank t r).matrix = s.matrix ∧
    (s.setTank t r).seq = s.seq ∧ (s.setTank t r).recoveredAtStart = s.recoveredAtStart ∧
    (s.setTank t r).gov = s.gov ∧ (s.setTank t r).supply = s.supply ∧ (s.setTank t r).reports = s.reports ∧
    (s.setTank t r).store = s.store ∧ (s.setTank t r).link = s.link := by
  simp only [State.setTank]
  simp

@[simp] theorem State.reportBand_frame (s : State) (t : TankIx) (b : Band) :
    (s.reportBand t b).pending = s.pending ∧ (s.reportBand t b).clock = s.clock ∧
    (s.reportBand t b).strap = s.strap ∧ (s.reportBand t b).config = s.config ∧
    (s.reportBand t b).image = s.image ∧ (s.reportBand t b).matrix = s.matrix ∧ (s.reportBand t b).seq = s.seq ∧
    (s.reportBand t b).recoveredAtStart = s.recoveredAtStart ∧ (s.reportBand t b).gov = s.gov ∧
    (s.reportBand t b).tanks = s.tanks ∧ (s.reportBand t b).supply = s.supply ∧
    (s.reportBand t b).store = s.store ∧ (s.reportBand t b).link = s.link := by
  simp only [State.reportBand]
  simp

@[simp] theorem State.evalBand_frame (s : State) (t : TankIx) :
    (s.evalBand t).pending = s.pending ∧ (s.evalBand t).clock = s.clock ∧ (s.evalBand t).strap = s.strap ∧
    (s.evalBand t).config = s.config ∧ (s.evalBand t).image = s.image ∧ (s.evalBand t).matrix = s.matrix ∧
    (s.evalBand t).seq = s.seq ∧ (s.evalBand t).recoveredAtStart = s.recoveredAtStart ∧
    (s.evalBand t).gov = s.gov ∧ (s.evalBand t).supply = s.supply ∧ (s.evalBand t).store = s.store ∧
    (s.evalBand t).link = s.link := by
  simp only [State.evalBand]
  repeat' split
  all_goals simp

@[simp] theorem State.handTank_frame (s : State) (t : TankIx) (b : TankRun) :
    (s.handTank t b).pending = s.pending ∧ (s.handTank t b).clock = s.clock ∧ (s.handTank t b).strap = s.strap ∧
    (s.handTank t b).config = s.config ∧ (s.handTank t b).image = s.image ∧ (s.handTank t b).seq = s.seq ∧
    (s.handTank t b).recoveredAtStart = s.recoveredAtStart ∧ (s.handTank t b).tanks = s.tanks ∧
    (s.handTank t b).store = s.store ∧ (s.handTank t b).link = s.link := by
  simp only [State.handTank]
  repeat' split
  all_goals simp

@[simp] theorem State.enterTravel_frame (s : State) (t : TankIx) :
    (s.enterTravel t).pending = s.pending ∧ (s.enterTravel t).clock = s.clock ∧
    (s.enterTravel t).strap = s.strap ∧ (s.enterTravel t).config = s.config ∧
    (s.enterTravel t).image = s.image ∧ (s.enterTravel t).seq = s.seq ∧
    (s.enterTravel t).recoveredAtStart = s.recoveredAtStart ∧ (s.enterTravel t).store = s.store ∧
    (s.enterTravel t).link = s.link := by
  simp only [State.enterTravel]
  repeat' split
  all_goals simp

@[simp] theorem State.enterSettling_frame (s : State) (t : TankIx) :
    (s.enterSettling t).pending = s.pending ∧ (s.enterSettling t).clock = s.clock ∧
    (s.enterSettling t).strap = s.strap ∧ (s.enterSettling t).config = s.config ∧
    (s.enterSettling t).image = s.image ∧ (s.enterSettling t).matrix = s.matrix ∧
    (s.enterSettling t).seq = s.seq ∧ (s.enterSettling t).recoveredAtStart = s.recoveredAtStart ∧
    (s.enterSettling t).gov = s.gov ∧ (s.enterSettling t).supply = s.supply ∧
    (s.enterSettling t).reports = s.reports ∧ (s.enterSettling t).store = s.store ∧
    (s.enterSettling t).link = s.link := by
  simp only [State.enterSettling]
  repeat' split
  all_goals simp

@[simp] theorem State.reconcile_frame (s : State) (t : TankIx) (v : Nat) :
    (s.reconcile t v).pending = s.pending ∧ (s.reconcile t v).clock = s.clock ∧
    (s.reconcile t v).strap = s.strap ∧ (s.reconcile t v).config = s.config ∧
    (s.reconcile t v).image = s.image ∧ (s.reconcile t v).matrix = s.matrix ∧ (s.reconcile t v).seq = s.seq ∧
    (s.reconcile t v).recoveredAtStart = s.recoveredAtStart ∧ (s.reconcile t v).gov = s.gov ∧
    (s.reconcile t v).supply = s.supply ∧ (s.reconcile t v).store = s.store ∧ (s.reconcile t v).link = s.link := by
  simp only [State.reconcile]
  simp

@[simp] theorem State.judgeRise_frame (s : State) :
    s.judgeRise.pending = s.pending ∧ s.judgeRise.clock = s.clock ∧ s.judgeRise.strap = s.strap ∧
    s.judgeRise.config = s.config ∧ s.judgeRise.image = s.image ∧ s.judgeRise.matrix = s.matrix ∧
    s.judgeRise.seq = s.seq ∧ s.judgeRise.recoveredAtStart = s.recoveredAtStart ∧ s.judgeRise.gov = s.gov ∧
    s.judgeRise.tanks = s.tanks ∧ s.judgeRise.reports = s.reports ∧ s.judgeRise.store = s.store ∧
    s.judgeRise.link = s.link := by
  simp only [State.judgeRise]
  repeat' split
  all_goals simp

@[simp] theorem State.judgeFillDone_frame (s : State) :
    s.judgeFillDone.pending = s.pending ∧ s.judgeFillDone.clock = s.clock ∧ s.judgeFillDone.strap = s.strap ∧
    s.judgeFillDone.config = s.config ∧ s.judgeFillDone.image = s.image ∧ s.judgeFillDone.matrix = s.matrix ∧
    s.judgeFillDone.seq = s.seq ∧ s.judgeFillDone.recoveredAtStart = s.recoveredAtStart ∧
    s.judgeFillDone.gov = s.gov ∧ s.judgeFillDone.tanks = s.tanks ∧ s.judgeFillDone.store = s.store ∧
    s.judgeFillDone.link = s.link := by
  simp only [State.judgeFillDone]
  repeat' split
  all_goals simp

@[simp] theorem State.settleVolume_frame (s : State) (t : TankIx) :
    (s.settleVolume t).pending = s.pending ∧ (s.settleVolume t).clock = s.clock ∧
    (s.settleVolume t).strap = s.strap ∧ (s.settleVolume t).config = s.config ∧
    (s.settleVolume t).image = s.image ∧ (s.settleVolume t).matrix = s.matrix ∧ (s.settleVolume t).seq = s.seq ∧
    (s.settleVolume t).recoveredAtStart = s.recoveredAtStart ∧ (s.settleVolume t).gov = s.gov ∧
    (s.settleVolume t).supply = s.supply ∧ (s.settleVolume t).store = s.store ∧ (s.settleVolume t).link = s.link := by
  simp only [State.settleVolume]
  repeat' split
  all_goals simp

@[simp] theorem State.tankUpdate_frame (s : State) (t : TankIx) :
    (s.tankUpdate t).pending = s.pending ∧ (s.tankUpdate t).clock = s.clock ∧ (s.tankUpdate t).strap = s.strap ∧
    (s.tankUpdate t).config = s.config ∧ (s.tankUpdate t).image = s.image ∧ (s.tankUpdate t).seq = s.seq ∧
    (s.tankUpdate t).recoveredAtStart = s.recoveredAtStart ∧ (s.tankUpdate t).store = s.store ∧
    (s.tankUpdate t).link = s.link := by
  simp only [State.tankUpdate]
  repeat' split
  all_goals simp

@[simp] theorem State.settleExpiry_frame (s : State) (t : TankIx) :
    (s.settleExpiry t).pending = s.pending ∧ (s.settleExpiry t).clock = s.clock ∧
    (s.settleExpiry t).strap = s.strap ∧ (s.settleExpiry t).config = s.config ∧
    (s.settleExpiry t).image = s.image ∧ (s.settleExpiry t).seq = s.seq ∧
    (s.settleExpiry t).recoveredAtStart = s.recoveredAtStart ∧ (s.settleExpiry t).store = s.store ∧
    (s.settleExpiry t).link = s.link := by
  simp only [State.settleExpiry]
  repeat' split
  all_goals simp

@[simp] theorem State.restartTank_frame (s : State) (t : TankIx) :
    (s.restartTank t).pending = s.pending ∧ (s.restartTank t).clock = s.clock ∧
    (s.restartTank t).strap = s.strap ∧ (s.restartTank t).config = s.config ∧
    (s.restartTank t).image = s.image ∧ (s.restartTank t).seq = s.seq ∧
    (s.restartTank t).recoveredAtStart = s.recoveredAtStart ∧ (s.restartTank t).store = s.store ∧
    (s.restartTank t).link = s.link := by
  simp only [State.restartTank]
  repeat' split
  all_goals simp

@[simp] theorem State.ownSource_frame (s : State) (w : WaterSource) :
    (s.ownSource w).pending = s.pending ∧ (s.ownSource w).clock = s.clock ∧ (s.ownSource w).strap = s.strap ∧
    (s.ownSource w).config = s.config ∧ (s.ownSource w).image = s.image ∧ (s.ownSource w).matrix = s.matrix ∧
    (s.ownSource w).seq = s.seq ∧ (s.ownSource w).recoveredAtStart = s.recoveredAtStart ∧
    (s.ownSource w).gov = s.gov ∧ (s.ownSource w).tanks = s.tanks ∧ (s.ownSource w).reports = s.reports ∧
    (s.ownSource w).store = s.store ∧ (s.ownSource w).link = s.link := by
  simp only [State.ownSource]
  simp

@[simp] theorem State.handSource_frame (s : State) :
    s.handSource.pending = s.pending ∧ s.handSource.clock = s.clock ∧ s.handSource.strap = s.strap ∧
    s.handSource.config = s.config ∧ s.handSource.image = s.image ∧ s.handSource.seq = s.seq ∧
    s.handSource.recoveredAtStart = s.recoveredAtStart ∧ s.handSource.tanks = s.tanks ∧
    s.handSource.store = s.store ∧ s.handSource.link = s.link := by
  simp only [State.handSource]
  repeat' split
  all_goals simp

@[simp] theorem State.changeSource_frame (s : State) (w : WaterSource) :
    (s.changeSource w).pending = s.pending ∧ (s.changeSource w).clock = s.clock ∧
    (s.changeSource w).strap = s.strap ∧ (s.changeSource w).config = s.config ∧
    (s.changeSource w).image = s.image ∧ (s.changeSource w).seq = s.seq ∧
    (s.changeSource w).recoveredAtStart = s.recoveredAtStart ∧ (s.changeSource w).tanks = s.tanks ∧
    (s.changeSource w).store = s.store ∧ (s.changeSource w).link = s.link := by
  simp only [State.changeSource]
  repeat' split
  all_goals simp

@[simp] theorem State.setChangeover_frame (s : State) (c : Option Changeover) :
    (s.setChangeover c).pending = s.pending ∧ (s.setChangeover c).clock = s.clock ∧
    (s.setChangeover c).strap = s.strap ∧ (s.setChangeover c).config = s.config ∧
    (s.setChangeover c).image = s.image ∧ (s.setChangeover c).matrix = s.matrix ∧
    (s.setChangeover c).seq = s.seq ∧ (s.setChangeover c).recoveredAtStart = s.recoveredAtStart ∧
    (s.setChangeover c).gov = s.gov ∧ (s.setChangeover c).tanks = s.tanks ∧
    (s.setChangeover c).reports = s.reports ∧ (s.setChangeover c).store = s.store ∧
    (s.setChangeover c).link = s.link := by
  simp only [State.setChangeover]
  simp

@[simp] theorem State.beginChangeover_frame (s : State) (w : WaterSource) :
    (s.beginChangeover w).pending = s.pending ∧ (s.beginChangeover w).clock = s.clock ∧
    (s.beginChangeover w).strap = s.strap ∧ (s.beginChangeover w).config = s.config ∧
    (s.beginChangeover w).image = s.image ∧ (s.beginChangeover w).matrix = s.matrix ∧
    (s.beginChangeover w).seq = s.seq ∧ (s.beginChangeover w).recoveredAtStart = s.recoveredAtStart ∧
    (s.beginChangeover w).gov = s.gov ∧ (s.beginChangeover w).tanks = s.tanks ∧
    (s.beginChangeover w).reports = s.reports ∧ (s.beginChangeover w).store = s.store ∧
    (s.beginChangeover w).link = s.link := by
  simp only [State.beginChangeover]
  simp

@[simp] theorem State.completeChangeover_frame (s : State) (c : Changeover) :
    (s.completeChangeover c).pending = s.pending ∧ (s.completeChangeover c).clock = s.clock ∧
    (s.completeChangeover c).strap = s.strap ∧ (s.completeChangeover c).config = s.config ∧
    (s.completeChangeover c).image = s.image ∧ (s.completeChangeover c).seq = s.seq ∧
    (s.completeChangeover c).recoveredAtStart = s.recoveredAtStart ∧ (s.completeChangeover c).tanks = s.tanks ∧
    (s.completeChangeover c).store = s.store ∧ (s.completeChangeover c).link = s.link := by
  simp only [State.completeChangeover]
  simp

@[simp] theorem State.judgeChangeover_frame (s : State) :
    s.judgeChangeover.pending = s.pending ∧ s.judgeChangeover.clock = s.clock ∧
    s.judgeChangeover.strap = s.strap ∧ s.judgeChangeover.config = s.config ∧
    s.judgeChangeover.image = s.image ∧ s.judgeChangeover.seq = s.seq ∧
    s.judgeChangeover.recoveredAtStart = s.recoveredAtStart ∧ s.judgeChangeover.tanks = s.tanks ∧
    s.judgeChangeover.store = s.store ∧ s.judgeChangeover.link = s.link := by
  simp only [State.judgeChangeover]
  repeat' split
  all_goals simp

@[simp] theorem State.changeoverExpiry_frame (s : State) :
    s.changeoverExpiry.pending = s.pending ∧ s.changeoverExpiry.clock = s.clock ∧
    s.changeoverExpiry.strap = s.strap ∧ s.changeoverExpiry.config = s.config ∧
    s.changeoverExpiry.image = s.image ∧ s.changeoverExpiry.matrix = s.matrix ∧ s.changeoverExpiry.seq = s.seq ∧
    s.changeoverExpiry.recoveredAtStart = s.recoveredAtStart ∧ s.changeoverExpiry.gov = s.gov ∧
    s.changeoverExpiry.tanks = s.tanks ∧ s.changeoverExpiry.store = s.store ∧ s.changeoverExpiry.link = s.link := by
  simp only [State.changeoverExpiry]
  repeat' split
  all_goals simp

/-- The expiry of the rise timer does nothing, or abandons the fill with NO_RISE. -/
theorem State.riseExpiry_cases (s : State) : s.riseExpiry = s ∨ s.riseExpiry = s.abandonFill .noRise := by
  simp only [State.riseExpiry]
  split
  · exact .inl rfl
  · split
    · exact .inl rfl
    · exact .inr rfl

@[simp] theorem State.riseExpiry_frame (s : State) :
    s.riseExpiry.pending = s.pending ∧ s.riseExpiry.clock = s.clock ∧ s.riseExpiry.strap = s.strap ∧
    s.riseExpiry.config = s.config ∧ s.riseExpiry.image = s.image ∧ s.riseExpiry.matrix = s.matrix ∧
    s.riseExpiry.seq = s.seq ∧ s.riseExpiry.recoveredAtStart = s.recoveredAtStart ∧ s.riseExpiry.gov = s.gov ∧
    s.riseExpiry.tanks = s.tanks ∧ s.riseExpiry.store = s.store ∧ s.riseExpiry.link = s.link := by
  rcases s.riseExpiry_cases with h | h <;> rw [h] <;> simp

end Sys2Proof.Machine
end

