-- ==== Sys2Proof/Laws/FramesInputStage.lean ====
section
/-! SUPPORT. FramesInputStage.lean: what the input stage's operations leave alone, one lemma per operation, over the parts of the
state it does not touch. -/

namespace Sys2Proof.Machine

@[simp] theorem State.judgePrimer_frame (s : State) :
    s.judgePrimer.pending = s.pending ∧ s.judgePrimer.clock = s.clock ∧ s.judgePrimer.strap = s.strap ∧
    s.judgePrimer.config = s.config ∧ s.judgePrimer.image = s.image ∧ s.judgePrimer.matrix = s.matrix ∧
    s.judgePrimer.seq = s.seq ∧ s.judgePrimer.recoveredAtStart = s.recoveredAtStart ∧
    s.judgePrimer.tanks = s.tanks ∧ s.judgePrimer.supply = s.supply ∧ s.judgePrimer.store = s.store ∧
    s.judgePrimer.link = s.link := by
  simp only [State.judgePrimer]
  repeat' split
  all_goals simp

@[simp] theorem State.pressureSample_frame (s : State) (c0 c1 : Code) :
    (s.pressureSample c0 c1).pending = s.pending ∧ (s.pressureSample c0 c1).strap = s.strap ∧
    (s.pressureSample c0 c1).config = s.config ∧ (s.pressureSample c0 c1).seq = s.seq ∧
    (s.pressureSample c0 c1).recoveredAtStart = s.recoveredAtStart ∧ (s.pressureSample c0 c1).tanks = s.tanks ∧
    (s.pressureSample c0 c1).store = s.store ∧ (s.pressureSample c0 c1).link = s.link := by
  simp only [State.pressureSample]
  repeat' split
  all_goals simp

@[simp] theorem State.temperatureSample_frame (s : State) (c2 : Code) :
    (s.temperatureSample c2).pending = s.pending ∧ (s.temperatureSample c2).clock = s.clock ∧
    (s.temperatureSample c2).strap = s.strap ∧ (s.temperatureSample c2).config = s.config ∧
    (s.temperatureSample c2).seq = s.seq ∧ (s.temperatureSample c2).recoveredAtStart = s.recoveredAtStart ∧
    (s.temperatureSample c2).tanks = s.tanks ∧ (s.temperatureSample c2).store = s.store ∧
    (s.temperatureSample c2).link = s.link := by
  simp only [State.temperatureSample]
  repeat' split
  all_goals simp

@[simp] theorem State.levelSample_frame (s : State) (ch : LevelIx) (c : Code) :
    (s.levelSample ch c).pending = s.pending ∧ (s.levelSample ch c).clock = s.clock ∧
    (s.levelSample ch c).strap = s.strap ∧ (s.levelSample ch c).config = s.config ∧
    (s.levelSample ch c).matrix = s.matrix ∧ (s.levelSample ch c).seq = s.seq ∧
    (s.levelSample ch c).recoveredAtStart = s.recoveredAtStart ∧ (s.levelSample ch c).gov = s.gov ∧
    (s.levelSample ch c).tanks = s.tanks ∧ (s.levelSample ch c).supply = s.supply ∧
    (s.levelSample ch c).store = s.store ∧ (s.levelSample ch c).link = s.link := by
  simp only [State.levelSample]
  simp

@[simp] theorem State.startDecision_frame (s : State) :
    s.startDecision.pending = s.pending ∧ s.startDecision.clock = s.clock ∧ s.startDecision.strap = s.strap ∧
    s.startDecision.config = s.config ∧ s.startDecision.image = s.image ∧ s.startDecision.matrix = s.matrix ∧
    s.startDecision.gov = s.gov ∧ s.startDecision.tanks = s.tanks ∧ s.startDecision.supply = s.supply ∧
    s.startDecision.store = s.store ∧ s.startDecision.link = s.link := by
  simp only [State.startDecision]
  repeat' split
  all_goals simp

@[simp] theorem State.leaveStart_frame (s : State) :
    s.leaveStart.pending = s.pending ∧ s.leaveStart.clock = s.clock ∧ s.leaveStart.strap = s.strap ∧
    s.leaveStart.config = s.config ∧ s.leaveStart.image = s.image ∧ s.leaveStart.seq = s.seq ∧
    s.leaveStart.recoveredAtStart = s.recoveredAtStart ∧ s.leaveStart.tanks = s.tanks ∧
    s.leaveStart.store = s.store ∧ s.leaveStart.link = s.link := by
  simp only [State.leaveStart]
  simp

@[simp] theorem State.judgeComplete_frame (s : State) :
    s.judgeComplete.pending = s.pending ∧ s.judgeComplete.clock = s.clock ∧ s.judgeComplete.strap = s.strap ∧
    s.judgeComplete.config = s.config ∧ s.judgeComplete.tanks = s.tanks ∧ s.judgeComplete.store = s.store ∧
    s.judgeComplete.link = s.link := by
  simp only [State.judgeComplete]
  repeat' split
  all_goals simp

@[simp] theorem State.engineGateEnd_frame (s : State) :
    s.engineGateEnd.pending = s.pending ∧ s.engineGateEnd.clock = s.clock ∧ s.engineGateEnd.strap = s.strap ∧
    s.engineGateEnd.config = s.config ∧ s.engineGateEnd.tanks = s.tanks ∧ s.engineGateEnd.store = s.store ∧
    s.engineGateEnd.link = s.link := by
  simp only [State.engineGateEnd]
  simp

@[simp] theorem State.tanksAtRoadGate_frame (s : State) (w : Bool) :
    (s.tanksAtRoadGate w).pending = s.pending ∧ (s.tanksAtRoadGate w).clock = s.clock ∧
    (s.tanksAtRoadGate w).strap = s.strap ∧ (s.tanksAtRoadGate w).config = s.config ∧
    (s.tanksAtRoadGate w).image = s.image ∧ (s.tanksAtRoadGate w).seq = s.seq ∧
    (s.tanksAtRoadGate w).recoveredAtStart = s.recoveredAtStart ∧ (s.tanksAtRoadGate w).store = s.store ∧
    (s.tanksAtRoadGate w).link = s.link := by
  unfold State.tanksAtRoadGate
  repeat' split
  all_goals first
    | exact foldl_keeps (fun t : State => t.pending = s.pending ∧ t.clock = s.clock ∧ t.strap = s.strap ∧ t.config = s.config ∧ t.image = s.image ∧ t.seq = s.seq ∧ t.recoveredAtStart = s.recoveredAtStart ∧ t.store = s.store ∧ t.link = s.link) _ _ s (by simp) (fun t i h => by simpa using h)
    | simp

@[simp] theorem State.roadGateEnd_frame (s : State) :
    s.roadGateEnd.pending = s.pending ∧ s.roadGateEnd.clock = s.clock ∧ s.roadGateEnd.strap = s.strap ∧
    s.roadGateEnd.config = s.config ∧ s.roadGateEnd.store = s.store ∧ s.roadGateEnd.link = s.link := by
  simp only [State.roadGateEnd]
  simp

@[simp] theorem State.flowGateEnd_frame (s : State) (m : Meter) :
    (s.flowGateEnd m).pending = s.pending ∧ (s.flowGateEnd m).clock = s.clock ∧
    (s.flowGateEnd m).strap = s.strap ∧ (s.flowGateEnd m).config = s.config ∧
    (s.flowGateEnd m).tanks = s.tanks ∧ (s.flowGateEnd m).store = s.store ∧ (s.flowGateEnd m).link = s.link := by
  simp only [State.flowGateEnd]
  repeat' split
  all_goals simp

@[simp] theorem State.linesChanged_frame (s : State) (ls : List Line) :
    (s.linesChanged ls).pending = s.pending ∧ (s.linesChanged ls).clock = s.clock ∧
    (s.linesChanged ls).strap = s.strap ∧ (s.linesChanged ls).config = s.config ∧
    (s.linesChanged ls).image = s.image ∧ (s.linesChanged ls).recoveredAtStart = s.recoveredAtStart ∧
    (s.linesChanged ls).tanks = s.tanks ∧ (s.linesChanged ls).store = s.store ∧
    (s.linesChanged ls).link = s.link := by
  unfold State.linesChanged
  split
  · simp
  · have h := foldl_keeps (fun t : State => t.pending = s.pending ∧ t.clock = s.clock ∧ t.strap = s.strap ∧ t.config = s.config ∧ t.image = s.image ∧ t.recoveredAtStart = s.recoveredAtStart ∧ t.tanks = s.tanks ∧ t.store = s.store ∧ t.link = s.link) State.seqLineChange ls s (by simp)
      (fun t i h => by simpa using h)
    simpa using h

@[simp] theorem State.lineSample_frame (s : State) (raw : BitVec 12) :
    (s.lineSample raw).pending = s.pending ∧ (s.lineSample raw).clock = s.clock ∧
    (s.lineSample raw).strap = s.strap ∧ (s.lineSample raw).config = s.config ∧
    (s.lineSample raw).tanks = s.tanks ∧ (s.lineSample raw).store = s.store ∧ (s.lineSample raw).link = s.link := by
  simp only [State.lineSample]
  simp

@[simp] theorem State.pulse_frame (s : State) (p : PulseInput) :
    (s.pulse p).pending = s.pending ∧ (s.pulse p).clock = s.clock ∧ (s.pulse p).strap = s.strap ∧
    (s.pulse p).config = s.config ∧ (s.pulse p).matrix = s.matrix ∧ (s.pulse p).seq = s.seq ∧
    (s.pulse p).recoveredAtStart = s.recoveredAtStart ∧ (s.pulse p).gov = s.gov ∧ (s.pulse p).tanks = s.tanks ∧
    (s.pulse p).supply = s.supply ∧ (s.pulse p).reports = s.reports ∧ (s.pulse p).store = s.store ∧
    (s.pulse p).link = s.link := by
  simp only [State.pulse]
  simp

@[simp] theorem State.rollOverspeedExpiry_frame (s : State) :
    s.rollOverspeedExpiry.pending = s.pending ∧ s.rollOverspeedExpiry.clock = s.clock ∧
    s.rollOverspeedExpiry.strap = s.strap ∧ s.rollOverspeedExpiry.config = s.config ∧
    s.rollOverspeedExpiry.image = s.image ∧ s.rollOverspeedExpiry.seq = s.seq ∧
    s.rollOverspeedExpiry.recoveredAtStart = s.recoveredAtStart ∧ s.rollOverspeedExpiry.gov = s.gov ∧
    s.rollOverspeedExpiry.tanks = s.tanks ∧ s.rollOverspeedExpiry.supply = s.supply ∧
    s.rollOverspeedExpiry.store = s.store ∧ s.rollOverspeedExpiry.link = s.link := by
  simp only [State.rollOverspeedExpiry]
  repeat' split
  all_goals simp

@[simp] theorem State.lockDelayExpiry_frame (s : State) (i : EntryIx) :
    (s.lockDelayExpiry i).pending = s.pending ∧ (s.lockDelayExpiry i).clock = s.clock ∧
    (s.lockDelayExpiry i).strap = s.strap ∧ (s.lockDelayExpiry i).config = s.config ∧
    (s.lockDelayExpiry i).image = s.image ∧ (s.lockDelayExpiry i).seq = s.seq ∧
    (s.lockDelayExpiry i).recoveredAtStart = s.recoveredAtStart ∧ (s.lockDelayExpiry i).tanks = s.tanks ∧
    (s.lockDelayExpiry i).store = s.store ∧ (s.lockDelayExpiry i).link = s.link := by
  simp only [State.lockDelayExpiry]
  repeat' split
  all_goals simp

end Sys2Proof.Machine
end

