-- ==== Sys2Proof/Laws/FramesGovernor.lean ====
section
/-! SUPPORT. FramesGovernor.lean: what the governor's update and requests leave alone, one lemma per operation, over the parts of the
state it does not touch. -/

namespace Sys2Proof.Machine

@[simp] theorem State.driveUpdate_frame (s : State) :
    s.driveUpdate.pending = s.pending ∧ s.driveUpdate.clock = s.clock ∧ s.driveUpdate.strap = s.strap ∧
    s.driveUpdate.config = s.config ∧ s.driveUpdate.image = s.image ∧ s.driveUpdate.matrix = s.matrix ∧
    s.driveUpdate.seq = s.seq ∧ s.driveUpdate.recoveredAtStart = s.recoveredAtStart ∧
    s.driveUpdate.tanks = s.tanks ∧ s.driveUpdate.supply = s.supply ∧ s.driveUpdate.reports = s.reports ∧
    s.driveUpdate.store = s.store ∧ s.driveUpdate.link = s.link := by
  simp only [State.driveUpdate]
  simp

@[simp] theorem State.primerAtDemand_frame (s : State) :
    s.primerAtDemand.pending = s.pending ∧ s.primerAtDemand.clock = s.clock ∧ s.primerAtDemand.strap = s.strap ∧
    s.primerAtDemand.config = s.config ∧ s.primerAtDemand.image = s.image ∧ s.primerAtDemand.matrix = s.matrix ∧
    s.primerAtDemand.seq = s.seq ∧ s.primerAtDemand.recoveredAtStart = s.recoveredAtStart ∧
    s.primerAtDemand.tanks = s.tanks ∧ s.primerAtDemand.supply = s.supply ∧
    s.primerAtDemand.reports = s.reports ∧ s.primerAtDemand.store = s.store ∧ s.primerAtDemand.link = s.link := by
  simp only [State.primerAtDemand]
  repeat' split
  all_goals simp

@[simp] theorem State.cavitationCounts_frame (s : State) :
    s.cavitationCounts.pending = s.pending ∧ s.cavitationCounts.clock = s.clock ∧
    s.cavitationCounts.strap = s.strap ∧ s.cavitationCounts.config = s.config ∧
    s.cavitationCounts.image = s.image ∧ s.cavitationCounts.matrix = s.matrix ∧ s.cavitationCounts.seq = s.seq ∧
    s.cavitationCounts.recoveredAtStart = s.recoveredAtStart ∧ s.cavitationCounts.tanks = s.tanks ∧
    s.cavitationCounts.supply = s.supply ∧ s.cavitationCounts.reports = s.reports ∧
    s.cavitationCounts.store = s.store ∧ s.cavitationCounts.link = s.link := by
  simp only [State.cavitationCounts]
  simp

@[simp] theorem State.judgeCavitation_frame (s : State) :
    s.judgeCavitation.pending = s.pending ∧ s.judgeCavitation.clock = s.clock ∧
    s.judgeCavitation.strap = s.strap ∧ s.judgeCavitation.config = s.config ∧
    s.judgeCavitation.image = s.image ∧ s.judgeCavitation.seq = s.seq ∧
    s.judgeCavitation.recoveredAtStart = s.recoveredAtStart ∧ s.judgeCavitation.tanks = s.tanks ∧
    s.judgeCavitation.supply = s.supply ∧ s.judgeCavitation.store = s.store ∧ s.judgeCavitation.link = s.link := by
  simp only [State.judgeCavitation]
  repeat' split
  all_goals simp

@[simp] theorem State.primeRuns_frame (s : State) :
    s.primeRuns.pending = s.pending ∧ s.primeRuns.clock = s.clock ∧ s.primeRuns.strap = s.strap ∧
    s.primeRuns.config = s.config ∧ s.primeRuns.image = s.image ∧ s.primeRuns.matrix = s.matrix ∧
    s.primeRuns.seq = s.seq ∧ s.primeRuns.recoveredAtStart = s.recoveredAtStart ∧ s.primeRuns.tanks = s.tanks ∧
    s.primeRuns.supply = s.supply ∧ s.primeRuns.reports = s.reports ∧ s.primeRuns.store = s.store ∧
    s.primeRuns.link = s.link := by
  simp only [State.primeRuns]
  simp

@[simp] theorem State.judgePrimeLost_frame (s : State) :
    s.judgePrimeLost.pending = s.pending ∧ s.judgePrimeLost.clock = s.clock ∧ s.judgePrimeLost.strap = s.strap ∧
    s.judgePrimeLost.config = s.config ∧ s.judgePrimeLost.image = s.image ∧ s.judgePrimeLost.seq = s.seq ∧
    s.judgePrimeLost.recoveredAtStart = s.recoveredAtStart ∧ s.judgePrimeLost.tanks = s.tanks ∧
    s.judgePrimeLost.supply = s.supply ∧ s.judgePrimeLost.store = s.store ∧ s.judgePrimeLost.link = s.link := by
  simp only [State.judgePrimeLost]
  repeat' split
  all_goals simp

@[simp] theorem State.judgeOverLimit_frame (s : State) (m : GovMode) :
    (s.judgeOverLimit m).pending = s.pending ∧ (s.judgeOverLimit m).clock = s.clock ∧
    (s.judgeOverLimit m).strap = s.strap ∧ (s.judgeOverLimit m).config = s.config ∧
    (s.judgeOverLimit m).image = s.image ∧ (s.judgeOverLimit m).seq = s.seq ∧
    (s.judgeOverLimit m).recoveredAtStart = s.recoveredAtStart ∧ (s.judgeOverLimit m).tanks = s.tanks ∧
    (s.judgeOverLimit m).supply = s.supply ∧ (s.judgeOverLimit m).store = s.store ∧
    (s.judgeOverLimit m).link = s.link := by
  simp only [State.judgeOverLimit]
  repeat' split
  all_goals simp

@[simp] theorem State.overpressureReturns_frame (s : State) :
    s.overpressureReturns.pending = s.pending ∧ s.overpressureReturns.clock = s.clock ∧
    s.overpressureReturns.strap = s.strap ∧ s.overpressureReturns.config = s.config ∧
    s.overpressureReturns.image = s.image ∧ s.overpressureReturns.seq = s.seq ∧
    s.overpressureReturns.recoveredAtStart = s.recoveredAtStart ∧ s.overpressureReturns.tanks = s.tanks ∧
    s.overpressureReturns.supply = s.supply ∧ s.overpressureReturns.store = s.store ∧
    s.overpressureReturns.link = s.link := by
  simp only [State.overpressureReturns]
  repeat' split
  all_goals simp

@[simp] theorem State.judgeReturn_frame (s : State) :
    s.judgeReturn.pending = s.pending ∧ s.judgeReturn.clock = s.clock ∧ s.judgeReturn.strap = s.strap ∧
    s.judgeReturn.config = s.config ∧ s.judgeReturn.image = s.image ∧ s.judgeReturn.seq = s.seq ∧
    s.judgeReturn.recoveredAtStart = s.recoveredAtStart ∧ s.judgeReturn.tanks = s.tanks ∧
    s.judgeReturn.supply = s.supply ∧ s.judgeReturn.store = s.store ∧ s.judgeReturn.link = s.link := by
  simp only [State.judgeReturn]
  repeat' split
  all_goals simp

@[simp] theorem State.protectionTests_frame (s : State) (m : GovMode) :
    (s.protectionTests m).pending = s.pending ∧ (s.protectionTests m).clock = s.clock ∧
    (s.protectionTests m).strap = s.strap ∧ (s.protectionTests m).config = s.config ∧
    (s.protectionTests m).image = s.image ∧ (s.protectionTests m).seq = s.seq ∧
    (s.protectionTests m).recoveredAtStart = s.recoveredAtStart ∧ (s.protectionTests m).tanks = s.tanks ∧
    (s.protectionTests m).supply = s.supply ∧ (s.protectionTests m).store = s.store ∧
    (s.protectionTests m).link = s.link := by
  simp only [State.protectionTests]
  simp

@[simp] theorem State.governorUpdate_frame (s : State) :
    s.governorUpdate.pending = s.pending ∧ s.governorUpdate.clock = s.clock ∧ s.governorUpdate.strap = s.strap ∧
    s.governorUpdate.config = s.config ∧ s.governorUpdate.image = s.image ∧ s.governorUpdate.seq = s.seq ∧
    s.governorUpdate.recoveredAtStart = s.recoveredAtStart ∧ s.governorUpdate.tanks = s.tanks ∧
    s.governorUpdate.supply = s.supply ∧ s.governorUpdate.store = s.store ∧ s.governorUpdate.link = s.link := by
  simp only [State.governorUpdate]
  repeat' split
  all_goals simp

@[simp] theorem State.primeExpiry_frame (s : State) :
    s.primeExpiry.pending = s.pending ∧ s.primeExpiry.clock = s.clock ∧ s.primeExpiry.strap = s.strap ∧
    s.primeExpiry.config = s.config ∧ s.primeExpiry.image = s.image ∧ s.primeExpiry.matrix = s.matrix ∧
    s.primeExpiry.seq = s.seq ∧ s.primeExpiry.recoveredAtStart = s.recoveredAtStart ∧
    s.primeExpiry.tanks = s.tanks ∧ s.primeExpiry.supply = s.supply ∧ s.primeExpiry.store = s.store ∧
    s.primeExpiry.link = s.link := by
  simp only [State.primeExpiry]
  repeat' split
  all_goals simp

@[simp] theorem State.moveTarget_frame (s : State) (x : Int) :
    (s.moveTarget x).pending = s.pending ∧ (s.moveTarget x).clock = s.clock ∧ (s.moveTarget x).strap = s.strap ∧
    (s.moveTarget x).config = s.config ∧ (s.moveTarget x).image = s.image ∧ (s.moveTarget x).matrix = s.matrix ∧
    (s.moveTarget x).seq = s.seq ∧ (s.moveTarget x).recoveredAtStart = s.recoveredAtStart ∧
    (s.moveTarget x).tanks = s.tanks ∧ (s.moveTarget x).supply = s.supply ∧
    (s.moveTarget x).reports = s.reports ∧ (s.moveTarget x).store = s.store ∧ (s.moveTarget x).link = s.link := by
  simp only [State.moveTarget]
  simp

@[simp] theorem State.govern_frame (s : State) (m : GovMode) (x : Int) :
    (s.govern m x).pending = s.pending ∧ (s.govern m x).clock = s.clock ∧ (s.govern m x).strap = s.strap ∧
    (s.govern m x).config = s.config ∧ (s.govern m x).image = s.image ∧ (s.govern m x).seq = s.seq ∧
    (s.govern m x).recoveredAtStart = s.recoveredAtStart ∧ (s.govern m x).tanks = s.tanks ∧
    (s.govern m x).supply = s.supply ∧ (s.govern m x).store = s.store ∧ (s.govern m x).link = s.link := by
  simp only [State.govern]
  repeat' split
  all_goals simp

@[simp] theorem State.governSaved_frame (s : State) (m : GovMode) (x : Int) :
    (s.governSaved m x).pending = s.pending ∧ (s.governSaved m x).clock = s.clock ∧
    (s.governSaved m x).strap = s.strap ∧ (s.governSaved m x).config = s.config ∧
    (s.governSaved m x).image = s.image ∧ (s.governSaved m x).matrix = s.matrix ∧
    (s.governSaved m x).seq = s.seq ∧ (s.governSaved m x).recoveredAtStart = s.recoveredAtStart ∧
    (s.governSaved m x).tanks = s.tanks ∧ (s.governSaved m x).supply = s.supply ∧
    (s.governSaved m x).reports = s.reports ∧ (s.governSaved m x).store = s.store ∧
    (s.governSaved m x).link = s.link := by
  simp only [State.governSaved]
  simp

@[simp] theorem State.nudgeTo_frame (s : State) (x : Int) :
    (s.nudgeTo x).pending = s.pending ∧ (s.nudgeTo x).clock = s.clock ∧ (s.nudgeTo x).strap = s.strap ∧
    (s.nudgeTo x).config = s.config ∧ (s.nudgeTo x).image = s.image ∧ (s.nudgeTo x).matrix = s.matrix ∧
    (s.nudgeTo x).seq = s.seq ∧ (s.nudgeTo x).recoveredAtStart = s.recoveredAtStart ∧
    (s.nudgeTo x).tanks = s.tanks ∧ (s.nudgeTo x).supply = s.supply ∧ (s.nudgeTo x).reports = s.reports ∧
    (s.nudgeTo x).store = s.store ∧ (s.nudgeTo x).link = s.link := by
  simp only [State.nudgeTo]
  repeat' split
  all_goals simp

@[simp] theorem State.startPrimer_frame (s : State) :
    s.startPrimer.pending = s.pending ∧ s.startPrimer.clock = s.clock ∧ s.startPrimer.strap = s.strap ∧
    s.startPrimer.config = s.config ∧ s.startPrimer.image = s.image ∧ s.startPrimer.matrix = s.matrix ∧
    s.startPrimer.seq = s.seq ∧ s.startPrimer.recoveredAtStart = s.recoveredAtStart ∧
    s.startPrimer.tanks = s.tanks ∧ s.startPrimer.supply = s.supply ∧ s.startPrimer.reports = s.reports ∧
    s.startPrimer.store = s.store ∧ s.startPrimer.link = s.link := by
  simp only [State.startPrimer]
  simp

@[simp] theorem State.reclampTargets_frame (s : State) (ms : List GovMode) :
    (s.reclampTargets ms).pending = s.pending ∧ (s.reclampTargets ms).clock = s.clock ∧
    (s.reclampTargets ms).strap = s.strap ∧ (s.reclampTargets ms).config = s.config ∧
    (s.reclampTargets ms).image = s.image ∧ (s.reclampTargets ms).matrix = s.matrix ∧
    (s.reclampTargets ms).seq = s.seq ∧ (s.reclampTargets ms).recoveredAtStart = s.recoveredAtStart ∧
    (s.reclampTargets ms).tanks = s.tanks ∧ (s.reclampTargets ms).supply = s.supply ∧
    (s.reclampTargets ms).reports = s.reports ∧ (s.reclampTargets ms).store = s.store ∧
    (s.reclampTargets ms).link = s.link := by
  simp only [State.reclampTargets]
  repeat' split
  all_goals simp

end Sys2Proof.Machine
end

