-- ==== Sys2Proof/Laws/FramesLink.lean ====
section
/-! SUPPORT. FramesLink.lean: what the store's and the requests' operations leave alone, one lemma per operation, over the parts of the
state it does not touch. -/

namespace Sys2Proof.Machine

@[simp] theorem State.writeBackDone_frame (s : State) (f : Option StoreWord) :
    (s.writeBackDone f).pending = s.pending ∧ (s.writeBackDone f).clock = s.clock ∧
    (s.writeBackDone f).strap = s.strap ∧ (s.writeBackDone f).config = s.config ∧
    (s.writeBackDone f).image = s.image ∧ (s.writeBackDone f).matrix = s.matrix ∧
    (s.writeBackDone f).seq = s.seq ∧ (s.writeBackDone f).recoveredAtStart = s.recoveredAtStart ∧
    (s.writeBackDone f).gov = s.gov ∧ (s.writeBackDone f).tanks = s.tanks ∧
    (s.writeBackDone f).supply = s.supply ∧ (s.writeBackDone f).link = s.link := by
  simp only [State.writeBackDone]
  repeat' split
  all_goals simp

@[simp] theorem State.commitCompletes_frame (s : State) (c : Commit) :
    (s.commitCompletes c).pending = s.pending ∧ (s.commitCompletes c).clock = s.clock ∧
    (s.commitCompletes c).strap = s.strap ∧ (s.commitCompletes c).config = s.config ∧
    (s.commitCompletes c).image = s.image ∧ (s.commitCompletes c).matrix = s.matrix ∧
    (s.commitCompletes c).seq = s.seq ∧ (s.commitCompletes c).recoveredAtStart = s.recoveredAtStart ∧
    (s.commitCompletes c).gov = s.gov ∧ (s.commitCompletes c).tanks = s.tanks ∧
    (s.commitCompletes c).supply = s.supply ∧ (s.commitCompletes c).link = s.link := by
  simp only [State.commitCompletes]
  simp

@[simp] theorem State.commitWordDone_frame (s : State) (f : Option StoreWord) :
    (s.commitWordDone f).pending = s.pending ∧ (s.commitWordDone f).clock = s.clock ∧
    (s.commitWordDone f).strap = s.strap ∧ (s.commitWordDone f).config = s.config ∧
    (s.commitWordDone f).image = s.image ∧ (s.commitWordDone f).matrix = s.matrix ∧
    (s.commitWordDone f).seq = s.seq ∧ (s.commitWordDone f).recoveredAtStart = s.recoveredAtStart ∧
    (s.commitWordDone f).gov = s.gov ∧ (s.commitWordDone f).tanks = s.tanks ∧
    (s.commitWordDone f).supply = s.supply ∧ (s.commitWordDone f).link = s.link := by
  simp only [State.commitWordDone]
  repeat' split
  all_goals simp

@[simp] theorem State.beginCommit_frame (s : State) :
    s.beginCommit.pending = s.pending ∧ s.beginCommit.clock = s.clock ∧ s.beginCommit.strap = s.strap ∧
    s.beginCommit.config = s.config ∧ s.beginCommit.image = s.image ∧ s.beginCommit.matrix = s.matrix ∧
    s.beginCommit.seq = s.seq ∧ s.beginCommit.recoveredAtStart = s.recoveredAtStart ∧
    s.beginCommit.gov = s.gov ∧ s.beginCommit.tanks = s.tanks ∧ s.beginCommit.supply = s.supply ∧
    s.beginCommit.reports = s.reports ∧ s.beginCommit.link = s.link := by
  simp only [State.beginCommit]
  simp

@[simp] theorem State.clearSticky_frame (s : State) :
    s.clearSticky.pending = s.pending ∧ s.clearSticky.clock = s.clock ∧ s.clearSticky.strap = s.strap ∧
    s.clearSticky.config = s.config ∧ s.clearSticky.image = s.image ∧ s.clearSticky.matrix = s.matrix ∧
    s.clearSticky.seq = s.seq ∧ s.clearSticky.gov = s.gov ∧ s.clearSticky.tanks = s.tanks ∧
    s.clearSticky.supply = s.supply ∧ s.clearSticky.store = s.store ∧ s.clearSticky.link = s.link := by
  simp only [State.clearSticky]
  simp

@[simp] theorem State.clearLatches_frame (s : State) :
    s.clearLatches.pending = s.pending ∧ s.clearLatches.clock = s.clock ∧ s.clearLatches.strap = s.strap ∧
    s.clearLatches.config = s.config ∧ s.clearLatches.matrix = s.matrix ∧ s.clearLatches.seq = s.seq ∧
    s.clearLatches.recoveredAtStart = s.recoveredAtStart ∧ s.clearLatches.gov = s.gov ∧
    s.clearLatches.tanks = s.tanks ∧ s.clearLatches.supply = s.supply ∧ s.clearLatches.reports = s.reports ∧
    s.clearLatches.store = s.store ∧ s.clearLatches.link = s.link := by
  simp only [State.clearLatches]
  simp

@[simp] theorem State.writeEntry_frame (s : State) (i : EntryIx) (n : Option LockoutEntry) :
    (s.writeEntry i n).pending = s.pending ∧ (s.writeEntry i n).clock = s.clock ∧
    (s.writeEntry i n).strap = s.strap ∧ (s.writeEntry i n).image = s.image ∧ (s.writeEntry i n).seq = s.seq ∧
    (s.writeEntry i n).recoveredAtStart = s.recoveredAtStart ∧ (s.writeEntry i n).tanks = s.tanks ∧
    (s.writeEntry i n).store = s.store ∧ (s.writeEntry i n).link = s.link := by
  simp only [State.writeEntry]
  repeat' split
  all_goals simp

@[simp] theorem State.clearLatch_frame (s : State) (i : EntryIx) :
    (s.clearLatch i).pending = s.pending ∧ (s.clearLatch i).clock = s.clock ∧ (s.clearLatch i).strap = s.strap ∧
    (s.clearLatch i).config = s.config ∧ (s.clearLatch i).image = s.image ∧ (s.clearLatch i).seq = s.seq ∧
    (s.clearLatch i).recoveredAtStart = s.recoveredAtStart ∧ (s.clearLatch i).gov = s.gov ∧
    (s.clearLatch i).tanks = s.tanks ∧ (s.clearLatch i).supply = s.supply ∧ (s.clearLatch i).store = s.store ∧
    (s.clearLatch i).link = s.link := by
  simp only [State.clearLatch]
  repeat' split
  all_goals simp

@[simp] theorem State.silence_frame (s : State) :
    s.silence.pending = s.pending ∧ s.silence.clock = s.clock ∧ s.silence.strap = s.strap ∧
    s.silence.config = s.config ∧ s.silence.image = s.image ∧ s.silence.seq = s.seq ∧
    s.silence.recoveredAtStart = s.recoveredAtStart ∧ s.silence.gov = s.gov ∧ s.silence.tanks = s.tanks ∧
    s.silence.supply = s.supply ∧ s.silence.reports = s.reports ∧ s.silence.store = s.store ∧
    s.silence.link = s.link := by
  simp only [State.silence]
  repeat' split
  all_goals simp

@[simp] theorem State.configureTank_frame (s : State) (t : TankIx) (c : TankSettings) :
    (s.configureTank t c).pending = s.pending ∧ (s.configureTank t c).clock = s.clock ∧
    (s.configureTank t c).strap = s.strap ∧ (s.configureTank t c).image = s.image ∧
    (s.configureTank t c).seq = s.seq ∧ (s.configureTank t c).recoveredAtStart = s.recoveredAtStart ∧
    (s.configureTank t c).store = s.store ∧ (s.configureTank t c).link = s.link := by
  simp only [State.configureTank]
  simp

@[simp] theorem State.beginFill_frame (s : State) (n : Nat) :
    (s.beginFill n).pending = s.pending ∧ (s.beginFill n).clock = s.clock ∧ (s.beginFill n).strap = s.strap ∧
    (s.beginFill n).config = s.config ∧ (s.beginFill n).image = s.image ∧ (s.beginFill n).matrix = s.matrix ∧
    (s.beginFill n).seq = s.seq ∧ (s.beginFill n).recoveredAtStart = s.recoveredAtStart ∧
    (s.beginFill n).gov = s.gov ∧ (s.beginFill n).tanks = s.tanks ∧ (s.beginFill n).reports = s.reports ∧
    (s.beginFill n).store = s.store ∧ (s.beginFill n).link = s.link := by
  simp only [State.beginFill]
  simp

@[simp] theorem State.dropRemainder_frame (s : State) (m : Meter) :
    (s.dropRemainder m).pending = s.pending ∧ (s.dropRemainder m).clock = s.clock ∧
    (s.dropRemainder m).strap = s.strap ∧ (s.dropRemainder m).config = s.config ∧
    (s.dropRemainder m).matrix = s.matrix ∧ (s.dropRemainder m).seq = s.seq ∧
    (s.dropRemainder m).recoveredAtStart = s.recoveredAtStart ∧ (s.dropRemainder m).gov = s.gov ∧
    (s.dropRemainder m).tanks = s.tanks ∧ (s.dropRemainder m).supply = s.supply ∧
    (s.dropRemainder m).reports = s.reports ∧ (s.dropRemainder m).store = s.store ∧
    (s.dropRemainder m).link = s.link := by
  simp only [State.dropRemainder]
  simp

@[simp] theorem State.ceilingChanged_frame (s : State) :
    s.ceilingChanged.pending = s.pending ∧ s.ceilingChanged.clock = s.clock ∧ s.ceilingChanged.strap = s.strap ∧
    s.ceilingChanged.config = s.config ∧ s.ceilingChanged.image = s.image ∧ s.ceilingChanged.seq = s.seq ∧
    s.ceilingChanged.recoveredAtStart = s.recoveredAtStart ∧ s.ceilingChanged.tanks = s.tanks ∧
    s.ceilingChanged.store = s.store ∧ s.ceilingChanged.link = s.link := by
  simp only [State.ceilingChanged]
  repeat' split
  all_goals simp

@[simp] theorem State.ownerActs_frame (s : State) (p : Param) :
    (s.ownerActs p).pending = s.pending ∧ (s.ownerActs p).clock = s.clock ∧ (s.ownerActs p).strap = s.strap ∧
    (s.ownerActs p).config = s.config ∧ (s.ownerActs p).seq = s.seq ∧
    (s.ownerActs p).recoveredAtStart = s.recoveredAtStart ∧ (s.ownerActs p).tanks = s.tanks ∧
    (s.ownerActs p).store = s.store ∧ (s.ownerActs p).link = s.link := by
  simp only [State.ownerActs]
  repeat' split
  all_goals simp

@[simp] theorem State.writeParam_frame (s : State) (p : Param) (x : Int) :
    (s.writeParam p x).pending = s.pending ∧ (s.writeParam p x).clock = s.clock ∧
    (s.writeParam p x).strap = s.strap ∧ (s.writeParam p x).seq = s.seq ∧
    (s.writeParam p x).recoveredAtStart = s.recoveredAtStart ∧ (s.writeParam p x).tanks = s.tanks ∧
    (s.writeParam p x).store = s.store ∧ (s.writeParam p x).link = s.link := by
  simp only [State.writeParam]
  repeat' split
  all_goals simp

@[simp] theorem State.setRx_frame (s : State) (b : List Byte) :
    (s.setRx b).pending = s.pending ∧ (s.setRx b).clock = s.clock ∧ (s.setRx b).strap = s.strap ∧
    (s.setRx b).config = s.config ∧ (s.setRx b).image = s.image ∧ (s.setRx b).matrix = s.matrix ∧
    (s.setRx b).seq = s.seq ∧ (s.setRx b).recoveredAtStart = s.recoveredAtStart ∧ (s.setRx b).gov = s.gov ∧
    (s.setRx b).tanks = s.tanks ∧ (s.setRx b).supply = s.supply ∧ (s.setRx b).reports = s.reports ∧
    (s.setRx b).store = s.store := by
  simp only [State.setRx]
  simp

end Sys2Proof.Machine
end

