-- ==== Sys2Proof/Laws/FramesAnswers.lean ====
section
/-! SUPPORT. FramesAnswers.lean: what the owner of each request leaves alone, over the parts of the state it does not
touch. -/

namespace Sys2Proof.Machine

@[simp] theorem State.reads_state (s : State) (a : Answer) : (s.reads a).1 = s := rfl

@[simp] theorem State.reads_answer (s : State) (a : Answer) : (s.reads a).2 = a := rfl

@[simp] theorem State.lockoutSet_frame (s : State) (i : EntryIx) (e : Option LockoutEntry) :
    (s.lockoutSet i e).1.pending = s.pending ∧ (s.lockoutSet i e).1.clock = s.clock ∧
    (s.lockoutSet i e).1.strap = s.strap ∧ (s.lockoutSet i e).1.image = s.image ∧
    (s.lockoutSet i e).1.seq = s.seq ∧ (s.lockoutSet i e).1.recoveredAtStart = s.recoveredAtStart ∧
    (s.lockoutSet i e).1.tanks = s.tanks ∧ (s.lockoutSet i e).1.store = s.store ∧
    (s.lockoutSet i e).1.link = s.link := by
  simp only [State.lockoutSet]
  repeat' split
  all_goals simp

@[simp] theorem State.latchClearOne_frame (s : State) (i : EntryIx) :
    (s.latchClearOne i).1.pending = s.pending ∧ (s.latchClearOne i).1.clock = s.clock ∧
    (s.latchClearOne i).1.strap = s.strap ∧ (s.latchClearOne i).1.config = s.config ∧
    (s.latchClearOne i).1.image = s.image ∧ (s.latchClearOne i).1.seq = s.seq ∧
    (s.latchClearOne i).1.recoveredAtStart = s.recoveredAtStart ∧ (s.latchClearOne i).1.tanks = s.tanks ∧
    (s.latchClearOne i).1.store = s.store ∧ (s.latchClearOne i).1.link = s.link := by
  simp only [State.latchClearOne]
  repeat' split
  all_goals simp

@[simp] theorem State.latchClearAll_frame (s : State) :
    (s.latchClearAll).1.pending = s.pending ∧ (s.latchClearAll).1.clock = s.clock ∧
    (s.latchClearAll).1.strap = s.strap ∧ (s.latchClearAll).1.config = s.config ∧
    (s.latchClearAll).1.image = s.image ∧ (s.latchClearAll).1.seq = s.seq ∧
    (s.latchClearAll).1.recoveredAtStart = s.recoveredAtStart ∧ (s.latchClearAll).1.tanks = s.tanks ∧
    (s.latchClearAll).1.store = s.store ∧ (s.latchClearAll).1.link = s.link := by
  have h1 := foldl_keeps (fun t : State => t.pending = s.pending ∧ t.clock = s.clock ∧ t.strap = s.strap ∧ t.config = s.config ∧ t.image = s.image ∧ t.seq = s.seq ∧ t.recoveredAtStart = s.recoveredAtStart ∧ t.tanks = s.tanks ∧ t.store = s.store ∧ t.link = s.link) State.clearLatch s.latchedEntries s (by simp)
    (fun t i h => by simpa using h)
  have h2 := foldl_keeps (fun t : State => t.pending = s.pending ∧ t.clock = s.clock ∧ t.strap = s.strap ∧ t.config = s.config ∧ t.image = s.image ∧ t.seq = s.seq ∧ t.recoveredAtStart = s.recoveredAtStart ∧ t.tanks = s.tanks ∧ t.store = s.store ∧ t.link = s.link) State.judgeLock s.latchedEntries _ h1
    (fun t i h => by simpa using h)
  simpa [State.latchClearAll] using h2

@[simp] theorem State.engage_frame (s : State) (r : Bool) :
    (s.engage r).1.pending = s.pending ∧ (s.engage r).1.clock = s.clock ∧ (s.engage r).1.strap = s.strap ∧
    (s.engage r).1.config = s.config ∧ (s.engage r).1.image = s.image ∧
    (s.engage r).1.recoveredAtStart = s.recoveredAtStart ∧ (s.engage r).1.tanks = s.tanks ∧
    (s.engage r).1.store = s.store ∧ (s.engage r).1.link = s.link := by
  simp only [State.engage]
  repeat' split
  all_goals simp

@[simp] theorem State.confirmSource_frame (s : State) :
    (s.confirmSource).1.pending = s.pending ∧ (s.confirmSource).1.clock = s.clock ∧
    (s.confirmSource).1.strap = s.strap ∧ (s.confirmSource).1.config = s.config ∧
    (s.confirmSource).1.image = s.image ∧ (s.confirmSource).1.recoveredAtStart = s.recoveredAtStart ∧
    (s.confirmSource).1.tanks = s.tanks ∧ (s.confirmSource).1.store = s.store ∧
    (s.confirmSource).1.link = s.link := by
  simp only [State.confirmSource]
  repeat' split
  all_goals simp

@[simp] theorem State.governRequest_frame (s : State) (m : GovMode) (x : Int) :
    (s.governRequest m x).1.pending = s.pending ∧ (s.governRequest m x).1.clock = s.clock ∧
    (s.governRequest m x).1.strap = s.strap ∧ (s.governRequest m x).1.config = s.config ∧
    (s.governRequest m x).1.image = s.image ∧ (s.governRequest m x).1.seq = s.seq ∧
    (s.governRequest m x).1.recoveredAtStart = s.recoveredAtStart ∧ (s.governRequest m x).1.tanks = s.tanks ∧
    (s.governRequest m x).1.supply = s.supply ∧ (s.governRequest m x).1.store = s.store ∧
    (s.governRequest m x).1.link = s.link := by
  simp only [State.governRequest]
  repeat' split
  all_goals simp

@[simp] theorem State.nudgeRequest_frame (s : State) (up : Bool) (n : Nat) :
    (s.nudgeRequest up n).1.pending = s.pending ∧ (s.nudgeRequest up n).1.clock = s.clock ∧
    (s.nudgeRequest up n).1.strap = s.strap ∧ (s.nudgeRequest up n).1.config = s.config ∧
    (s.nudgeRequest up n).1.image = s.image ∧ (s.nudgeRequest up n).1.matrix = s.matrix ∧
    (s.nudgeRequest up n).1.seq = s.seq ∧ (s.nudgeRequest up n).1.recoveredAtStart = s.recoveredAtStart ∧
    (s.nudgeRequest up n).1.tanks = s.tanks ∧ (s.nudgeRequest up n).1.supply = s.supply ∧
    (s.nudgeRequest up n).1.reports = s.reports ∧ (s.nudgeRequest up n).1.store = s.store ∧
    (s.nudgeRequest up n).1.link = s.link := by
  simp only [State.nudgeRequest]
  repeat' split
  all_goals simp

@[simp] theorem State.primeStart_frame (s : State) :
    (s.primeStart).1.pending = s.pending ∧ (s.primeStart).1.clock = s.clock ∧ (s.primeStart).1.strap = s.strap ∧
    (s.primeStart).1.config = s.config ∧ (s.primeStart).1.image = s.image ∧ (s.primeStart).1.matrix = s.matrix ∧
    (s.primeStart).1.seq = s.seq ∧ (s.primeStart).1.recoveredAtStart = s.recoveredAtStart ∧
    (s.primeStart).1.tanks = s.tanks ∧ (s.primeStart).1.supply = s.supply ∧
    (s.primeStart).1.reports = s.reports ∧ (s.primeStart).1.store = s.store ∧ (s.primeStart).1.link = s.link := by
  simp only [State.primeStart]
  repeat' split
  all_goals simp

@[simp] theorem State.tankSet_frame (s : State) (t : TankIx) (c : TankSettings) :
    (s.tankSet t c).1.pending = s.pending ∧ (s.tankSet t c).1.clock = s.clock ∧
    (s.tankSet t c).1.strap = s.strap ∧ (s.tankSet t c).1.image = s.image ∧ (s.tankSet t c).1.seq = s.seq ∧
    (s.tankSet t c).1.recoveredAtStart = s.recoveredAtStart ∧ (s.tankSet t c).1.store = s.store ∧
    (s.tankSet t c).1.link = s.link := by
  simp only [State.tankSet]
  repeat' split
  all_goals simp

@[simp] theorem State.tankTable_frame (s : State) (t : TankIx) (bs : List Breakpoint) :
    (s.tankTable t bs).1.pending = s.pending ∧ (s.tankTable t bs).1.clock = s.clock ∧
    (s.tankTable t bs).1.strap = s.strap ∧ (s.tankTable t bs).1.image = s.image ∧
    (s.tankTable t bs).1.seq = s.seq ∧ (s.tankTable t bs).1.recoveredAtStart = s.recoveredAtStart ∧
    (s.tankTable t bs).1.store = s.store ∧ (s.tankTable t bs).1.link = s.link := by
  simp only [State.tankTable]
  repeat' split
  all_goals simp

@[simp] theorem State.sourceEngaged_frame (s : State) (w : WaterSource) :
    (s.sourceEngaged w).1.pending = s.pending ∧ (s.sourceEngaged w).1.clock = s.clock ∧
    (s.sourceEngaged w).1.strap = s.strap ∧ (s.sourceEngaged w).1.config = s.config ∧
    (s.sourceEngaged w).1.image = s.image ∧ (s.sourceEngaged w).1.seq = s.seq ∧
    (s.sourceEngaged w).1.recoveredAtStart = s.recoveredAtStart ∧ (s.sourceEngaged w).1.tanks = s.tanks ∧
    (s.sourceEngaged w).1.store = s.store ∧ (s.sourceEngaged w).1.link = s.link := by
  simp only [State.sourceEngaged]
  repeat' split
  all_goals simp

@[simp] theorem State.sourceRequest_frame (s : State) (w : WaterSource) :
    (s.sourceRequest w).1.pending = s.pending ∧ (s.sourceRequest w).1.clock = s.clock ∧
    (s.sourceRequest w).1.strap = s.strap ∧ (s.sourceRequest w).1.config = s.config ∧
    (s.sourceRequest w).1.image = s.image ∧ (s.sourceRequest w).1.seq = s.seq ∧
    (s.sourceRequest w).1.recoveredAtStart = s.recoveredAtStart ∧ (s.sourceRequest w).1.tanks = s.tanks ∧
    (s.sourceRequest w).1.store = s.store ∧ (s.sourceRequest w).1.link = s.link := by
  simp only [State.sourceRequest]
  repeat' split
  all_goals simp

@[simp] theorem State.fillRequest_frame (s : State) (n : Option Nat) :
    (s.fillRequest n).1.pending = s.pending ∧ (s.fillRequest n).1.clock = s.clock ∧
    (s.fillRequest n).1.strap = s.strap ∧ (s.fillRequest n).1.config = s.config ∧
    (s.fillRequest n).1.image = s.image ∧ (s.fillRequest n).1.matrix = s.matrix ∧
    (s.fillRequest n).1.seq = s.seq ∧ (s.fillRequest n).1.recoveredAtStart = s.recoveredAtStart ∧
    (s.fillRequest n).1.gov = s.gov ∧ (s.fillRequest n).1.tanks = s.tanks ∧
    (s.fillRequest n).1.reports = s.reports ∧ (s.fillRequest n).1.store = s.store ∧
    (s.fillRequest n).1.link = s.link := by
  simp only [State.fillRequest]
  repeat' split
  all_goals simp

@[simp] theorem State.fillStop_frame (s : State) :
    (s.fillStop).1.pending = s.pending ∧ (s.fillStop).1.clock = s.clock ∧ (s.fillStop).1.strap = s.strap ∧
    (s.fillStop).1.config = s.config ∧ (s.fillStop).1.image = s.image ∧ (s.fillStop).1.matrix = s.matrix ∧
    (s.fillStop).1.seq = s.seq ∧ (s.fillStop).1.recoveredAtStart = s.recoveredAtStart ∧
    (s.fillStop).1.gov = s.gov ∧ (s.fillStop).1.tanks = s.tanks ∧ (s.fillStop).1.reports = s.reports ∧
    (s.fillStop).1.store = s.store ∧ (s.fillStop).1.link = s.link := by
  simp only [State.fillStop]
  repeat' split
  all_goals simp

@[simp] theorem State.paramSet_frame (s : State) (p : Param) (x : Int) :
    (s.paramSet p x).1.pending = s.pending ∧ (s.paramSet p x).1.clock = s.clock ∧
    (s.paramSet p x).1.strap = s.strap ∧ (s.paramSet p x).1.seq = s.seq ∧
    (s.paramSet p x).1.recoveredAtStart = s.recoveredAtStart ∧ (s.paramSet p x).1.tanks = s.tanks ∧
    (s.paramSet p x).1.store = s.store ∧ (s.paramSet p x).1.link = s.link := by
  simp only [State.paramSet]
  repeat' split
  all_goals simp

@[simp] theorem answerStatus_frame (s : State) (p : List Byte) :
    (answerStatus p s).1.pending = s.pending ∧ (answerStatus p s).1.clock = s.clock ∧
    (answerStatus p s).1.strap = s.strap ∧ (answerStatus p s).1.config = s.config ∧
    (answerStatus p s).1.image = s.image ∧ (answerStatus p s).1.matrix = s.matrix ∧
    (answerStatus p s).1.seq = s.seq ∧ (answerStatus p s).1.gov = s.gov ∧ (answerStatus p s).1.tanks = s.tanks ∧
    (answerStatus p s).1.supply = s.supply ∧ (answerStatus p s).1.store = s.store ∧
    (answerStatus p s).1.link = s.link := by
  unfold answerStatus
  repeat' split
  all_goals simp

@[simp] theorem answerFetch_frame (s : State) (p : List Byte) :
    (answerFetch p s).1.pending = s.pending ∧ (answerFetch p s).1.clock = s.clock ∧
    (answerFetch p s).1.strap = s.strap ∧ (answerFetch p s).1.config = s.config ∧
    (answerFetch p s).1.image = s.image ∧ (answerFetch p s).1.matrix = s.matrix ∧
    (answerFetch p s).1.seq = s.seq ∧ (answerFetch p s).1.recoveredAtStart = s.recoveredAtStart ∧
    (answerFetch p s).1.gov = s.gov ∧ (answerFetch p s).1.tanks = s.tanks ∧
    (answerFetch p s).1.supply = s.supply ∧ (answerFetch p s).1.store = s.store ∧
    (answerFetch p s).1.link = s.link := by
  unfold answerFetch
  repeat' split
  all_goals simp

@[simp] theorem answerGate_frame (s : State) (p : List Byte) :
    (answerGate p s).1.pending = s.pending ∧ (answerGate p s).1.clock = s.clock ∧
    (answerGate p s).1.strap = s.strap ∧ (answerGate p s).1.image = s.image ∧
    (answerGate p s).1.matrix = s.matrix ∧ (answerGate p s).1.seq = s.seq ∧
    (answerGate p s).1.recoveredAtStart = s.recoveredAtStart ∧ (answerGate p s).1.gov = s.gov ∧
    (answerGate p s).1.tanks = s.tanks ∧ (answerGate p s).1.supply = s.supply ∧
    (answerGate p s).1.reports = s.reports ∧ (answerGate p s).1.store = s.store ∧
    (answerGate p s).1.link = s.link := by
  unfold answerGate
  repeat' split
  all_goals simp

@[simp] theorem answerInputs_frame (s : State) (p : List Byte) :
    (answerInputs p s).1.pending = s.pending ∧ (answerInputs p s).1.clock = s.clock ∧
    (answerInputs p s).1.strap = s.strap ∧ (answerInputs p s).1.config = s.config ∧
    (answerInputs p s).1.matrix = s.matrix ∧ (answerInputs p s).1.seq = s.seq ∧
    (answerInputs p s).1.recoveredAtStart = s.recoveredAtStart ∧ (answerInputs p s).1.gov = s.gov ∧
    (answerInputs p s).1.tanks = s.tanks ∧ (answerInputs p s).1.supply = s.supply ∧
    (answerInputs p s).1.reports = s.reports ∧ (answerInputs p s).1.store = s.store ∧
    (answerInputs p s).1.link = s.link := by
  unfold answerInputs
  repeat' split
  all_goals simp

@[simp] theorem answerRestart_frame (s : State) (p : List Byte) :
    (answerRestart p s).1.pending = s.pending ∧ (answerRestart p s).1.clock = s.clock ∧
    (answerRestart p s).1.strap = s.strap ∧ (answerRestart p s).1.config = s.config ∧
    (answerRestart p s).1.image = s.image ∧ (answerRestart p s).1.matrix = s.matrix ∧
    (answerRestart p s).1.seq = s.seq ∧ (answerRestart p s).1.recoveredAtStart = s.recoveredAtStart ∧
    (answerRestart p s).1.gov = s.gov ∧ (answerRestart p s).1.tanks = s.tanks ∧
    (answerRestart p s).1.supply = s.supply ∧ (answerRestart p s).1.reports = s.reports ∧
    (answerRestart p s).1.store = s.store := by
  unfold answerRestart
  repeat' split
  all_goals simp

@[simp] theorem answerLockoutSet_frame (s : State) (p : List Byte) :
    (answerLockoutSet p s).1.pending = s.pending ∧ (answerLockoutSet p s).1.clock = s.clock ∧
    (answerLockoutSet p s).1.strap = s.strap ∧ (answerLockoutSet p s).1.image = s.image ∧
    (answerLockoutSet p s).1.seq = s.seq ∧ (answerLockoutSet p s).1.recoveredAtStart = s.recoveredAtStart ∧
    (answerLockoutSet p s).1.tanks = s.tanks ∧ (answerLockoutSet p s).1.store = s.store ∧
    (answerLockoutSet p s).1.link = s.link := by
  unfold answerLockoutSet
  repeat' split
  all_goals simp

@[simp] theorem answerLockoutGet_frame (s : State) (p : List Byte) :
    (answerLockoutGet p s).1.pending = s.pending ∧ (answerLockoutGet p s).1.clock = s.clock ∧
    (answerLockoutGet p s).1.strap = s.strap ∧ (answerLockoutGet p s).1.config = s.config ∧
    (answerLockoutGet p s).1.image = s.image ∧ (answerLockoutGet p s).1.matrix = s.matrix ∧
    (answerLockoutGet p s).1.seq = s.seq ∧ (answerLockoutGet p s).1.recoveredAtStart = s.recoveredAtStart ∧
    (answerLockoutGet p s).1.gov = s.gov ∧ (answerLockoutGet p s).1.tanks = s.tanks ∧
    (answerLockoutGet p s).1.supply = s.supply ∧ (answerLockoutGet p s).1.reports = s.reports ∧
    (answerLockoutGet p s).1.store = s.store ∧ (answerLockoutGet p s).1.link = s.link := by
  unfold answerLockoutGet
  repeat' split
  all_goals simp

@[simp] theorem answerLatchClear_frame (s : State) (p : List Byte) :
    (answerLatchClear p s).1.pending = s.pending ∧ (answerLatchClear p s).1.clock = s.clock ∧
    (answerLatchClear p s).1.strap = s.strap ∧ (answerLatchClear p s).1.config = s.config ∧
    (answerLatchClear p s).1.image = s.image ∧ (answerLatchClear p s).1.seq = s.seq ∧
    (answerLatchClear p s).1.recoveredAtStart = s.recoveredAtStart ∧ (answerLatchClear p s).1.tanks = s.tanks ∧
    (answerLatchClear p s).1.store = s.store ∧ (answerLatchClear p s).1.link = s.link := by
  unfold answerLatchClear
  repeat' split
  all_goals simp

@[simp] theorem answerSilence_frame (s : State) (p : List Byte) :
    (answerSilence p s).1.pending = s.pending ∧ (answerSilence p s).1.clock = s.clock ∧
    (answerSilence p s).1.strap = s.strap ∧ (answerSilence p s).1.config = s.config ∧
    (answerSilence p s).1.image = s.image ∧ (answerSilence p s).1.seq = s.seq ∧
    (answerSilence p s).1.recoveredAtStart = s.recoveredAtStart ∧ (answerSilence p s).1.gov = s.gov ∧
    (answerSilence p s).1.tanks = s.tanks ∧ (answerSilence p s).1.supply = s.supply ∧
    (answerSilence p s).1.reports = s.reports ∧ (answerSilence p s).1.store = s.store ∧
    (answerSilence p s).1.link = s.link := by
  unfold answerSilence
  repeat' split
  all_goals simp

@[simp] theorem answerEngage_frame (s : State) (p : List Byte) :
    (answerEngage p s).1.pending = s.pending ∧ (answerEngage p s).1.clock = s.clock ∧
    (answerEngage p s).1.strap = s.strap ∧ (answerEngage p s).1.config = s.config ∧
    (answerEngage p s).1.image = s.image ∧ (answerEngage p s).1.recoveredAtStart = s.recoveredAtStart ∧
    (answerEngage p s).1.tanks = s.tanks ∧ (answerEngage p s).1.store = s.store ∧
    (answerEngage p s).1.link = s.link := by
  unfold answerEngage
  repeat' split
  all_goals simp

@[simp] theorem answerConfirm_frame (s : State) (p : List Byte) :
    (answerConfirm p s).1.pending = s.pending ∧ (answerConfirm p s).1.clock = s.clock ∧
    (answerConfirm p s).1.strap = s.strap ∧ (answerConfirm p s).1.config = s.config ∧
    (answerConfirm p s).1.image = s.image ∧ (answerConfirm p s).1.recoveredAtStart = s.recoveredAtStart ∧
    (answerConfirm p s).1.tanks = s.tanks ∧ (answerConfirm p s).1.store = s.store ∧
    (answerConfirm p s).1.link = s.link := by
  unfold answerConfirm
  repeat' split
  all_goals simp

@[simp] theorem answerDisengage_frame (s : State) (p : List Byte) :
    (answerDisengage p s).1.pending = s.pending ∧ (answerDisengage p s).1.clock = s.clock ∧
    (answerDisengage p s).1.strap = s.strap ∧ (answerDisengage p s).1.config = s.config ∧
    (answerDisengage p s).1.image = s.image ∧ (answerDisengage p s).1.recoveredAtStart = s.recoveredAtStart ∧
    (answerDisengage p s).1.tanks = s.tanks ∧ (answerDisengage p s).1.store = s.store ∧
    (answerDisengage p s).1.link = s.link := by
  unfold answerDisengage
  repeat' split
  all_goals simp

@[simp] theorem answerGovern_frame (s : State) (p : List Byte) :
    (answerGovern p s).1.pending = s.pending ∧ (answerGovern p s).1.clock = s.clock ∧
    (answerGovern p s).1.strap = s.strap ∧ (answerGovern p s).1.config = s.config ∧
    (answerGovern p s).1.image = s.image ∧ (answerGovern p s).1.seq = s.seq ∧
    (answerGovern p s).1.recoveredAtStart = s.recoveredAtStart ∧ (answerGovern p s).1.tanks = s.tanks ∧
    (answerGovern p s).1.supply = s.supply ∧ (answerGovern p s).1.store = s.store ∧
    (answerGovern p s).1.link = s.link := by
  unfold answerGovern
  repeat' split
  all_goals simp

@[simp] theorem answerNudge_frame (s : State) (p : List Byte) :
    (answerNudge p s).1.pending = s.pending ∧ (answerNudge p s).1.clock = s.clock ∧
    (answerNudge p s).1.strap = s.strap ∧ (answerNudge p s).1.config = s.config ∧
    (answerNudge p s).1.image = s.image ∧ (answerNudge p s).1.matrix = s.matrix ∧
    (answerNudge p s).1.seq = s.seq ∧ (answerNudge p s).1.recoveredAtStart = s.recoveredAtStart ∧
    (answerNudge p s).1.tanks = s.tanks ∧ (answerNudge p s).1.supply = s.supply ∧
    (answerNudge p s).1.reports = s.reports ∧ (answerNudge p s).1.store = s.store ∧
    (answerNudge p s).1.link = s.link := by
  unfold answerNudge
  repeat' split
  all_goals simp

@[simp] theorem answerResume_frame (s : State) (p : List Byte) :
    (answerResume p s).1.pending = s.pending ∧ (answerResume p s).1.clock = s.clock ∧
    (answerResume p s).1.strap = s.strap ∧ (answerResume p s).1.config = s.config ∧
    (answerResume p s).1.image = s.image ∧ (answerResume p s).1.seq = s.seq ∧
    (answerResume p s).1.recoveredAtStart = s.recoveredAtStart ∧ (answerResume p s).1.tanks = s.tanks ∧
    (answerResume p s).1.supply = s.supply ∧ (answerResume p s).1.store = s.store ∧
    (answerResume p s).1.link = s.link := by
  unfold answerResume
  repeat' split
  all_goals simp

@[simp] theorem answerPrime_frame (s : State) (p : List Byte) :
    (answerPrime p s).1.pending = s.pending ∧ (answerPrime p s).1.clock = s.clock ∧
    (answerPrime p s).1.strap = s.strap ∧ (answerPrime p s).1.config = s.config ∧
    (answerPrime p s).1.image = s.image ∧ (answerPrime p s).1.matrix = s.matrix ∧
    (answerPrime p s).1.seq = s.seq ∧ (answerPrime p s).1.recoveredAtStart = s.recoveredAtStart ∧
    (answerPrime p s).1.tanks = s.tanks ∧ (answerPrime p s).1.supply = s.supply ∧
    (answerPrime p s).1.reports = s.reports ∧ (answerPrime p s).1.store = s.store ∧
    (answerPrime p s).1.link = s.link := by
  unfold answerPrime
  repeat' split
  all_goals simp

@[simp] theorem answerGovRead_frame (s : State) (p : List Byte) :
    (answerGovRead p s).1.pending = s.pending ∧ (answerGovRead p s).1.clock = s.clock ∧
    (answerGovRead p s).1.strap = s.strap ∧ (answerGovRead p s).1.config = s.config ∧
    (answerGovRead p s).1.image = s.image ∧ (answerGovRead p s).1.matrix = s.matrix ∧
    (answerGovRead p s).1.seq = s.seq ∧ (answerGovRead p s).1.recoveredAtStart = s.recoveredAtStart ∧
    (answerGovRead p s).1.gov = s.gov ∧ (answerGovRead p s).1.tanks = s.tanks ∧
    (answerGovRead p s).1.supply = s.supply ∧ (answerGovRead p s).1.reports = s.reports ∧
    (answerGovRead p s).1.store = s.store ∧ (answerGovRead p s).1.link = s.link := by
  unfold answerGovRead
  repeat' split
  all_goals simp

@[simp] theorem answerTankSet_frame (s : State) (p : List Byte) :
    (answerTankSet p s).1.pending = s.pending ∧ (answerTankSet p s).1.clock = s.clock ∧
    (answerTankSet p s).1.strap = s.strap ∧ (answerTankSet p s).1.image = s.image ∧
    (answerTankSet p s).1.seq = s.seq ∧ (answerTankSet p s).1.recoveredAtStart = s.recoveredAtStart ∧
    (answerTankSet p s).1.store = s.store ∧ (answerTankSet p s).1.link = s.link := by
  unfold answerTankSet
  repeat' split
  all_goals simp

@[simp] theorem answerTankTable_frame (s : State) (p : List Byte) :
    (answerTankTable p s).1.pending = s.pending ∧ (answerTankTable p s).1.clock = s.clock ∧
    (answerTankTable p s).1.strap = s.strap ∧ (answerTankTable p s).1.image = s.image ∧
    (answerTankTable p s).1.seq = s.seq ∧ (answerTankTable p s).1.recoveredAtStart = s.recoveredAtStart ∧
    (answerTankTable p s).1.store = s.store ∧ (answerTankTable p s).1.link = s.link := by
  unfold answerTankTable
  repeat' split
  all_goals simp

@[simp] theorem answerTankRead_frame (s : State) (p : List Byte) :
    (answerTankRead p s).1.pending = s.pending ∧ (answerTankRead p s).1.clock = s.clock ∧
    (answerTankRead p s).1.strap = s.strap ∧ (answerTankRead p s).1.config = s.config ∧
    (answerTankRead p s).1.image = s.image ∧ (answerTankRead p s).1.matrix = s.matrix ∧
    (answerTankRead p s).1.seq = s.seq ∧ (answerTankRead p s).1.recoveredAtStart = s.recoveredAtStart ∧
    (answerTankRead p s).1.gov = s.gov ∧ (answerTankRead p s).1.tanks = s.tanks ∧
    (answerTankRead p s).1.supply = s.supply ∧ (answerTankRead p s).1.reports = s.reports ∧
    (answerTankRead p s).1.store = s.store ∧ (answerTankRead p s).1.link = s.link := by
  unfold answerTankRead
  repeat' split
  all_goals simp

@[simp] theorem answerSource_frame (s : State) (p : List Byte) :
    (answerSource p s).1.pending = s.pending ∧ (answerSource p s).1.clock = s.clock ∧
    (answerSource p s).1.strap = s.strap ∧ (answerSource p s).1.config = s.config ∧
    (answerSource p s).1.image = s.image ∧ (answerSource p s).1.seq = s.seq ∧
    (answerSource p s).1.recoveredAtStart = s.recoveredAtStart ∧ (answerSource p s).1.tanks = s.tanks ∧
    (answerSource p s).1.store = s.store ∧ (answerSource p s).1.link = s.link := by
  unfold answerSource
  repeat' split
  all_goals simp

@[simp] theorem answerFill_frame (s : State) (p : List Byte) :
    (answerFill p s).1.pending = s.pending ∧ (answerFill p s).1.clock = s.clock ∧
    (answerFill p s).1.strap = s.strap ∧ (answerFill p s).1.config = s.config ∧
    (answerFill p s).1.image = s.image ∧ (answerFill p s).1.matrix = s.matrix ∧ (answerFill p s).1.seq = s.seq ∧
    (answerFill p s).1.recoveredAtStart = s.recoveredAtStart ∧ (answerFill p s).1.gov = s.gov ∧
    (answerFill p s).1.tanks = s.tanks ∧ (answerFill p s).1.reports = s.reports ∧
    (answerFill p s).1.store = s.store ∧ (answerFill p s).1.link = s.link := by
  unfold answerFill
  repeat' split
  all_goals simp

@[simp] theorem answerParamSet_frame (s : State) (p : List Byte) :
    (answerParamSet p s).1.pending = s.pending ∧ (answerParamSet p s).1.clock = s.clock ∧
    (answerParamSet p s).1.strap = s.strap ∧ (answerParamSet p s).1.seq = s.seq ∧
    (answerParamSet p s).1.recoveredAtStart = s.recoveredAtStart ∧ (answerParamSet p s).1.tanks = s.tanks ∧
    (answerParamSet p s).1.store = s.store ∧ (answerParamSet p s).1.link = s.link := by
  unfold answerParamSet
  repeat' split
  all_goals simp

@[simp] theorem answerParamGet_frame (s : State) (p : List Byte) :
    (answerParamGet p s).1.pending = s.pending ∧ (answerParamGet p s).1.clock = s.clock ∧
    (answerParamGet p s).1.strap = s.strap ∧ (answerParamGet p s).1.config = s.config ∧
    (answerParamGet p s).1.image = s.image ∧ (answerParamGet p s).1.matrix = s.matrix ∧
    (answerParamGet p s).1.seq = s.seq ∧ (answerParamGet p s).1.recoveredAtStart = s.recoveredAtStart ∧
    (answerParamGet p s).1.gov = s.gov ∧ (answerParamGet p s).1.tanks = s.tanks ∧
    (answerParamGet p s).1.supply = s.supply ∧ (answerParamGet p s).1.reports = s.reports ∧
    (answerParamGet p s).1.store = s.store ∧ (answerParamGet p s).1.link = s.link := by
  unfold answerParamGet
  repeat' split
  all_goals simp

@[simp] theorem answerCommit_frame (s : State) (p : List Byte) :
    (answerCommit p s).1.pending = s.pending ∧ (answerCommit p s).1.clock = s.clock ∧
    (answerCommit p s).1.strap = s.strap ∧ (answerCommit p s).1.config = s.config ∧
    (answerCommit p s).1.image = s.image ∧ (answerCommit p s).1.matrix = s.matrix ∧
    (answerCommit p s).1.seq = s.seq ∧ (answerCommit p s).1.recoveredAtStart = s.recoveredAtStart ∧
    (answerCommit p s).1.gov = s.gov ∧ (answerCommit p s).1.tanks = s.tanks ∧
    (answerCommit p s).1.supply = s.supply ∧ (answerCommit p s).1.reports = s.reports ∧
    (answerCommit p s).1.link = s.link := by
  unfold answerCommit
  repeat' split
  all_goals simp

end Sys2Proof.Machine
end

