-- ==== Sys2Proof/Laws/Link.lean ====
section
/-! SUPPORT. Link.lean: what the transmitter does when it chooses (R152), and what taking a request frame leaves
(R150). -/

namespace Sys2Proof.Machine

/-- A busy transmitter chooses nothing. -/
theorem kick_busy {s : State} {f : TxFrame} (h : s.link.tx = some f) : s.kick = s := by simp [State.kick, h]

/-- An idle transmitter with a reply waiting begins the oldest one (R152). -/
theorem kick_reply {s : State} {r : Reply} {rs : List Reply} (h : s.link.tx = none) (hr : s.link.replies = r :: rs) :
    s.kick = { s with link := s.link.beginFrame ⟨true, frameBytes r.kind r.tag r.payload⟩ } := by
  simp [State.kick, h, hr]

/-- In TWO_WIRE, and after an accepted RESTART, no report frame begins (R147, R152, R154). -/
theorem kick_silent {s : State} (hr : s.link.replies = [])
    (hm : s.link.mode = .twoWire ∨ s.link.restarting = true) : s.kick = s := by
  unfold State.kick
  split
  · rfl
  · rw [hr]
    rcases hm with hm | hm <;> simp [hm]

/-- After a choice the transmitter has nothing left to choose. -/
theorem kick_kick (s : State) : s.kick.kick = s.kick := by
  rcases h : s.kick.link.tx with _ | f
  · have : s.kick = s := by
      unfold State.kick at h ⊢
      repeat' split
      all_goals simp_all [LinkPort.beginFrame]
    rw [this, this]
  · exact kick_busy h

/-- A request whose owner leaves the link port alone is answered, its reply last in the list (R150). -/
theorem onFrame_answered {s : State} (kind tag : Byte) (answer : State → State × Answer) (listening : s.listening = true)
    (link : (answer { s with link := { s.link with rx := [] } }).1.link = { s.link with rx := [] }) :
    s.onFrame kind tag answer =
      ({ (answer { s with link := { s.link with rx := [] } }).1 with link := s.link }).answered kind tag
        (answer { s with link := { s.link with rx := [] } }).2 := by
  unfold State.onFrame
  rw [if_pos listening]
  dsimp only
  generalize answer { s with link := { s.link with rx := [] } } = r at link ⊢
  rcases htx : s.link.tx with _ | f
  · rcases hr : s.link.replies ++ [replyOf kind tag r.2] with _ | ⟨q, qs⟩
    · exact absurd hr (by simp)
    · have h1 : (r.1.pushReply (replyOf kind tag r.2)).link.tx = none := by simp [link, htx]
      have h2 : (r.1.pushReply (replyOf kind tag r.2)).link.replies = q :: qs := by simp [link, hr]
      rw [kick_reply h1 h2]
      simp [State.pushReply, State.answered, LinkPort.answered, LinkPort.beginFrame, link, htx, hr]
  · have h1 : (r.1.pushReply (replyOf kind tag r.2)).link.tx = some f := by simp [link, htx]
    rw [kick_busy h1]
    simp [State.pushReply, State.answered, LinkPort.answered, link, htx]

/-- A frame that comes while the receiver does not listen is lost (R150, R154). -/
theorem onFrame_lost {s : State} (kind tag : Byte) (answer : State → State × Answer) (h : s.listening = false) :
    s.onFrame kind tag answer = s := by simp [State.onFrame, h]

/-- The reply list grows by the request's reply, and never beyond four (R150). -/
theorem answered_replies (s : State) (kind tag : Byte) (a : Answer) :
    (s.answered kind tag a).link.replies = s.link.replies ++ [replyOf kind tag a] := rfl

end Sys2Proof.Machine
end

