-- ==== Sys2Proof/Laws/Queue.lean ====
section
/-! SUPPORT. Queue.lean: what a submission and a delivery do to the report queue (R160, R161). -/

namespace Sys2Proof.Machine

/-- The largest class number is no smaller than any class of the list. -/
theorem le_maxClass {l : List Report} {r : Report} (h : r ∈ l) : r.cls ≤ maxClass l := by
  have key : ∀ (l : List Report) (m : Nat), m ≤ l.foldl (fun m r => max m r.cls) m ∧
      ∀ r ∈ l, r.cls ≤ l.foldl (fun m r => max m r.cls) m := by
    intro l
    induction l with
    | nil => simp
    | cons a l ih =>
      intro m
      obtain ⟨h1, h2⟩ := ih (max m a.cls)
      refine ⟨le_trans (le_max_left _ _) h1, fun r hr => ?_⟩
      rcases List.mem_cons.1 hr with rfl | hr
      · exact le_trans (le_max_right _ _) h1
      · exact h2 r hr
  exact (key l 0).2 r h

theorem coalesce_sameKey (x r y : Report) : (x.coalesce r).sameKey y = x.sameKey y := rfl

/-- The four things a submission can do (R160). -/
theorem submit_cases (q : ReportQueue) (r : Report) :
    ((∃ x ∈ q.list, x.sameKey r = true) ∧
      q.submit r = { q with list := q.list.map fun x => if x.sameKey r then x.coalesce r else x }) ∨
    ((∀ x ∈ q.list, x.sameKey r = false) ∧ q.list.length < 24 ∧
      q.submit r = { q with list := q.list ++ [{ r with count := 1 }] }) ∨
    ((∀ x ∈ q.list, x.sameKey r = false) ∧ 24 ≤ q.list.length ∧ r.cls < maxClass q.list ∧
      q.submit r =
        { list := dropLastOfClass (maxClass q.list) q.list ++ [{ r with count := 1 }], overflowed := true }) ∨
    ((∀ x ∈ q.list, x.sameKey r = false) ∧ 24 ≤ q.list.length ∧ maxClass q.list ≤ r.cls ∧
      q.submit r = { q with overflowed := true }) := by
  unfold ReportQueue.submit
  split_ifs with h1 h2 h3
  · exact .inl ⟨by simpa [List.any_eq_true] using h1, rfl⟩
  · exact .inr (.inl ⟨by simpa using h1, h2, rfl⟩)
  · exact .inr (.inr (.inl ⟨by simpa using h1, by omega, h3, rfl⟩))
  · exact .inr (.inr (.inr ⟨by simpa using h1, by omega, by omega, rfl⟩))

/-- The list without its last report of a class is a part of the list, in its order. -/
theorem dropLastOfClass_sublist (c : Nat) (l : List Report) : (dropLastOfClass c l).Sublist l := by
  have h : ((l.reverse.eraseP fun r => r.cls == c).reverse).Sublist l.reverse.reverse :=
    List.Sublist.reverse List.eraseP_sublist
  simpa [dropLastOfClass] using h

/-- The overflow flag is sticky under submissions (R160). -/
theorem submit_overflowed (q : ReportQueue) (r : Report) (h : q.overflowed = true) : (q.submit r).overflowed = true := by
  rcases submit_cases q r with ⟨-, e⟩ | ⟨-, -, e⟩ | ⟨-, -, -, e⟩ | ⟨-, -, -, e⟩ <;> simp [e, h]

/-- A delivery takes a report of the list, of an open class, and leaves the others (R161). -/
theorem takeNext_spec {q q' : ReportQueue} {gates : BitVec 6} {r : Report} (h : q.takeNext gates = some (r, q')) :
    r ∈ q.list ∧ gateOpen gates r.cls = true ∧ nextClass gates q.list = some r.cls ∧
    q'.list = q.list.eraseP (fun x => x.cls == r.cls) ∧ q'.overflowed = q.overflowed := by
  unfold ReportQueue.takeNext at h
  split at h
  · cases h
  · rename_i c hc
    split at h
    · cases h
    · rename_i x hx
      obtain ⟨rfl, rfl⟩ : x = r ∧ _ = q' := by simpa using h
      have hcls : x.cls = c := by simpa using List.find?_some hx
      have hopen := List.find?_some hc
      subst hcls
      refine ⟨List.mem_of_find?_eq_some hx, ?_, hc, rfl, rfl⟩
      simp only [Bool.and_eq_true] at hopen
      exact hopen.1

end Sys2Proof.Machine
end

