-- ==== Sys2Proof/Laws/Store.lean ====
section
/-! SUPPORT. Store.lean: the laws of the array of store words. A read after a write gives the word written, other
addresses are left alone, every write keeps the canonical form, and in that form equal arrays are equal lists. -/

namespace Sys2Proof.Machine

/-- Every address of the list lies above a. -/
def above (a : Nat) (cells : List (Nat × StoreWord)) : Prop := ∀ p ∈ cells, a < p.1

theorem cellsWf_cons {a : Nat} {w : StoreWord} {rest : List (Nat × StoreWord)} :
    cellsWf ((a, w) :: rest) = true ↔ w ≠ factoryWord a ∧ above a rest ∧ cellsWf rest = true := by
  simp [cellsWf, above, and_assoc]

theorem readCell_above {a : Nat} {cells : List (Nat × StoreWord)} (h : above a cells) :
    readCell cells a = factoryWord a := by
  induction cells with
  | nil => rfl
  | cons p rest ih =>
    have hp : a < p.1 := h p (by simp)
    simp only [readCell]
    rw [if_neg (by omega)]
    exact ih fun q hq => h q (List.mem_cons_of_mem _ hq)

theorem above_trans {a b : Nat} {cells : List (Nat × StoreWord)} (hab : a < b) (h : above b cells) : above a cells :=
  fun p hp => Nat.lt_trans hab (h p hp)

theorem above_writeCell {a b : Nat} {w : StoreWord} {cells : List (Nat × StoreWord)} (h : above b cells)
    (hb : b < a) : above b (writeCell cells a w) := by
  induction cells with
  | nil =>
    unfold writeCell
    split
    · simp [above]
    · simpa [above] using hb
  | cons p rest ih =>
    obtain ⟨c, x⟩ := p
    have hc : b < c := h (c, x) (by simp)
    have hr : above b rest := fun q hq => h q (List.mem_cons_of_mem _ hq)
    unfold writeCell
    split_ifs
    · exact h
    · intro q hq
      rcases List.mem_cons.1 hq with rfl | hq
      · exact hb
      · exact h q hq
    · exact hr
    · intro q hq
      rcases List.mem_cons.1 hq with rfl | hq
      · exact hb
      · exact hr q hq
    · intro q hq
      rcases List.mem_cons.1 hq with rfl | hq
      · exact hc
      · exact ih hr q hq

/-- A write keeps the canonical form. -/
theorem writeCell_wf {cells : List (Nat × StoreWord)} (h : cellsWf cells = true) (a : Nat) (w : StoreWord) :
    cellsWf (writeCell cells a w) = true := by
  induction cells with
  | nil =>
    unfold writeCell
    split
    · rfl
    · simp_all [cellsWf]
  | cons p rest ih =>
    obtain ⟨b, x⟩ := p
    obtain ⟨hx, hb, hr⟩ := cellsWf_cons.1 h
    unfold writeCell
    split_ifs with hab hw hab' hw'
    · exact h
    · exact cellsWf_cons.2 ⟨hw, fun q hq => by
        rcases List.mem_cons.1 hq with rfl | hq
        · exact hab
        · exact Nat.lt_trans hab (hb q hq), h⟩
    · exact hr
    · subst hab'
      exact cellsWf_cons.2 ⟨hw', hb, hr⟩
    · exact cellsWf_cons.2 ⟨hx, above_writeCell hb (by omega), ih hr⟩

/-- Several writes keep the canonical form. -/
theorem writeCells_wf {cells : List (Nat × StoreWord)} (h : cellsWf cells = true) (found : List (Nat × StoreWord)) :
    cellsWf (writeCells cells found) = true := by
  unfold writeCells
  refine foldl_wf found cells h
where
  foldl_wf (found cells : List (Nat × StoreWord)) (h : cellsWf cells = true) :
      cellsWf (found.foldl (fun cs p => if p.1 < 256 then writeCell cs p.1 p.2 else cs) cells) = true := by
    induction found generalizing cells with
    | nil => exact h
    | cons p rest ih =>
      simp only [List.foldl_cons]
      split
      · exact ih _ (writeCell_wf h _ _)
      · exact ih _ h

/-- Reading the address just written gives the word written. -/
theorem readCell_writeCell_self {cells : List (Nat × StoreWord)} (h : cellsWf cells = true) (a : Nat)
    (w : StoreWord) : readCell (writeCell cells a w) a = w := by
  induction cells with
  | nil =>
    unfold writeCell
    split
    · simp_all [readCell]
    · simp [readCell]
  | cons p rest ih =>
    obtain ⟨b, x⟩ := p
    obtain ⟨-, hb, hr⟩ := cellsWf_cons.1 h
    unfold writeCell
    split_ifs with hab hw hab' hw'
    · rw [readCell_above, hw]
      intro q hq
      rcases List.mem_cons.1 hq with rfl | hq
      · exact hab
      · exact Nat.lt_trans hab (hb q hq)
    · simp [readCell]
    · subst hab'
      rw [readCell_above hb, hw']
    · simp [readCell]
    · simp only [readCell]
      rw [if_neg hab', ih hr]

/-- Reading any other address gives what it gave before the write. -/
theorem readCell_writeCell_ne {cells : List (Nat × StoreWord)} (h : cellsWf cells = true) {a c : Nat}
    (w : StoreWord) (hc : c ≠ a) : readCell (writeCell cells a w) c = readCell cells c := by
  induction cells with
  | nil =>
    unfold writeCell
    split <;> simp [readCell, hc]
  | cons p rest ih =>
    obtain ⟨b, x⟩ := p
    obtain ⟨-, hb, hr⟩ := cellsWf_cons.1 h
    unfold writeCell
    split_ifs with hab hw hab' hw'
    · rfl
    · simp [readCell, hc]
    · subst hab'
      simp [readCell, hc]
    · subst hab'
      simp [readCell, hc]
    · simp only [readCell]
      split
      · rfl
      · exact ih hr

/-- In the canonical form two lists that read alike everywhere are the same list. -/
theorem cells_ext {xs ys : List (Nat × StoreWord)} (hx : cellsWf xs = true) (hy : cellsWf ys = true)
    (h : ∀ a, readCell xs a = readCell ys a) : xs = ys := by
  induction xs generalizing ys with
  | nil =>
    cases ys with
    | nil => rfl
    | cons q ys =>
      obtain ⟨b, y⟩ := q
      have hb := h b
      simp only [readCell, if_true] at hb
      exact absurd hb.symm (cellsWf_cons.1 hy).1
  | cons p xs ih =>
    obtain ⟨a, x⟩ := p
    obtain ⟨hxa, hax, hxs⟩ := cellsWf_cons.1 hx
    cases ys with
    | nil =>
      have ha := h a
      simp only [readCell, if_true] at ha
      exact absurd ha hxa
    | cons q ys =>
      obtain ⟨b, y⟩ := q
      obtain ⟨hyb, hby, hys⟩ := cellsWf_cons.1 hy
      have ha := h a
      have hb := h b
      simp only [readCell, if_true] at ha hb
      have hab : a = b := by
        by_contra hne
        rw [if_neg hne] at ha
        rw [if_neg (Ne.symm hne)] at hb
        rcases Nat.lt_or_gt_of_ne hne with hlt | hgt
        · exact hxa (by rw [ha, readCell_above (above_trans hlt hby)])
        · exact hyb (by rw [← hb, readCell_above (above_trans hgt hax)])
      subst hab
      simp only [if_true] at ha
      subst ha
      refine congrArg _ (ih hxs hys fun c => ?_)
      by_cases hc : c = a
      · subst hc
        rw [readCell_above hax, readCell_above hby]
      · have := h c
        simpa [readCell, hc] using this

/-- The store right after reset is in the canonical form. -/
theorem reset_cells_wf : cellsWf State.reset.store.cells = true := rfl

end Sys2Proof.Machine
end

