-- ==== Sys2Proof/Tests/Slice0.lean ====
section
/-! SUPPORT. Slice0.lean: small tests, one step each, whose expected results come from the manual's worked exercises and
tables, and, for every statement with hypotheses, a state and operands that meet them. -/

set_option Elab.async false

namespace Sys2Proof.Tests

open Sys2Proof Sys2Proof.Machine

/-! ### Well-formedness: an ill-formed term for each check, refused -/

theorem test_wf_payload_of_60 : (Instr.silence 1 (List.replicate 60 0)).wellFormed = true := by decide +kernel
theorem test_wf_refuses_payload_of_61 : (Instr.silence 1 (List.replicate 61 0)).wellFormed = false := by decide +kernel
theorem test_wf_address_255 : (Instr.powerOn [(255, ⟨0, 0⟩)]).wellFormed = true := by decide +kernel
theorem test_wf_refuses_address_256 : (Instr.resetLine [(256, ⟨0, 0⟩)]).wellFormed = false := by decide +kernel
theorem test_wf_refuses_known_kind : (Instr.unknownKindFrame 0x53 1 []).wellFormed = false := by decide +kernel
theorem test_wf_unknown_kind : (Instr.unknownKindFrame 0x54 1 []).wellFormed = true := by decide +kernel
theorem test_wf_refuses_long_unknown : (Instr.unknownKindFrame 0x54 1 (List.replicate 61 0)).wellFormed = false := by
  decide +kernel

/-- No row of the table has bits, so no word spells a command. -/
theorem test_no_word_decodes : decodeTableWord 8 1 = none ∧ decodeTableWord 0 0 = none := by decide +kernel

/-! ### Frames: the exercise of R149 -/

theorem test_check_of_status_tag_5 : crc8 [0x03, 0x01, 0x05, 0x00] = 0x10 := by decide +kernel
theorem test_check_step_by_step : crc8 [0x03] = 0x09 ∧ crc8 [0x03, 0x01] = 0x38 ∧ crc8 [0x03, 0x01, 0x05] = 0xB3 := by
  decide +kernel
theorem test_check_of_status_tag_6 : crc8 [0x03, 0x01, 0x06, 0x00] = 0x2F := by decide +kernel
theorem test_check_of_the_bad_frame : crc8 [0x04, 0x01, 0x05, 0x00, 0x10] = 0x29 := by decide +kernel
theorem test_frame_of_status : frameBytes 0x01 5 [0] = [0x7A, 3, 1, 5, 0, 0x10] := by decide +kernel

/-! ### Small states -/

/-- A part with a complete image, an engine at 740 rpm, the lines given set and all others clear, and the sequencer in
that state on that path, every output as its law gives it. The link is TWO_WIRE, so reports stay in the queue. -/
def place (st : SeqState) (path : DrivePath) (set : List Line) : State :=
  let s : State := { State.reset with
    clock := 5000
    image := { State.reset.image with
      a0 := ⟨some 850, .ok, 0, 0, 0⟩, a1 := ⟨some 100, .ok, 0, 0, 0⟩, a2 := ⟨some 40, .ok, 0, 0, 0⟩
      complete := true, n := 740
      lines := PerLine.ofFn fun l => { startLine with state := if l ∈ set then .high else .low } }
    seq := { State.reset.seq with state := st, path, oClutch := path == .clutch && st != .releasing }
    gov := if st = .engaged then { State.reset.gov with opMode := .idle, effMode := .idle } else State.reset.gov
    matrix := { State.reset.matrix with mode := modeOf st path, throttleMode := throttleModeOf (modeOf st path) } }
  let s : State := { s with matrix := { s.matrix with permits := PerPermit.ofFn fun p => s.permitHeld p } }
  let s : State := { s with matrix := { s.matrix with driveInhibit := !s.matrix.permits.drive, cap := s.throttleCap } }
  { s with
    supply := { s.supply with tankToPump := s.valveOpen }
    strap := .twoWire, link := startLink .twoWire }

/-- ROAD, parked and in neutral. -/
def road : State := place .idle .none [.d0, .d1]
/-- STATIONARY_PUMP with its feedback. -/
def pumping : State := place .engaged .split [.d0, .d2, .d3]
/-- PUMP_AND_ROLL with its feedback. -/
def rolling : State := place .engaged .clutch [.d4]

/-- The step timer running with that window. -/
def timed (w : StepWindow) (s : State) : State := { s with seq := { s.seq with stepTimer := some ⟨w, ⟨4000, 3000⟩⟩ } }

/-- The governor in a mode with a setpoint at its target, that integrator and demand. -/
def governing (m : GovMode) (target : Int) (integrator demand : Nat) (s : State) : State :=
  { s with gov := { s.gov with
      opMode := m, opTarget := target, effMode := m, effTarget := some target, effSetpoint := some target
      integrator, demand } }

/-- Tank 0 of the exercise of R133: 2500 L, fore A3, aft A4, meters F2 and F3, and the builder's table. -/
def exerciseTank : TankSettings :=
  { role := .mainWater, capacity := 2500, fore := .a3, aft := some .a4, outMeter := true, inMeter := true
    emptyL := 150, reserveL := 500, fullL := 2400, tolerance := 3
    table := [⟨0, 0⟩, ⟨200, 180⟩, ⟨900, 1500⟩, ⟨1400, 2400⟩, ⟨1500, 2480⟩] }

/-- That tank in that state, with volume v. -/
def withTank (st : TankState) (v : Nat) (s : State) : State :=
  { s with
    config := { s.config with tanks := s.config.tanks.set .t0 exerciseTank }
    tanks := s.tanks.set .t0 { startTank exerciseTank with state := st, basis := .sensed, volume := some v } }

/-- What holds after a step, in one view of the state. -/
def after {α : Type} (o : Host.Outcome State Fault Refusal) (view : State → α) : Option α :=
  match o with
  | .next t => some (view t)
  | .fault _ | .refused _ => none

/-- The last reply of the list: outcome byte, details and record. -/
def reply (s : State) : List Byte := (s.link.replies.getLast?.map fun r => r.payload).getD []

/-- The kinds of the queued reports, oldest first. -/
def kinds (s : State) : List ReportKind := s.reports.list.map fun r => r.kind

/-! ### Start-up and the store -/

/-- The exercise of R171: marks of two commits make tank 1 INVALID; SECTION_INVALID for section 6, STORE_DEGRADED. -/
theorem test_powerOn_torn_section :
    after (exec (.powerOn [(124, ⟨configWord defaultConfig 42 124, 0⟩)]) pumping) (fun t =>
      (t.store.invalid.tank1, t.store.invalid.tank0, t.store.degraded, t.matrix.mode, t.seq.state)) =
      some (true, false, true, .start, .idle) := by decide +kernel

/-- R59, R172: start-up de-energizes O_CLUTCH whatever the engine speed. -/
theorem test_resetLine_drops_the_clutch :
    after (exec (.resetLine []) rolling) (fun t => (t.seq.oClutch, t.image.complete, t.matrix.driveInhibit)) =
      some (false, false, true) := by decide +kernel

/-- R166: the corrected word is written back and leaves the list. -/
theorem test_writeBack_leaves_the_list :
    after (exec (.writeBackWordDone none) { road with store := { road.store with writeBack := [(9, 77), (3, 5)] } })
        (fun t => (readCell t.store.cells 9, t.store.writeBack)) =
      some (⟨77, 0⟩, [(3, 5)]) := by decide +kernel

/-- R166: a word that reads back wrong makes its section INVALID, with COMMIT_FAULT. -/
theorem test_writeBack_reads_back_wrong :
    after (exec (.writeBackWordDone (some ⟨77, 1⟩))
        { road with store := { road.store with writeBack := [(9, 77)] } }) (fun t => (t.store.degraded,
        t.store.invalid.get (sectionOf 9), kinds t)) =
      some (true, true, [.commitFault]) := by decide +kernel

/-! ### The input stage -/

/-- The exercise of R4, sample 8: the third code out of range in a row faults the channel, which holds 1220. -/
theorem test_pressure_third_bad_code :
    after (exec (.pressureSample 3820 1000)
        { road with image := { road.image with a0 := ⟨some 1220, .ok, 2, 0, 0⟩ } }) (fun t => (t.image.a0.status,
        t.image.a0.value, t.image.a0.outCount, kinds t)) =
      some (.fault, some 1220, 3, [.channel]) := by decide +kernel

/-- The exercise of R4, sample 11: the third code in range recovers it. -/
theorem test_pressure_third_good_code :
    after (exec (.pressureSample 1650 1000)
        { road with image := { road.image with a0 := ⟨some 1220, .fault, 3, 2, 3820⟩ } })
        (fun t => (t.image.a0.status, t.image.a0.value, t.image.a0.outCount, kinds t)) =
      some (.ok, some 1250, 0, [.channel]) := by decide +kernel

/-- R3, R112: code 1800 is 70 degrees, at which the relief valve opens and OVERHEAT is reported. -/
theorem test_temperature_opens_the_relief :
    after (exec (.temperatureSample 1800) road) (fun t => (t.image.a2.value, t.gov.reliefOpen, kinds t)) =
      some (some 70, true, [.protection]) := by decide +kernel

/-- The exercise of R110: A2 at 85 raises OVERHEAT_CUT, whose action is IDLE; the context keeps RPM 1800. -/
theorem test_temperature_raises_overheat_cut :
    after (exec (.temperatureSample 2100) (governing .rpm 1800 0 0 pumping))
        (fun t => ((t.gov.causes.get .overheatCut).active, t.gov.effMode, t.gov.saved)) =
      some (true, .idle, some ⟨.rpm, 1800⟩) := by decide +kernel

/-- The exercise of R5, last row. -/
theorem test_level_ring :
    after (exec (.levelSample .a4 300) { road with image := { road.image with levels := road.image.levels.set .a4 ⟨⟨some 821, .ok, 0, 0, 0⟩, [820, 822]⟩ } }) (fun t => ((t.image.levels.get .a4).ring, (t.image.levels.get .a4).chan.value, (t.image.levels.get .a4).chan.status)) =
      some ([820, 822, 0], some 547, .clamped) := by decide +kernel

/-- The exercise of R5, third row: the sample of a recovery is alone in the ring. -/
theorem test_level_recovery :
    after (exec (.levelSample .a4 1712) { road with image := { road.image with levels := road.image.levels.set .a4 ⟨⟨some 1333, .fault, 3, 2, 0⟩, []⟩ } }) (fun t => ((t.image.levels.get .a4).ring, (t.image.levels.get .a4).chan.value, (t.image.levels.get .a4).chan.status)) =
      some ([820], some 820, .ok) := by decide +kernel

/-- R8 with the default ppr 60: 82 pulses are 820 rpm. The exercise of R61 at 12.4 s: the clutch lets go. -/
theorem test_engineGate_releases_the_clutch :
    after (exec .engineSpeedGateEnd { place .idlingDown .clutch [.d4] with image := { (place .idlingDown .clutch [.d4]).image with gateCount := PerPulse.const 82 } }) (fun t => (t.image.n, t.seq.state, t.seq.oClutch, t.seq.stepTimer)) =
      some (820, .releasing, false, some ⟨.release, ⟨5000, 3000⟩⟩) := by decide +kernel

/-- R9, R26, R27, R93 with the default ppk 5000: 8 pulses are 11.5 km/h, above the ceiling; the cap of 0 cuts the demand and I stays. -/
theorem test_roadGate_cuts_the_demand :
    after (exec .roadSpeedGateEnd { governing .limit 800 133180 527 rolling with image := { rolling.image with gateCount := PerPulse.const 8 } }) (fun t => (t.image.v, t.matrix.roll, t.matrix.cap, t.gov.demand, t.gov.capCut, t.gov.integrator)) =
      some (115, .over, 0, 0, true, 133180) := by decide +kernel

/-- The exercise of R133 at time 0: a tank that begins to travel marks V0, outflow and inflow. -/
theorem test_roadGate_tank_travels :
    after (exec .roadSpeedGateEnd (withTank .sensed 1680 { rolling with image := { rolling.image with gateCount := PerPulse.const 4, meters := rolling.image.meters.set .fill ⟨0, false, 5200, 0, 0⟩ }, supply := { rolling.supply with outflow := 40000 } })) (fun t => ((t.tanks.get .t0).state, (t.tanks.get .t0).basis, (t.tanks.get .t0).v0, (t.tanks.get .t0).outMark, (t.tanks.get .t0).inMark)) =
      some (.travel, .metered, some 1680, some 40000, some 5200) := by decide +kernel

/-- The exercise of R11, gate 2: FLOW_OVER, and no water uncounted. -/
theorem test_flowGate_over :
    after (exec (.flowGateEnd .dis) { road with image := { road.image with gateCount := PerPulse.const 207, meters := road.image.meters.set .dis ⟨1500, false, 45, 25, 0⟩ } }) (fun t => t.image.meters.get .dis) =
      some ⟨6000, true, 252, 140, 0⟩ := by decide +kernel

/-- The exercise of R11, gate 4. -/
theorem test_flowGate_remainder :
    after (exec (.flowGateEnd .dis) { road with image := { road.image with gateCount := PerPulse.const 50, meters := road.image.meters.set .dis ⟨1566, false, 299, 166, 20⟩ } }) (fun t => t.image.meters.get .dis) =
      some ⟨1666, false, 349, 193, 160⟩ := by decide +kernel

/-- R7. -/
theorem test_pulse_counts :
    after (exec (.pulseArrival .f2) road) (fun t => (t.image.gateCount.get .f2, t.image.gateCount.get .f0)) =
      some (1, 0) := by decide +kernel

/-- The exercise of R12: the fourth HIGH in a row makes D5 HIGH and sets its latch. -/
theorem test_line_fourth_sample :
    after (exec (.lineSample 0x023) { road with image := { road.image with lines := road.image.lines.set .d5 ⟨.low, 3, false, some true⟩ } }) (fun t => ((t.image.lines.get .d5).state, (t.image.lines.get .d5).count, (t.image.lines.get .d5).latch)) =
      some (.high, 0, true) := by decide +kernel

/-- The exercise of R49 at 0.8 s: D3 set ends SHIFTING. -/
theorem test_line_ends_shifting :
    after (exec (.lineSample 0x00B) { timed .shift (place .shifting .split [.d0, .d1]) with image := { road.image with lines := road.image.lines.set .d3 ⟨.low, 3, false, some true⟩ } }) (fun t => (t.seq.state, t.seq.oShiftPump, t.seq.stepTimer, t.matrix.mode)) =
      some (.awaitRange, false, some ⟨.range, ⟨5000, 15000⟩⟩, .transfer) := by decide +kernel

/-! ### Interlocks -/

/-- R28, R40: the expiry raises roll overspeed and sounds the horn. -/
theorem test_rollOverspeed :
    after (exec .rollOverspeedExpiry { rolling with matrix := { rolling.matrix with overspeedTimer := some ⟨4000, 500⟩ } }) (fun t => (t.matrix.overspeed, t.matrix.horn, t.matrix.overspeedTimer, kinds t)) =
      some (true, true, none, [.protection]) := by decide +kernel

/-- Entry 3 of the exercise of R34: LINE D7 active HIGH, armed in ROAD and PUMP_AND_ROLL, DRIVE and HORN, latching, 2 s. -/
def cover : LockoutEntry := ⟨.line .d7 true, 0b1001, 0b10001, true, 20⟩

/-- A part in ROAD with that entry in that state. -/
def covered (st : LockState) (set : List Line) : State :=
  { place .idle .none set with
    config := { road.config with entries := road.config.entries.set .e3 (some cover) }
    matrix := { road.matrix with locks := road.matrix.locks.set .e3 ⟨st, none⟩ } }

/-- That exercise at 7.0 s. -/
theorem test_lockoutDelay_trips :
    after (exec (.lockoutDelayExpiry .e3) (covered .pending [.d0, .d1, .d7]))
        (fun t => ((t.matrix.locks.get .e3).state, t.matrix.permits.get .drive, t.matrix.driveInhibit,
        t.matrix.horn, kinds t)) =
      some (.tripped, false, true, true, [.lockoutTrip, .permit]) := by decide +kernel

/-- That exercise at 12.0 s. -/
theorem test_latchClear_clears :
    after (exec (.latchClear 1 [3]) { covered .latched [.d0, .d1] with matrix := { (covered .latched [.d0, .d1]).matrix with permits := road.matrix.permits.set .drive false, driveInhibit := true, horn := true } }) (fun t => ((t.matrix.locks.get .e3).state, t.matrix.permits.get .drive, t.matrix.driveInhibit, t.matrix.horn)) =
      some (.clear, true, false, false) := by decide +kernel

/-- R39: a TRIPPED entry is refused CONDITION_PRESENT (0x86) with its bit. -/
theorem test_latchClear_tripped :
    after (exec (.latchClear 1 [3]) (covered .tripped [.d0, .d1, .d7])) (fun t => reply t) =
      some [0x86, 0, 8, 0] := by decide +kernel

/-- R36, R31: an entry without delay whose condition stands trips as it is written. -/
theorem test_lockoutSet_judges :
    after (exec (.lockoutSet 1 [2, 1, 0, 0, 1, 15, 1, 0, 0, 0]) road) (fun t => ((t.matrix.locks.get .e2).state,
        (reply t).take 1)) =
      some (.tripped, [0]) := by decide +kernel

/-- R36: refused STORE_BUSY (0x88) while a commit is in flight. -/
theorem test_lockoutSet_busy :
    after (exec (.lockoutSet 1 [2, 1, 0, 3, 0, 15, 1, 0, 0, 0])
        { road with store := { road.store with commit := some ⟨1, 0, defaultConfig, []⟩ } }) (fun t => reply t) =
      some [0x88, 0, 0, 0] := by decide +kernel

/-- R37, R155: the nine bytes of an entry, its state and the time left. -/
theorem test_lockoutGet :
    after (exec (.lockoutGet 1 [3]) (covered .tripped [.d0])) (fun t => reply t) =
      some [0, 0, 0, 0, 1, 0, 7, 1, 9, 17, 1, 0, 20, 2, 0, 0] := by decide +kernel

/-- The exercise of R41: SILENCE mutes a horn that sounds. -/
theorem test_silence :
    after (exec (.silence 1 []) { pumping with matrix := { pumping.matrix with overspeed := true, horn := true } })
        (fun t => (t.matrix.horn, t.matrix.muted)) =
      some (false, true) := by decide +kernel

/-! ### The engagement -/

/-- The exercise of R24: NEUTRAL, ENGINE, LOCKOUT, and index 2 as the lowest of entries 2 and 9. -/
theorem test_engage_refused :
    after (exec (.engage 1 [0]) { place .idle .none [.d0] with image := { (place .idle .none [.d0]).image with n := 900 }, config := { road.config with entries := (road.config.entries.set .e2 (some ⟨.line .d7 true, 1, 6, true, 0⟩)).set .e9 (some ⟨.line .d8 true, 1, 2, false, 0⟩) }, matrix := { road.matrix with locks := (road.matrix.locks.set .e2 ⟨.latched, none⟩).set .e9 ⟨.tripped, none⟩ } }) (fun t => reply t) =
      some [0x85, 0, 0b00111000, 2] := by decide +kernel

/-- The exercise of R49 at time 0. -/
theorem test_engage_begins :
    after (exec (.engage 1 [0]) road) (fun t => (t.seq.state, t.seq.oShiftPump, t.seq.stepTimer, t.matrix.mode,
        t.matrix.permits.get .drive, t.matrix.permits.get .engage)) =
      some (.shifting, true, some ⟨.shift, ⟨5000, 3000⟩⟩, .transfer, false, false) := by decide +kernel

/-- That exercise at 9.0 s. -/
theorem test_confirm :
    after (exec (.confirm 1 []) (timed .confirm (place .awaitConfirm .split [.d0, .d2, .d3])))
        (fun t => (t.seq.state, t.seq.stepTimer, t.matrix.cap, t.matrix.throttleMode, kinds t)) =
      some (.engaged, none, 1000, .sole, [.step, .permit, .permit]) := by decide +kernel

/-- R54: HELD with D2 clear is refused CONDITION_PRESENT, listing D2. -/
theorem test_confirm_missing_line :
    after (exec (.confirm 1 []) (place .held .split [.d3])) (fun t => reply t) =
      some [0x86, 0, 4, 0] := by decide +kernel

/-- The exercise of R61 at time 0: DISENGAGE at 1400 rpm. -/
theorem test_disengage_waits :
    after (exec (.disengage 1 []) { rolling with image := { rolling.image with n := 1400 } })
        (fun t => (t.seq.state, t.seq.reason, t.seq.oClutch, t.matrix.cap, kinds t)) =
      some (.idlingDown, some .disengage, true, 0, [.step, .permit]) := by decide +kernel

/-- The exercise of R64: with N at 740 the release begins at once. -/
theorem test_disengage_releases :
    after (exec (.disengage 1 []) rolling) (fun t => (t.seq.state, t.seq.oClutch, t.seq.stepTimer)) =
      some (.releasing, false, some ⟨.release, ⟨5000, 3000⟩⟩) := by decide +kernel

/-- R49, R50, R52, R53: the expiry ends the wait, and with the engine at idle the release follows. -/
theorem test_shiftWindow :
    after (exec .shiftWindowExpiry (timed .shift (place .shifting .split [.d0]))) (fun t => (t.seq.state,
        t.seq.path)) =
      some (.idle, .none) := by decide +kernel

/-- R49, R50, R52, R53: the expiry ends the wait, and with the engine at idle the release follows. -/
theorem test_rangeWindow :
    after (exec .rangeWindowExpiry (timed .range (place .awaitRange .split [.d3]))) (fun t => (t.seq.state,
        t.seq.path)) =
      some (.releasing, .split) := by decide +kernel

/-- R49, R50, R52, R53: the expiry ends the wait, and with the engine at idle the release follows. -/
theorem test_clutchWindow :
    after (exec .clutchWindowExpiry (timed .clutch (place .clutching .clutch []))) (fun t => (t.seq.state,
        t.seq.path)) =
      some (.idle, .none) := by decide +kernel

/-- R49, R50, R52, R53: the expiry ends the wait, and with the engine at idle the release follows. -/
theorem test_confirmWindow :
    after (exec .confirmWindowExpiry (timed .confirm (place .awaitConfirm .clutch [.d4]))) (fun t => (t.seq.state,
        t.seq.path)) =
      some (.releasing, .clutch) := by decide +kernel

/-- The exercise of R61 at 10.0 s: ENGINE_NOT_IDLE, and the wait goes on. -/
theorem test_idleDownWindow :
    after (exec .idleDownWindowExpiry (timed .idleDown { place .idlingDown .clutch [.d4] with image := { (place .idlingDown .clutch [.d4]).image with n := 1300 } })) (fun t => (t.seq.state, t.seq.stepTimer, t.seq.oClutch, kinds t)) =
      some (.idlingDown, none, true, [.fault]) := by decide +kernel

/-- The exercise of R63 at 32.1 s: AWAIT_NEUTRAL. -/
theorem test_neutralWait :
    after (exec .neutralWaitExpiry (timed .neutral (place .releasing .split [.d2, .d3]))) (fun t => (t.seq.state,
        t.seq.stepTimer, kinds t)) =
      some (.releasing, none, [.fault]) := by decide +kernel

/-- The exercise of R64: RELEASE_TIMEOUT, HELD with reason TIMEOUT. -/
theorem test_releaseWindow :
    after (exec .releaseWindowExpiry (timed .release (place .releasing .clutch [.d4]))) (fun t => (t.seq.state,
        t.seq.reason, t.matrix.mode, t.matrix.cap, t.gov.opMode)) =
      some (.held, some .timeout, .faultHold, 0, .off) := by decide +kernel

/-! ### The governor -/

/-- The exercise of R72: from idle, PRESSURE 1000 with P_dis 350. -/
theorem test_govern_from_idle :
    after (exec (.govern 1 [2, 0x03, 0xE8])
        { pumping with image := { pumping.image with a0 := ⟨some 350, .ok, 0, 0, 0⟩ } }) (fun t => (t.gov.opMode,
        t.gov.opTarget, t.gov.effTarget, t.gov.effSetpoint, t.gov.integrator)) =
      some (.pressure, 1000, some 1000, some 350, 0) := by decide +kernel

/-- The truck of the exercise of R76: OVERHEAT_CUT in the set, PRESSURE 1200 saved. -/
def overridden : State :=
  { pumping with gov := { pumping.gov with
      opMode := .pressure, opTarget := 1200, causes := pumping.gov.causes.set .overheatCut ⟨true, false, none⟩
      saved := some ⟨.pressure, 1200⟩ } }

/-- That exercise: GOVERN RPM 2500 is clamped to 2200 and deferred. -/
theorem test_govern_deferred :
    after (exec (.govern 1 [3, 0x09, 0xC4]) overridden) (fun t => (t.gov.saved, t.gov.opMode, t.gov.opTarget,
        reply t)) =
      some (some ⟨.rpm, 2200⟩, .pressure, 1200, [3, 0, 0, 0]) := by decide +kernel

/-- That exercise: NUDGE down 4 lowers the saved 2200 to 2100. -/
theorem test_nudge_deferred :
    after (exec (.nudge 1 [1, 4]) { overridden with gov := { overridden.gov with saved := some ⟨.rpm, 2200⟩ } })
        (fun t => (t.gov.saved, t.gov.opTarget, reply t)) =
      some (some ⟨.rpm, 2100⟩, 1200, [2, 0, 0, 0]) := by decide +kernel

/-- The exercise of R72: NUDGE up 3 moves the target and leaves the setpoint. -/
theorem test_nudge :
    after (exec (.nudge 1 [0, 3]) { governing .pressure 1000 0 0 pumping with gov := { (governing .pressure 1000 0 0 pumping).gov with effSetpoint := some 650 } }) (fun t => (t.gov.opTarget, t.gov.effTarget, t.gov.effSetpoint)) =
      some (1075, some 1075, some 650) := by decide +kernel

/-- The exercise of R101 at RESUME: the saved PRESSURE 800, I of 480 times 256, the setpoint from P_dis 610. -/
theorem test_resume :
    after (exec (.resume 1 []) { overridden with image := { pumping.image with a0 := ⟨some 610, .ok, 0, 0, 0⟩ }, gov := { overridden.gov with saved := some ⟨.pressure, 800⟩, effMode := .rpm, effTarget := some 1650, effSetpoint := some 1650, demand := 480 } }) (fun t => (t.gov.opMode, t.gov.opTarget, t.gov.integrator, t.gov.effSetpoint, t.gov.noCauses)) =
      some (.pressure, 800, 122880, some 610, true) := by decide +kernel

/-- The exercise of R110: a condition that stands is listed. -/
theorem test_resume_refused :
    after (exec (.resume 1 []) { overridden with gov := { overridden.gov with causes := overridden.gov.causes.set .overheatCut ⟨true, true, none⟩ } }) (fun t => reply t) =
      some [0x86, 0, 4, 0] := by decide +kernel

/-- The exercise of R94, first update: e 150, I 77400, raw 377, r 330 with RATE. -/
theorem test_update_rate_limited :
    after (exec .governorUpdate { governing .pressure 1000 76800 310 pumping with config := { pumping.config with gov := { defaultGov with kpP := 32, kiP := 4, rateStep := 20 } } }) (fun t => (t.gov.integrator, t.gov.demand, t.gov.flags)) =
      some (77400, 330, { noFlags with rate := true }) := by decide +kernel

/-- The exercise of R94 on a strong hydrant, second update: frozen at 3071 under SAT_LOW. -/
theorem test_update_frozen :
    after (exec .governorUpdate { governing .pressure 1000 3071 0 pumping with image := { pumping.image with a0 := ⟨some 1043, .ok, 0, 0, 0⟩ }, gov := { (governing .pressure 1000 3071 0 pumping).gov with flags := { noFlags with rate := true, satLow := true } } }) (fun t => (t.gov.integrator, t.gov.demand, t.gov.flags)) =
      some (3071, 0, { noFlags with satLow := true, frozen := true }) := by decide +kernel

/-- The exercise of R114: at demand 550 START is refused for DEMAND, bit 11. -/
theorem test_prime_refused :
    after (exec (.prime 1 [0]) { pumping with supply := { pumping.supply with source := .draft }, gov := { pumping.gov with demand := 550 } }) (fun t => (reply t, t.gov.primer)) =
      some ([0x85, 8, 0, 2], none) := by decide +kernel

/-- That exercise: at demand 100 START is accepted. -/
theorem test_prime_starts :
    after (exec (.prime 1 [0]) { pumping with supply := { pumping.supply with source := .draft }, gov := { pumping.gov with demand := 100 } }) (fun t => (reply t, t.gov.primer)) =
      some ([0, 0, 0, 0], some ⟨0, ⟨5000, 45000⟩⟩) := by decide +kernel

/-- R114: prime_time stops the primer with PRIME_FAILED and the elapsed 450 tenths. -/
theorem test_primeTime :
    after (exec .primeTimeExpiry { pumping with gov := { pumping.gov with primer := some ⟨3, ⟨500, 45000⟩⟩ } })
        (fun t => (t.gov.primer, t.reports.list)) =
      some (none, [⟨.protection, 1, 3, 1, [1, 194]⟩]) := by decide +kernel

/-- R77: the record begins with the operator mode and target, and is 28 bytes long. -/
theorem test_govRead :
    after (exec (.govRead 1 []) (governing .rpm 1900 110080 430 pumping)) (fun t => ((reply t).length,
        ((reply t).drop 4).take 8)) =
      some (32, [3, 0x07, 0x6C, 3, 0x07, 0x6C, 0x07, 0x6C]) := by decide +kernel

/-! ### Tanks and water -/

/-- Every level channel at a value. -/
def level (f : LevelIx → Nat) (s : State) : State :=
  { s with image := { s.image with levels := PerLevel.ofFn fun ch => ⟨⟨some (f ch), .ok, 0, 0, 0⟩, [f ch]⟩ } }

/-- The exercise of R121, cases (a), (b), (e). -/
theorem test_volumes_of_the_table :
    [1000, 333, 1705, 900].map (volumeAt exerciseTank.table) = [1680, 430, 2480, 1500] := by decide +kernel

/-- The exercise of R123. -/
theorem test_bands :
    [(2420, Band.normal), (2380, .full), (2350, .full), (480, .normal), (530, .reserve), (560, .reserve), (140, .normal),
      (190, .empty), (210, .empty)].map (fun p => bandNext exerciseTank p.1 p.2) =
      [.full, .full, .normal, .reserve, .reserve, .normal, .empty, .empty, .reserve] := by decide +kernel

/-- The exercise of R121, case (d): TILTED. -/
theorem test_tankUpdate_tilted :
    after (exec (.tankUpdate .t0) (level (fun ch => if ch = .a3 then 1350 else 1000) (withTank .sensed 0 road)))
        (fun t => ((t.tanks.get .t0).h, (t.tanks.get .t0).tilt, (t.tanks.get .t0).tilted, (t.tanks.get .t0).volume)) =
      some (some 1175, some 350, true, some 1995) := by decide +kernel

/-- Tank 0 of the exercise of R133 on its way, with V0 1680 and its marks. -/
def travelling (st : TankState) (outflow : BitVec 32) : State :=
  let s := withTank st 500 (level (fun ch => if ch = .a3 then 329 else 305) rolling)
  { s with
    image := { s.image with meters := s.image.meters.set .fill ⟨0, false, 5200, 0, 0⟩ }
    supply := { s.supply with outflow }
    tanks := s.tanks.set .t0 { s.tanks.get .t0 with
      basis := .metered, v0 := some 1680, outMark := some 40000, inMark := some 5200, sensed := some 400
      settleTimer := if st = .settling then some ⟨0, 8000⟩ else none } }

/-- That exercise at 59.0 s. -/
theorem test_tankUpdate_metered :
    after (exec (.tankUpdate .t0) (travelling .travel 42124)) (fun t => ((t.tanks.get .t0).volume,
        (t.tanks.get .t0).band, (t.tanks.get .t0).state, kinds t)) =
      some (some 500, .reserve, .travel, [.band]) := by decide +kernel

/-- That exercise at the settle expiry: RECONCILE 400, 480, -80. -/
theorem test_settleTimer_reconciles :
    after (exec (.settleTimerExpiry .t0) { travelling .settling 42160 with tanks := (travelling .settling 42160).tanks.set .t0 { (travelling .settling 42160).tanks.get .t0 with volume := some 480, band := .reserve } }) (fun t => ((t.tanks.get .t0).volume, (t.tanks.get .t0).basis, t.reports.list.map fun r => (r.kind, r.values))) =
      some (some 400, .sensed, [(.reconcile, [1, 144, 1, 224, 255, 176])]) := by decide +kernel

/-- Tank 2 of the exercise of R128. -/
def auxTank : TankSettings :=
  { role := .auxWater, capacity := 3000, fore := .a5, aft := none, outMeter := false, inMeter := false
    emptyL := 100, reserveL := 400, fullL := 2900, tolerance := 3
    table := [⟨0, 0⟩, ⟨400, 700⟩, ⟨900, 1800⟩, ⟨1300, 2500⟩, ⟨1500, 2900⟩] }

/-- A part in ROAD with that tank. -/
def shrinking : State :=
  { road with config := { road.config with tanks := road.config.tanks.set .t2 auxTank } }

/-- That exercise: capacity 2500 does not hold breakpoint 4; BAD_TABLE (0x87). -/
theorem test_tankSet_bad_table :
    after (exec (.tankSet 1 [2, 1, 0x09, 0xC4, 5, 255, 255, 255, 0, 100, 1, 0x90, 0x09, 0x60, 3]) shrinking)
        (fun t => (reply t, (t.config.tanks.get .t2).capacity)) =
      some ([0x87, 4, 0, 0], 3000) := by decide +kernel

/-- That exercise: the new table is accepted, and the tank restarts. -/
theorem test_tankTable_accepted :
    after (exec (.tankTable 1 (2 :: 3 :: packTable [⟨0, 0⟩, ⟨500, 900⟩, ⟨1400, 2480⟩])) (level (fun _ => 500)
        shrinking)) (fun t => ((reply t).take 1, (t.config.tanks.get .t2).table, (t.tanks.get .t2).volume)) =
      some ([0], [⟨0, 0⟩, ⟨500, 900⟩, ⟨1400, 2480⟩], some 900) := by decide +kernel

/-- R129: part STATE is 26 bytes behind the four of the outcome. -/
theorem test_tankRead :
    after (exec (.tankRead 1 [0, 0]) (withTank .sensed 1680 road)) (fun t => ((reply t).length,
        ((reply t).drop 4).take 6)) =
      some (30, [0, 0, 1, 0, 0x06, 0x90]) := by decide +kernel

/-- The exercise of R142 at time 0. -/
theorem test_source_begins_changeover :
    after (exec (.source 1 [1]) (withTank .sensed 400 pumping)) (fun t => (t.supply.source, t.supply.changeover,
        t.supply.tankToPump)) =
      some (.tank, some ⟨.intake, 0, ⟨5000, 30000⟩⟩, true) := by decide +kernel

/-- That exercise at 5.00 s: the 100th qualifying sample. -/
theorem test_changeover_done :
    after (exec (.pressureSample 1250 1300)
        { pumping with supply := { pumping.supply with changeover := some ⟨.intake, 99, ⟨0, 30000⟩⟩ } })
        (fun t => (t.supply.source, t.supply.changeover, t.supply.tankToPump, kinds t)) =
      some (.intake, none, false, [.changeover]) := by decide +kernel

/-- R142: the window abandons it with NO_SUPPLY (state 10). -/
theorem test_changeoverWindow :
    after (exec .changeoverWindowExpiry { pumping with supply := { pumping.supply with changeover := some ⟨.intake, 9, ⟨0, 30000⟩⟩ } }) (fun t => (t.supply.source, t.supply.changeover, t.reports.list)) =
      some (.tank, none, [⟨.changeover, 0, 10, 1, [1, 1, 44]⟩]) := by decide +kernel

/-- Tank 0 at 400 L, supplied from the intake. -/
def supplied : State :=
  { withTank .sensed 400 pumping with supply := { pumping.supply with source := .intake, tankToPump := false } }

/-- That exercise at 6.0 s. -/
theorem test_fill_full :
    after (exec (.fill 1 [1, 0, 0]) supplied) (fun t => ((reply t).take 1, t.supply.fill)) =
      some ([0], some ⟨2400, 400, ⟨5000, 60000⟩, false⟩) := by decide +kernel

/-- That exercise: before the changeover FILL is refused with SOURCE, bit 7. -/
theorem test_fill_refused :
    after (exec (.fill 1 [1, 0, 0]) (withTank .sensed 400 pumping)) (fun t => (reply t, t.supply.fill)) =
      some ([0x85, 0, 0x80, 2], none) := by decide +kernel

/-- R145: no rise in 60 s abandons the fill with NO_RISE (state 12). -/
theorem test_riseTimer :
    after (exec .riseTimerExpiry { supplied with supply := { supplied.supply with fill := some ⟨2400, 400, ⟨0, 60000⟩, false⟩ } }) (fun t => (t.supply.fill, t.reports.list)) =
      some (none, [⟨.fillFault, 0, 12, 1, [1, 144, 9, 96]⟩]) := by decide +kernel

/-! ### The link port, reports and settings -/

/-- R153: mode, path, state, governor modes and causes head the record; the clear flag clears RECOVERED_AT_START. -/
theorem test_status :
    after (exec (.status 1 [1]) { pumping with recoveredAtStart := true }) (fun t => (reply t, t.recoveredAtStart)) =
      some ([0, 0, 0, 0, 2, 1, 5, 1, 1, 0, 0, 0, 3, 232, 0x1C, 0, 255, 255, 3, 0, 0, 0x30], false) := by decide +kernel

/-- The queue of the exercise of R164 before FETCH: 3 PROTECTION, 2 INTERLOCK, 1 SEQUENCE, 4 TANK and 14 INPUT. -/
def fullBoard : List Report :=
  let of (k : ReportKind) (n : Nat) : List Report := (List.range n).map fun i => plainReport k i []
  of .line 14 ++ of .band 4 ++ of .protection 2 ++ of .permit 2 ++ of .step 1 ++ [plainReport .protection 4 []]

/-- That exercise: three PROTECTION reports, OVERPRESSURE last, 7 still deliverable, 42 bytes. -/
theorem test_fetch :
    after (exec (.fetch 1 []) { road with reports := ⟨fullBoard, true⟩, config := { road.config with gates := 0b101111#6 } }) (fun t => ((reply t).length, ((reply t).drop 4).take 2, (reply t).getD 31 0, t.reports.list.length)) =
      some (42, [3, 7], 4, 21) := by decide +kernel

/-- That exercise: a full queue drops a report when no class is above its own, and displaces the newest INPUT report. -/
theorem test_full_queue :
    let q : ReportQueue := ⟨(List.range 24).map fun i => plainReport .line i [], false⟩
    q.submit (plainReport .channel 2 []) = { q with overflowed := true } ∧
    (q.submit (plainReport .band 1 [])).list = q.list.take 23 ++ [plainReport .band 1 []] := by decide +kernel

/-- R162: class 4 closed, class 0 open all the same, and CLAMPED. -/
theorem test_gate :
    after (exec (.gate 1 [0b101110]) road) (fun t => (t.config.gates, reply t)) =
      some (0b101111, [1, 0, 0, 0, 0b101111]) := by decide +kernel

/-- R15: part METERS shows the F2 record of the exercise of R11, and 20 bytes. -/
theorem test_inputs_meters :
    after (exec (.inputs 1 [1, 0]) { road with image := { road.image with meters := road.image.meters.set .dis ⟨1666, false, 349, 193, 160⟩ } }) (fun t => ((reply t).length, ((reply t).drop 4).take 10)) =
      some (24, [0, 0, 1, 93, 0, 0, 0, 193, 0, 160]) := by decide +kernel

/-- R169: p_set_max (0x0106) clamped, and the target of a pressure mode follows (R68). -/
theorem test_paramSet :
    after (exec (.paramSet 1 [1, 6, 0, 0]) (governing .pressure 1200 0 0 pumping)) (fun t => (reply t,
        t.gov.opTarget)) =
      some ([1, 0, 0, 0, 1, 44], 300) := by decide +kernel

/-- R168: Kp_p is 24 by default. -/
theorem test_paramGet :
    after (exec (.paramGet 1 [1, 1]) road) (fun t => reply t) =
      some [0, 0, 0, 0, 0, 24] := by decide +kernel

/-- R170: accepted with the next number, from address 0. -/
theorem test_commit :
    after (exec (.commit 1 []) { road with store := { road.store with counter := 65535 } })
        (fun t => (t.store.commit.map (fun c => (c.number, c.next)), reply t)) =
      some (some (0, 0), [0, 0, 0, 0]) := by decide +kernel

/-- R170: the last word completes the commit with COMMIT_DONE. -/
theorem test_commitWord_last :
    after (exec (.commitWordDone none) { road with store := { road.store with commit := some ⟨42, 183, defaultConfig, []⟩ } }) (fun t => (t.store.commit, t.store.counter, kinds t)) =
      some (none, 42, [.commitDone]) := by decide +kernel

/-- R154: accepted in ROAD; the receiver closes. -/
theorem test_restart :
    after (exec (.restart 1 []) road) (fun t => (t.link.restarting, t.listening, reply t)) =
      some (true, false, [0, 0, 0, 0]) := by decide +kernel

/-- R151: an unknown kind is answered UNKNOWN_KIND (0x82) with the kind, and reply kind plus 0x80. -/
theorem test_unknownKind :
    after (exec (.unknownKindFrame 0x54 9 []) road) (fun t => (t.link.replies, t.matrix.mode)) =
      some ([⟨0xD4, 9, [0x82, 0x54, 0, 0]⟩], .road) := by decide +kernel

/-- The exercise of R148: the byte taken as check begins the next frame. -/
theorem test_discarded_frame :
    after (exec (.frameDiscarded 0x7A) { road with link := { road.link with rx := [0x7A, 4, 1, 5, 0, 0x10] } })
        (fun t => (t.link.rx, t.link.replies)) =
      some ([0x7A], []) := by decide +kernel

/-- That exercise: the request of tag 6 is received whole at its check byte and answered. -/
theorem test_byte_completes :
    after (exec (.byteArrival 0x2F) { road with link := { road.link with rx := [0x7A, 3, 1, 6, 0] } })
        (fun t => (t.link.rx, t.link.replies.map fun r => (r.kind, r.tag))) =
      some ([], [(0x81, 6)]) := by decide +kernel

/-- R148: a gap drops the partial frame. -/
theorem test_gap :
    after (exec .frameGapTimeout { road with link := { road.link with rx := [0x7A, 4, 0x7A] } })
        (fun t => t.link.rx) =
      some [] := by decide +kernel

/-- R152: the next reply is begun when a reply has been sent. -/
theorem test_transmitEnd :
    after (exec .transmitFrameEnd { road with link := { road.link with tx := some ⟨true, [0]⟩, replies := [⟨0x81, 1, []⟩, ⟨0x81, 2, []⟩] } }) (fun t => (t.link.replies, t.link.tx)) =
      some ([⟨0x81, 2, []⟩], some ⟨true, frameBytes 0x81 2 []⟩) := by decide +kernel

/-! ### The step -/

/-- The command at the front is taken; an empty queue idles. -/
theorem test_step :
    after (step { road with pending := [.pulseArrival .f0, .frameGapTimeout] })
      (fun t => (t.pending, t.image.gateCount.get .f0)) = some ([.frameGapTimeout], 1) := by decide +kernel

/-! ### Premises met: for every statement with hypotheses, a state and operands that meet them together -/

/-- An outcome that is a next state. -/
theorem answers {o : Host.Outcome State Fault Refusal} (h : after o (fun _ => ()) = some ()) : ∃ t, o = .next t := by
  cases o with
  | next t => exact ⟨t, rfl⟩
  | fault f => cases h
  | refused r => cases h

/-- A pump that governs, with its update waiting. -/
def running : State := { governing .pressure 1000 76800 310 pumping with pending := [.governorUpdate] }

/-- A clutch release that waits for the engine, whose gate is about to read 820 rpm. -/
def lettingGo : State :=
  { place .idlingDown .clutch [.d4] with
    image := { (place .idlingDown .clutch [.d4]).image with n := 1300, gateCount := PerPulse.const 82 }
    pending := [.engineSpeedGateEnd] }

/-- A split release that waits for the engine, the lever in neutral. -/
def goingRoad : State :=
  { place .idlingDown .split [.d1, .d3] with
    image := { (place .idlingDown .split [.d1, .d3]).image with n := 1300, gateCount := PerPulse.const 82 }
    pending := [.engineSpeedGateEnd] }

/-- The same state with a commit in flight at an address. -/
def committing (next : Nat) (s : State) : State :=
  { s with store := { s.store with commit := some ⟨42, next, defaultConfig, [9]⟩ } }

/-- The premise `step s = .next t` is met. -/
theorem running_steps : ∃ t, step running = .next t := answers (by decide +kernel)

theorem running_phase : running.PhaseLaw :=
  ⟨by decide +kernel, fun _ => ⟨by decide +kernel, fun l => by cases l <;> decide +kernel⟩⟩

theorem running_path : running.PathLaw :=
  ⟨by decide +kernel, by decide +kernel, by decide +kernel, by decide +kernel⟩

theorem lettingGo_phase : lettingGo.PhaseLaw :=
  ⟨by decide +kernel, fun _ => ⟨by decide +kernel, fun l => by cases l <;> decide +kernel⟩⟩

theorem goingRoad_phase : goingRoad.PhaseLaw :=
  ⟨by decide +kernel, fun _ => ⟨by decide +kernel, fun l => by cases l <;> decide +kernel⟩⟩

theorem road_phase : road.PhaseLaw :=
  ⟨by decide +kernel, fun _ => ⟨by decide +kernel, fun l => by cases l <;> decide +kernel⟩⟩

theorem defaults_inRange : defaultConfig.InRange := by
  refine ⟨fun p => ?_, fun i e h => ?_, fun t => ?_, by decide +kernel⟩
  · cases p <;> first | decide +kernel | (rename_i l; cases l <;> decide +kernel)
  · cases i <;> cases h
  · cases t <;> decide +kernel

theorem witness_FrameIsReadBackWhole :
    (List.replicate 60 (0 : Byte)).length ≤ 60 ∧ 63 < (List.replicate 60 (0 : Byte)).length + 4 ∧
      ([] : List Byte).length ≤ 60 := by decide +kernel

theorem witness_BytesOfAFrameBringItsRequest :
    ([0] : List Byte).length ≤ 60 ∧ road.listening = true ∧ road.link.rx = [] ∧ road.kick = road := by decide +kernel

theorem witness_TankTableIsReadBack :
    ∀ b ∈ [(⟨0, 0⟩ : Breakpoint), ⟨2047, 32767⟩], b.level < 2048 ∧ b.volume < 32768 := by decide +kernel

theorem witness_LockoutEntryIsReadBack :
    ∀ e ∈ [cover, ⟨.roadSpeedAbove 65535, 15, 31, false, 65535⟩],
      e.armed ≠ 0 ∧ e.effects ≠ 0 ∧ condOp1 e.cond < 65536 ∧ e.delay < 65536 := by decide +kernel

theorem witness_CommittedConfigurationIsLoadedBack :
    defaultConfig.InRange ∧ ∀ a, a < 184 → readCell [] a = ⟨configWord defaultConfig 0 a, 0⟩ :=
  ⟨defaults_inRange, by decide +kernel⟩

theorem witness_PhaseAndPathLawsAreKept : running.PhaseLaw ∧ running.PathLaw ∧ ∃ t, step running = .next t :=
  ⟨running_phase, running_path, running_steps⟩

theorem witness_SolenoidLawIsKept :
    goingRoad.PhaseLaw ∧ goingRoad.SolenoidLaw ∧ ∃ t, step goingRoad = .next t :=
  ⟨goingRoad_phase, ⟨by decide +kernel, by decide +kernel⟩, answers (by decide +kernel)⟩

/-- Both ways of releasing: O_CLUTCH de-energized, and O_SHIFT_ROAD energized. -/
theorem witness_DriveIsReleasedOnlyAtIdle :
    (lettingGo.PhaseLaw ∧ lettingGo.PathLaw ∧ lettingGo.DemandLaw ∧ lettingGo.seq.oClutch = true ∧
      after (step lettingGo) (fun t => t.seq.oClutch) = some false) ∧
    (goingRoad.PhaseLaw ∧ goingRoad.PathLaw ∧ goingRoad.DemandLaw ∧ goingRoad.seq.oShiftRoad = false ∧
      after (step goingRoad) (fun t => t.seq.oShiftRoad) = some true) :=
  ⟨⟨lettingGo_phase, ⟨by decide +kernel, by decide +kernel, by decide +kernel, by decide +kernel⟩,
    ⟨by decide +kernel, by decide +kernel, by decide +kernel⟩, by decide +kernel, by decide +kernel⟩,
   ⟨goingRoad_phase, ⟨by decide +kernel, by decide +kernel, by decide +kernel, by decide +kernel⟩,
    ⟨by decide +kernel, by decide +kernel, by decide +kernel⟩, by decide +kernel, by decide +kernel⟩⟩

theorem witness_PermitAndThrottleModeLawsAreKept :
    running.PhaseLaw ∧ running.PermitLaw ∧ running.ThrottleModeLaw ∧ ∃ t, step running = .next t :=
  ⟨running_phase, ⟨fun p => by cases p <;> decide +kernel, by decide +kernel⟩,
    by unfold State.ThrottleModeLaw; decide +kernel, running_steps⟩

theorem witness_DemandLawIsKept : running.PhaseLaw ∧ running.DemandLaw ∧ ∃ t, step running = .next t :=
  ⟨running_phase, ⟨by decide +kernel, by decide +kernel, by decide +kernel⟩, running_steps⟩

theorem witness_RangeLawIsKept : running.RangeLaw ∧ ∃ t, step running = .next t :=
  ⟨⟨by decide +kernel, by decide +kernel, by decide +kernel, by decide +kernel⟩, running_steps⟩

theorem witness_ContextAndHornLawsAreKept :
    overridden.ContextLaw ∧ running.ContextLaw ∧ running.HornLaw ∧ ∃ t, step running = .next t :=
  ⟨by unfold State.ContextLaw; decide +kernel, by unfold State.ContextLaw; decide +kernel,
    ⟨by decide +kernel, by decide +kernel, by decide +kernel⟩, running_steps⟩

/-- Tank 0 being filled from 400 L to 2400 L, its next update waiting. -/
def filling : State :=
  { level (fun _ => 1000) supplied with
    supply := { supplied.supply with fill := some ⟨2400, 400, ⟨3000, 60000⟩, false⟩ }, pending := [.tankUpdate .t0] }

theorem witness_ValveAndRollSourceLawsAreKept :
    running.ValveLaw ∧ running.PhaseLaw ∧ running.RollSourceLaw ∧ (∃ t, step running = .next t) ∧
      filling.FillLaw ∧ filling.supply.fill ≠ none ∧ ∃ t, step filling = .next t :=
  ⟨by unfold State.ValveLaw; decide +kernel, running_phase, by unfold State.RollSourceLaw; decide +kernel, running_steps,
    by unfold State.FillLaw; decide +kernel, by decide +kernel, answers (by decide +kernel)⟩

theorem witness_QueueRepliesAndStoreAreKept :
    running.reports.Wf ∧ running.ReplyLaw ∧ running.StoreLaw ∧ ∃ t, step running = .next t :=
  ⟨⟨by decide +kernel, by decide +kernel, by decide +kernel⟩, by unfold State.ReplyLaw; decide +kernel,
    by unfold State.StoreLaw; decide +kernel, running_steps⟩

theorem witness_VolumeLawIsKept :
    (withTank .sensed 2500 running).VolumeLaw ∧ ∃ t, step (withTank .sensed 2500 running) = .next t := by
  refine ⟨⟨fun t => by cases t <;> decide +kernel, fun t => ?_⟩, answers (by decide +kernel)⟩
  cases t <;> refine ⟨?_, ?_, ?_⟩ <;> intro x h <;> revert h <;> simp [withTank, running, governing, pumping, place,
    State.reset, startTank, PerTank.get, PerTank.set, PerTank.ofFn, exerciseTank, defaultConfig]
  omega

theorem witness_ConfigurationStaysInRange : running.config.InRange ∧ ∃ t, step running = .next t :=
  ⟨defaults_inRange, running_steps⟩

/-- Two wrong bits, and marks of two commits. -/
theorem witness_BadSectionTakesItsFallback :
    (1 < sectionSize .header ∧ wrongBits (readCell (writeCells road.store.cells [(1, ⟨0, 3⟩)]) (sectionBase .header + 1)) = 2) ∧
    (0 < sectionSize .tank1 ∧
      let found := [(124, (⟨configWord defaultConfig 42 124, 0⟩ : StoreWord))]
      let word (j : Nat) : StoreWord := readCell (writeCells road.store.cells found) (sectionBase .tank1 + j)
      wrongBits (word 0) = 0 ∧ wrongBits (word (sectionSize .tank1 - 1)) = 0 ∧
        (word 0).data.toNat % 65536 ≠ (word (sectionSize .tank1 - 1)).data.toNat % 65536) := by decide +kernel

/-- A commit before its last word and at it, and a write-back list. -/
theorem witness_StoreWordsAreWrittenAndReadBack :
    ∀ s ∈ [committing 182 road, committing 183 road,
      { road with store := { road.store with writeBack := [(183, 5), (0, 7)] } }],
      cellsWf s.store.cells = true ∧ (s.store.commit ≠ none ∨ s.store.writeBack ≠ []) := by decide +kernel

theorem witness_BusyStoreKeepsTheConfiguration :
    (committing 0 road).storeBusy = true ∧ (committing 0 road).link.restarting = false ∧
      (∀ found, Instr.gate 1 [63] ≠ .powerOn found ∧ Instr.gate 1 [63] ≠ .resetLine found) ∧
      ∃ t, exec (.gate 1 [63]) (committing 0 road) = .next t :=
  ⟨by decide +kernel, by decide +kernel, fun _ => ⟨nofun, nofun⟩, answers (by decide +kernel)⟩

/-- A part that listens, in every mode that the clauses of a request ask for: CommitBegins, ParamGetAndLockoutGetRead,
InputsReadsTheImage, StatusReadsThePart, FetchTakesTheNextReports, GateSetsTheClasses, GovReadAndTankReadShowTheRecords. -/
theorem witness_listening :
    ∀ s ∈ [road, pumping, rolling, overridden, supplied, committing 0 road], s.listening = true := by decide +kernel

/-- A pump whose water is at 95 °C, at temp_cut's default or above it, and one at 50 °C with OVERHEAT_CUT in its set. -/
def hot (a : Int) (s : State) : State := { s with image := { s.image with a2 := ⟨some a, .ok, 0, 0, 0⟩ } }

/-- Unknown identifier; busy store; a parameter of ROAD in another mode; a changed calibration; a pressure target; a new
value of every parameter that has an owner, an operator target and a saved target above the new maximum, and the A2
values of the protection's clauses. -/
theorem witness_ParamSetWritesTheClampedValue :
    (∀ x ∈ [(0x106, Param.pSetMax, (900 : Int)), (0x107, .rpmSetMax, 1500), (0x10A, .tempCut, 90), (0x10B, .tempReliefOn, 60),
      (0x304, .kFill, 200), (0x402, .rollCeiling, 0), (0x403, .rollCap, 300), (0x101, .kpP, 25)],
      paramOfId x.1 = some x.2.1 ∧ paramRoadOnly x.2.1 = (x.2.1 == .kFill) ∧ road.config.param x.2.1 ≠ x.2.2) ∧
    paramOfId 0x401 = some .idleRpm ∧ road.storeBusy = false ∧ overridden.gov.saved = some ⟨.pressure, 1200⟩ ∧
      (hot 95 pumping).image.a2.value = some 95 ∧ (hot 95 pumping).gov.opMode ≠ .off ∧
      (hot 50 overridden).image.a2.value = some 50 ∧ (overridden.gov.causes.get .overheatCut).active = true ∧
    road.listening = true ∧ paramOfId (readU16 0 0) = none ∧ (committing 0 road).storeBusy = true ∧
      paramOfId (readU16 3 3) = some .kDis ∧ paramRoadOnly .kDis = true ∧ pumping.matrix.mode ≠ .road ∧
      road.config.param .kDis ≠ clampInt (paramRange .kDis).1 (paramRange .kDis).2 (readI16 0x80 0) ∧
      (governing .pressure 1200 0 0 pumping).gov.opMode = .pressure := by decide +kernel

/-- A changed A2 value at temp_cut with the governor on. -/
theorem witness_AnalogSamplesMoveTheirChannels :
    after (exec (.temperatureSample 2100) pumping) (fun u => (u.image.a2.value, u.gov.opMode)) = some (some 85, .idle) ∧
      (pumping.config.gov.tempCut : Int) ≤ 85 ∧ pumping.image.a2.value ≠ some 85 := by decide +kernel

theorem witness_EngineGateSetsTheSpeedAndEndsTheWait :
    lettingGo.PhaseLaw ∧ lettingGo.seq.state = .idlingDown ∧ goingRoad.PhaseLaw ∧ goingRoad.seq.state = .idlingDown :=
  ⟨lettingGo_phase, by decide +kernel, goingRoad_phase, by decide +kernel⟩

theorem witness_RoadGateSetsTheSpeedAndMovesTheTanks :
    ((withTank .sensed 1680 rolling).tanks.get .t0).state = .sensed ∧ rolling.image.v < 5 ∧
      (travelling .settling 0).tanks.t0.state = .settling ∧ (travelling .travel 0).tanks.t0.state = .travel := by
  decide +kernel

/-- A truck that begins to roll in AWAIT_RANGE, at the boundary of one pulse for 1.44 km/h. -/
def rollsAway : State :=
  { place .awaitRange .split [.d3] with
    image := { (place .awaitRange .split [.d3]).image with gateCount := PerPulse.const 1 } }

theorem witness_MotionEndsAnEngagement :
    rollsAway.PhaseLaw ∧ rollsAway.PathLaw ∧ (rollsAway.seq.state = .shifting ∨ rollsAway.seq.state = .awaitRange) ∧
      rollsAway.image.v < 5 ∧ 5 ≤ rollsAway.image.gateCount.f1 * 72000 / rollsAway.config.inputs.ppk :=
  ⟨⟨by decide +kernel, fun _ => ⟨by decide +kernel, fun l => by cases l <;> decide +kernel⟩⟩,
    ⟨by decide +kernel, by decide +kernel, by decide +kernel, by decide +kernel⟩,
    by decide +kernel, by decide +kernel, by decide +kernel⟩

/-- START with everything measured but line D5, whose next sample settles it; D3 as given. -/
def almostMeasured (d3 : Bool) : State :=
  let s : State := place .idle .none (if d3 then [.d3] else [.d0, .d1])
  { s with
    image := { s.image with
      complete := false, gateEnded := PerPulse.const true
      lines := s.image.lines.set .d5 ⟨.unsettled, 3, false, some false⟩ }
    matrix := { s.matrix with mode := .start } }

/-- D3 set and clear at the sample that completes the image. -/
theorem witness_LineSampleFiltersEveryLine :
    road.image.complete = true ∧
    ∀ d3, (almostMeasured d3).PhaseLaw ∧ (almostMeasured d3).image.complete = false ∧
      after (exec (.lineSample (if d3 then 8 else 3)) (almostMeasured d3)) (fun t => (t.image.complete, t.lineSet .d3)) =
        some (true, d3) := by
  refine ⟨by decide +kernel, fun d3 => ?_⟩
  cases d3 <;> exact ⟨⟨by decide +kernel, fun h => Bool.noConfusion h⟩, by decide +kernel, by decide +kernel⟩

/-- Each clause: SHIFTING with D3 rising, AWAIT_RANGE with D2, CLUTCHING with D4, feedback lost in AWAIT_CONFIRM and in
ENGAGED, RELEASING with its line falling. -/
def aboutToMove (st : SeqState) (path : DrivePath) (set : List Line) : State :=
  { place st path set with image := { (place st path set).image with
      lines := PerLine.ofFn fun l => { (place st path set).image.lines.get l with count := 3 } } }

theorem aboutToMove_phase (st : SeqState) (path : DrivePath) (set : List Line) : (aboutToMove st path set).PhaseLaw := by
  refine ⟨fun h => Bool.noConfusion h, fun _ => ⟨rfl, fun l => ?_⟩⟩
  cases l <;> simp only [aboutToMove, place, PerLine.get, PerLine.ofFn] <;> split <;> simp

/-- The road shift: begun at a gate end and at a line sample, kept, and let go when the lever leaves neutral. -/
theorem witness_MotionEndsAnEngagement_roadShift :
    let waiting := aboutToMove .releasing .split [.d1, .d3]
    let shifting : State := { waiting with seq := { waiting.seq with oShiftRoad := true } }
    let lever := aboutToMove .releasing .split [.d3]
    waiting.PhaseLaw ∧ shifting.PhaseLaw ∧ lever.PhaseLaw ∧ waiting.DemandLaw ∧ shifting.DemandLaw ∧ lever.DemandLaw ∧
    after (exec .roadSpeedGateEnd waiting) (fun u => u.seq.oShiftRoad) = some true ∧
    after (exec .engineSpeedGateEnd shifting) (fun u => (u.seq.oShiftRoad, u.image.n)) = some (true, 0) ∧
    after (exec (.lineSample 0b1010) lever) (fun u => (u.lineSet .d1, u.seq.oShiftRoad)) = some (true, true) ∧
    after (exec (.lineSample 0b1000) shifting) (fun u => (u.lineClear .d1, u.seq.oShiftRoad)) = some (true, false) :=
  ⟨aboutToMove_phase _ _ _, aboutToMove_phase _ _ _, aboutToMove_phase _ _ _,
    by unfold State.DemandLaw; decide +kernel, by unfold State.DemandLaw; decide +kernel,
    by unfold State.DemandLaw; decide +kernel, by decide +kernel, by decide +kernel, by decide +kernel, by decide +kernel⟩

theorem witness_LinesMoveTheSequencer :
    (after (exec (.lineSample 0b1000) (aboutToMove .shifting .split [])) (fun u => u.lineSet .d3) = some true) ∧
    (after (exec (.lineSample 0b1100) (aboutToMove .awaitRange .split [.d3])) (fun u => u.lineSet .d2) = some true) ∧
    (after (exec (.lineSample 0b10000) (aboutToMove .clutching .clutch [])) (fun u => u.lineSet .d4) = some true) ∧
    (after (exec (.lineSample 0b1000) (aboutToMove .awaitConfirm .split [.d2, .d3])) (fun u => u.lineClear .d2) =
      some true) ∧
    (after (exec (.lineSample 0) (aboutToMove .engaged .clutch [.d4])) (fun u => u.lineClear .d4) = some true) ∧
    (after (exec (.lineSample 0) (aboutToMove .releasing .split [.d3])) (fun u => u.lineClear .d3) = some true) := by
  decide +kernel

/-- A queued key at count 254 and 255, a key that is new at 23 and at 24 reports, with and without a larger class. -/
theorem witness_SubmissionCoalescesOrDisplaces :
    let q (n : Nat) : ReportQueue := ⟨(List.range n).map fun i => { plainReport .line i [] with count := 254 + i % 2 }, false⟩
    (∀ n ∈ [23, 24], (q n).list.length ≤ 24 ∧ (q n).list.Pairwise (fun a b => a.sameKey b = false) ∧
      ∀ r ∈ (q n).list, 1 ≤ r.count ∧ r.count ≤ 255) ∧
    (plainReport .band 1 []).cls < (plainReport .line 23 []).cls ∧
    ∀ x ∈ (q 24).list, ¬(x.kind = (plainReport .band 1 []).kind ∧ x.subject = (plainReport .band 1 []).subject) ∧
      x.cls ≤ (plainReport .corrected 0 []).cls := by decide +kernel

theorem witness_RestartClosesTheReceiver :
    road.listening = true ∧ (committing 0 road).storeBusy = true ∧ road.storeBusy = false ∧ road.matrix.mode = .road ∧
      pumping.matrix.mode ≠ .road := by decide +kernel

/-- A part that waits to restart, at a step. -/
theorem witness_RestartClosesTheReceiver_persists :
    let closed : State := { road with link := { road.link with restarting := true } }
    closed.link.restarting = true ∧ ∃ t, exec (.lineSample 0) closed = .next t :=
  ⟨rfl, answers (by decide +kernel)⟩

/-- The last reply after an accepted RESTART, and a reply or a report without one. -/
theorem witness_TransmitFrameEndSendsTheNext :
    let busy : State := { road with link := { road.link with tx := some ⟨true, [0]⟩, replies := [⟨0xD3, 1, []⟩] } }
    let last : State := { busy with link := { busy.link with restarting := true } }
    busy.link.tx ≠ none ∧ last.link.restarting = true ∧ last.link.replies.drop 1 = [] ∧
      busy.link.restarting = false := by decide +kernel

/-- FOUR_WIRE with a deliverable report, with none, and with a waiting reply. -/
theorem witness_TransmitterChoosesRepliesFirst :
    let four : State := { road with link := startLink .fourWire, reports := ⟨fullBoard, false⟩ }
    four.link.tx = none ∧ four.link.replies = [] ∧ four.link.mode = .fourWire ∧ four.link.restarting = false ∧
      (∃ pre r post, four.reports.list = pre ++ r :: post ∧ gateOpen four.config.gates r.cls = true ∧
        (∀ x ∈ pre, gateOpen four.config.gates x.cls = true → r.cls < x.cls) ∧
        (∀ x ∈ post, gateOpen four.config.gates x.cls = true → r.cls ≤ x.cls)) :=
  ⟨by decide +kernel, by decide +kernel, by decide +kernel, by decide +kernel,
    fullBoard.take 18, fullBoard.getD 18 (plainReport .line 0 []), fullBoard.drop 19, by decide +kernel, by decide +kernel,
    by decide +kernel, by decide +kernel⟩

theorem witness_WrongAndLostFramesChangeNothing :
    road.listening = true ∧ (0x54 : Byte).toNat ∉ requestKinds ∧ requestLength (0x01 : Byte).toNat = some 1 ∧
      ([] : List Byte).length ≠ 1 ∧
      let full : State := { road with link := { road.link with replies := List.replicate 4 ⟨0x81, 0, []⟩ } }
      4 ≤ full.link.replies.length := by decide +kernel

/-- The receiver's clauses: hunting, a byte that leaves the frame open, and one that ends it. -/
theorem witness_ReceiverHuntsAndCollects :
    road.listening = true ∧ road.link.rx = [] ∧ readFrame ([3] ++ [1]) = .partly ∧ readFrame ([] ++ [63]) = .bad ∧
      readFrame ([4, 1, 5, 0, 0x10] ++ [0x7A]) = .bad ∧
      [4, 1, 5, 0, 0x10] ++ [(0x7A : Byte)] = [4, 1, 5, 0, 0x10] ++ [0x7A] ∧
      (∀ x ∈ [(4 : Byte), 1, 5, 0, 0x10], x ≠ 0x7A) ∧ readFrame [] = .partly := by decide +kernel

theorem witness_InterlockTimersExpire :
    ((covered .pending [.d0, .d7]).config.entries.get .e3 = some cover ∧
      ((covered .pending [.d0, .d7]).matrix.locks.get .e3).state = .pending) ∧
    ((covered .clear [.d0]).matrix.locks.get .e3).state ≠ .pending ∧ cover.effects.getLsbD 4 = true := by decide +kernel

/-- PUMP_AND_ROLL at the gate that reads 11.52 km/h, between the ceiling and its overspeed, and at one of 12.96 km/h. -/
theorem witness_InterlockTimersExpire_gate :
    let at' (pulses : Nat) : State := { aboutToMove .engaged .clutch [.d4] with
      image := { (aboutToMove .engaged .clutch [.d4]).image with gateCount := PerPulse.const pulses } }
    (∀ k, (at' k).PhaseLaw) ∧ (at' 8).matrix.mode = .pumpAndRoll ∧ (at' 8).config.rollCeiling = 100 ∧
      8 * 72000 / (at' 8).config.inputs.ppk = 115 ∧
      after (exec .roadSpeedGateEnd (at' 8)) (fun u => u.matrix.overspeedTimer) = some none ∧
      after (exec .roadSpeedGateEnd (at' 9)) (fun u => u.matrix.overspeedTimer) = some (some ⟨5000, 5000⟩) :=
  ⟨fun _ => aboutToMove_phase _ _ _, by decide +kernel, by decide +kernel, by decide +kernel, by decide +kernel,
    by decide +kernel⟩

/-- An index above 15, a malformed kind, a busy store, another mode, an absent entry, and one that is judged with and
without a delay. -/
theorem witness_LockoutSetWritesAndJudgesTheEntry :
    road.listening = true ∧ entryOfNo 16 = none ∧ entryOfNo 15 = some .e15 ∧
      readEntry 6 0 0 0 1 1 0 0 0 = .malformed 2 ∧ readEntry 0 0 0 0 0 0 0 0 0 = .absent ∧
      readEntry 1 0 0 1 15 1 0 0 0 = .present ⟨.line .d0 true, 15, 1, false, 0⟩ ∧
      road.lockCondition (.line .d0 true) = true ∧ road.matrix.mode = .road ∧ road.image.v < 5 := by decide +kernel

theorem witness_LatchClearAndSilence :
    (∀ st ∈ [LockState.clear, .pending, .tripped, .latched], (covered st [.d0]).listening = true ∧
      (covered st [.d0]).config.entries.get .e3 = some cover) ∧
    (16 : Byte) ≠ 255 ∧ entryOfNo (16 : Byte).toNat = none ∧
    let sounding : State := { pumping with matrix := { pumping.matrix with overspeed := true, horn := true } }
    sounding.listening = true ∧ sounding.matrix.horn = (sounding.hornCondition && !sounding.matrix.muted) ∧
      (sounding.matrix.muted = true → sounding.hornCondition = true) ∧
      sounding.matrix.tankHorn = sounding.tankHornCondition := by decide +kernel

/-- A ready truck, and one at the boundary: an engine at 850 is ready, at 851 it is not. -/
theorem witness_EngageChecksAndBegins :
    road.listening = true ∧ road.seq.state = .idle ∧ road.matrix.mode = .road ∧ road.image.v < 5 ∧
      road.lineSet .d0 = true ∧ road.lineSet .d1 = true ∧ road.image.n ≤ road.config.idleRpm + 150 ∧
      (∀ i ∈ EntryIx.all, road.config.entries.get i = none) ∧ road.lineSet .d3 = false ∧ road.lineSet .d4 = false ∧
      road.supply.source = .tank ∧ road.supply.changeover = none ∧ road.config.idleRpm + 150 = 850 ∧
      pumping.seq.state ≠ .idle := by decide +kernel

/-- A ready part of which the permits stand as their conditions say; and two entries tripped, of which 2 is named. -/
theorem witness_EngageChecksAndBegins_clauses :
    let entry : LockoutEntry := ⟨.line .d7 true, 0b0001, 0b00010, true, 0⟩
    let two : State := { road with
      config := { road.config with entries := (road.config.entries.set .e2 (some entry)).set .e5 (some entry) }
      matrix := { road.matrix with locks := (road.matrix.locks.set .e2 ⟨.latched, none⟩).set .e5 ⟨.tripped, none⟩ } }
    road.PermitLaw ∧ two.listening = true ∧ two.seq.state = .idle ∧
      after (exec (.engage 1 [0]) two) reply = some [0x85, 0, 0x20, 2] :=
  ⟨⟨fun p => by cases p <;> decide +kernel, by decide +kernel⟩, by decide +kernel, by decide +kernel, by decide +kernel⟩

theorem witness_ConfirmEngagesAndDisengageReleases :
    ∀ s ∈ [aboutToMove .awaitConfirm .split [.d2, .d3], aboutToMove .awaitConfirm .clutch [.d4],
      aboutToMove .held .split [.d3], aboutToMove .held .clutch [.d4], aboutToMove .engaged .split [.d2, .d3],
      aboutToMove .idle .none [], aboutToMove .releasing .clutch [.d4], aboutToMove .idlingDown .split [.d3]],
      s.listening = true ∧ s.PhaseLaw ∧ s.PathLaw := by
  have h : ∀ st p set, (st, p) ∈ [(SeqState.awaitConfirm, DrivePath.split), (.awaitConfirm, .clutch), (.held, .split),
      (.held, .clutch), (.engaged, .split), (.idle, .none), (.releasing, .clutch), (.idlingDown, .split)] →
      (aboutToMove st p set).listening = true ∧ (aboutToMove st p set).PathLaw := by
    intro st p set hm
    simp only [List.mem_cons, Prod.mk.injEq, List.not_mem_nil, or_false] at hm
    refine ⟨rfl, ?_⟩
    rcases hm with h | h | h | h | h | h | h | h <;> simp [h, State.PathLaw, aboutToMove, place]
  intro s hs
  simp only [List.mem_cons, List.not_mem_nil, or_false] at hs
  rcases hs with h' | h' | h' | h' | h' | h' | h' | h' <;> subst h' <;>
    exact ⟨(h _ _ _ (by simp)).1, aboutToMove_phase _ _ _, (h _ _ _ (by simp)).2⟩

theorem witness_WindowsExpire :
    ∀ p ∈ [(SeqState.shifting, DrivePath.split, StepWindow.shift), (.awaitRange, .split, .range),
      (.clutching, .clutch, .clutch), (.awaitConfirm, .split, .confirm), (.idlingDown, .split, .idleDown),
      (.releasing, .split, .neutral), (.releasing, .clutch, .release)],
      (timed p.2.2 (aboutToMove p.1 p.2.1 [])).timing p.2.2 = true ∧
        (timed p.2.2 (aboutToMove p.1 p.2.1 [])).seq.state = p.1 := by decide +kernel

/-- OFF, not allowed, deferred, the same mode, IDLE, a new mode, and a new pressure mode on a failed sensor. -/
theorem witness_GovernSetsOrDefers :
    road.gov.opMode = .off ∧ governMode 1 = some .idle ∧ governMode 2 = some .pressure ∧ governMode 4 = some .limit ∧
      governMode 5 = none ∧ pumping.gov.opMode ≠ .off ∧ pumping.matrix.mode = .stationaryPump ∧
      governMode 3 = some .rpm ∧ pumping.gov.noCauses = true ∧ pumping.image.a0.status ≠ .fault ∧ overridden.gov.noCauses = false ∧
      overridden.gov.saved = some ⟨.pressure, 1200⟩ ∧ running.gov.opMode = .pressure ∧
      ({ pumping with image := { pumping.image with a0 := startChannel } } : State).image.a0.status = .fault := by
  decide +kernel

theorem witness_NudgeStepsTheTarget :
    road.gov.opMode = .off ∧ running.listening = true ∧ running.gov.opMode = .pressure ∧ running.gov.noCauses = true ∧
      overridden.gov.noCauses = false := by decide +kernel

theorem witness_ResumeReturnsControl :
    overridden.listening = true ∧ overridden.gov.opMode ≠ .off ∧ overridden.seq.state ≠ .held ∧
      overridden.gov.noCauses = false ∧ overridden.gov.saved = some ⟨.pressure, 1200⟩ ∧
      (∀ c ∈ Cause.all, ¬((overridden.gov.causes.get c).active = true ∧ (overridden.gov.causes.get c).present = true)) ∧
      overridden.image.a0.status ≠ .fault := by decide +kernel

/-- OVERPRESSURE at its fifth update above p_limit, and its return at the 100th at p_limit less 300: alone, not alone, and
HELD. -/
theorem witness_ResumeReturnsControl_overpressure :
    let high : State := { running with
      image := { running.image with a0 := ⟨some 2001, .ok, 0, 0, 0⟩ }, gov := { running.gov with overRun := 4 } }
    let back : State := { running with
      image := { running.image with a0 := ⟨some 1700, .ok, 0, 0, 0⟩ }
      gov := { running.gov with
        returnRun := 99, saved := some ⟨.rpm, 1500⟩, causes := running.gov.causes.set .overpressure ⟨true, true, some 1800⟩ } }
    let both : State := { back with gov := { back.gov with causes := back.gov.causes.set .tankEmpty ⟨true, true, none⟩ } }
    let held : State := { back with seq := { back.seq with state := .held } }
    (high.gov.opMode ≠ .off ∧ high.image.a0.status ≠ .fault ∧ high.image.a0.value = some 2001 ∧
      (800 : Int) ≤ high.config.gov.pLimit ∧ (high.config.gov.pLimit : Int) < 2001 ∧ high.gov.effMode = .pressure ∧
      high.gov.noCauses = true ∧ high.gov.suspect < 9 ∧ high.seq.state = .engaged ∧
      ∀ c ∈ Cause.all, (high.gov.causes.get c).active = false) ∧
    (∀ s ∈ [back, both, held], s.gov.opMode ≠ .off ∧ s.image.a0.value = some 1700 ∧
      (1700 : Int) ≤ (s.config.gov.pLimit : Int) - 300 ∧ (s.gov.causes.get .overpressure).active = true ∧ s.gov.returnRun = 99) ∧
    back.seq.state = .engaged ∧ back.gov.primeLossRun < 249 ∧
      (∀ c ∈ Cause.all, c ≠ .overpressure → (back.gov.causes.get c).active = false) := by decide +kernel

/-- A START that is refused at demand 201 and taken at 200, the 50th sample, a running timer. -/
theorem witness_PrimerStartsAndStops :
    let primed : State := { pumping with gov := { pumping.gov with primer := some ⟨49, ⟨0, 45000⟩⟩ } }
    pumping.listening = true ∧ pumping.matrix.mode = .stationaryPump ∧ pumping.supply.source ≠ .intake ∧
      pumping.gov.demand ≤ 200 ∧ primed.gov.primer = some ⟨49, ⟨0, 45000⟩⟩ ∧ primed.image.a0.status ≠ .fault ∧
      550 ≤ (550 : Code).toNat ∧ (3600 : Code).toNat ≤ 3600 := by decide +kernel

/-- PRIME_LOST at its 250th update below 150 kPa, and its return at the 50th at 150 kPa. -/
theorem witness_PrimerStartsAndStops_primeLost :
    let lost : State := { running with
      image := { running.image with a0 := ⟨some 149, .ok, 0, 0, 0⟩ }
      gov := { running.gov with primeLossRun := 249, demand := 400 } }
    let back : State := { lost with
      image := { lost.image with a0 := ⟨some 150, .ok, 0, 0, 0⟩ }
      gov := { lost.gov with primeReturnRun := 49, causes := lost.gov.causes.set .primeLost ⟨true, true, none⟩ } }
    lost.gov.opMode ≠ .off ∧ lost.supply.source ≠ .intake ∧ lost.seq.state = .engaged ∧
      (∀ c ∈ Cause.all, (lost.gov.causes.get c).active = false) ∧
      after (exec .governorUpdate lost) (fun u => (decide (300 ≤ u.gov.demand), u.gov.effMode)) = some (true, .idle) ∧
      back.image.a0.value = some 150 ∧ back.image.a0.status ≠ .fault ∧ (back.gov.causes.get .primeLost).active = true := by
  decide +kernel

/-- IDLE, a mode with a setpoint, and the tenth suspect update of a ring of eight. -/
theorem witness_GovernorUpdateDrivesTheDemand :
    let old : RingEntry := ⟨some 900, 600, some (-60)⟩
    let s : State := { running with
      gov := { running.gov with ring := List.replicate 8 old, suspect := 9 }
      image := { running.image with a1 := ⟨some (-60), .ok, 0, 0, 0⟩ } }
    road.gov.opMode = .off ∧ pumping.gov.effMode = .idle ∧ running.gov.effMode = .pressure ∧
      running.gov.effSetpoint = some 1000 ∧ running.gov.effTarget = some 1000 ∧ s.gov.suspect = 9 ∧
      s.image.a0.status ≠ .fault ∧ s.image.a1.status ≠ .fault ∧ s.gov.ring = old :: old :: List.replicate 6 old ∧
      (-60 : Int) ≤ s.config.gov.cavThreshold ∧ old.n + 100 ≤ s.image.n ∧ s.image.a0.value = some 850 ∧
      (∀ q ∈ s.gov.ring, q.pIn ≠ none) := by decide +kernel

/-- R100: the same update with one older entry whose P_in is absent is no suspect, and the count is 0. -/
theorem test_governorUpdate_absent_in_ring :
    let old : RingEntry := ⟨some 900, 600, some (-60)⟩
    let s (middle : RingEntry) : State := { running with
      gov := { running.gov with ring := [old, old, middle, old, old, old, old, old], suspect := 8 }
      image := { running.image with a1 := ⟨some (-60), .ok, 0, 0, 0⟩ } }
    [old, ⟨some 900, 600, none⟩].map (fun middle => after (exec .governorUpdate (s middle)) fun u => u.gov.suspect) =
      [some 9, some 0] := by decide +kernel

/-- A table of rising levels with its first, its last and two neighbouring breakpoints at their bounds; tank 0 that
becomes EMPTY on its own water, and one that leaves EMPTY. -/
theorem witness_TankUpdateAndSettlingDecideTheVolume_table :
    exerciseTank.table.Pairwise (fun a b => a.level < b.level) ∧ (0 : Nat) ≤ 0 ∧ (1500 : Nat) ≤ 1500 ∧
      exerciseTank.table = [⟨0, 0⟩] ++ ⟨200, 180⟩ :: ⟨900, 1500⟩ :: [⟨1400, 2400⟩, ⟨1500, 2480⟩] ∧
      after (exec (.tankUpdate .t0) (level (fun _ => 100) (withTank .sensed 400 pumping)))
        (fun u => ((u.tanks.get .t0).band, u.supply.source, u.gov.opMode, (u.gov.causes.get .tankEmpty).active)) =
        some (.empty, .tank, .idle, true) ∧
      after (exec (.tankUpdate .t0) (level (fun _ => 1000)
        { withTank .sensed 100 pumping with
          gov := { pumping.gov with
            causes := pumping.gov.causes.set .tankEmpty ⟨true, true, none⟩, saved := some ⟨.idle, 0⟩ }
          tanks := (withTank .sensed 100 pumping).tanks.set .t0 { startTank exerciseTank with
            state := .sensed, basis := .sensed, volume := some 100, band := .empty } }))
        (fun u => ((u.tanks.get .t0).band, (u.gov.causes.get .tankEmpty).active, (u.gov.causes.get .tankEmpty).present)) =
        some (.normal, true, false) := by
  decide +kernel

theorem witness_TankUpdateAndSettlingDecideTheVolume :
    (road.tanks.get .t1).state = .unconfigured ∧ ((withTank .sensed 9 road).tanks.get .t0).state ≠ .unconfigured ∧
      ((travelling .settling 0).tanks.get .t0).settleTimer ≠ none ∧
      ((travelling .settling 0).tanks.get .t0).state = .settling := by decide +kernel

/-- Settings that are accepted at their boundaries, and a table of two breakpoints. -/
theorem witness_TankSetAndTankTableRestartTheTank :
    road.listening = true ∧ tankOfNo 3 = none ∧ tankOfNo 2 = some .t2 ∧ road.matrix.mode = .road ∧ road.image.v < 5 ∧
      auxTank.emptyL < auxTank.reserveL ∧ auxTank.reserveL < auxTank.fullL ∧ auxTank.fullL ≤ auxTank.capacity ∧
      (∀ b ∈ auxTank.table, b.volume ≤ auxTank.capacity) ∧
      (packTable [⟨0, 0⟩, ⟨2000, 3000⟩]).length = (26 * (2 : Byte).toNat + 7) / 8 := by decide +kernel

/-- Every row of the source record, and the two kinds of a qualifying sample at their boundaries. -/
theorem witness_SourceAndChangeover :
    let going (target : WaterSource) : State :=
      { pumping with supply := { pumping.supply with changeover := some ⟨target, 99, ⟨0, 30000⟩⟩ } }
    road.listening = true ∧ supplied.supply.source = .intake ∧ pumping.supply.source = .tank ∧
      rolling.matrix.mode = .pumpAndRoll ∧ (going .draft).supply.changeover = some ⟨.draft, 99, ⟨0, 30000⟩⟩ ∧
      (going .draft).image.a0.status ≠ .fault ∧ (going .intake).image.a1.status ≠ .fault ∧
      300 ≤ (550 : Code).toNat ∧ (550 : Code).toNat ≤ 3600 ∧ 400 ≤ (581 : Code).toNat ∧ (700 : Code).toNat ≤ 3600 := by
  decide +kernel

/-- A source that becomes TANK over an EMPTY tank, before the part has measured, and one that leaves it with TANK_EMPTY. -/
theorem witness_SourceAndChangeover_tankEmpty :
    let empty : State := { road with
      tanks := road.tanks.set .t0 { road.tanks.get .t0 with band := .empty }
      supply := { road.supply with source := .draft }, gov := { road.gov with opMode := .idle } }
    let leaving : State := { pumping with
      supply := { pumping.supply with changeover := some ⟨.intake, 99, ⟨0, 30000⟩⟩ }
      gov := { pumping.gov with causes := pumping.gov.causes.set .tankEmpty ⟨true, true, none⟩, saved := some ⟨.idle, 0⟩ } }
    empty.listening = true ∧ empty.matrix.mode = .road ∧ empty.supply.source ≠ .tank ∧
      (empty.tanks.get .t0).band = .empty ∧ empty.gov.opMode ≠ .off ∧
      leaving.image.a0.status ≠ .fault ∧ leaving.image.a1.status ≠ .fault ∧
      (leaving.gov.causes.get .tankEmpty).active = true := by decide +kernel

theorem witness_FillBeginsAndEnds :
    supplied.listening = true ∧ supplied.supply.fill = none ∧ supplied.matrix.permits.fill = true ∧
      supplied.supply.source ≠ .tank ∧ (supplied.tanks.get .t0).state = .sensed ∧
      (supplied.tanks.get .t0).volume = some 400 ∧ (supplied.config.tanks.get .t0).fullL = 2400 := by decide +kernel

/-- A fill that rises, one that completes, one that loses its level, and one that a return to TANK abandons. -/
theorem witness_FillBeginsAndEnds_progress :
    filling.supply.fill = some ⟨2400, 400, ⟨3000, 60000⟩, false⟩ ∧ (filling.tanks.get .t0).state = .sensed ∧
      filling.listening = true ∧ filling.matrix.mode = .stationaryPump ∧ filling.supply.source ≠ .tank ∧
      (filling.tanks.get .t0).band ≠ .empty ∧ (filling.gov.causes.get .tankEmpty).active = false ∧
      after (exec (.tankUpdate .t0) filling) (fun u => u.supply.fill) = some (some ⟨2400, 1680, ⟨5000, 60000⟩, true⟩) ∧
      after (exec (.tankUpdate .t0) (level (fun _ => 1400) filling)) (fun u => (u.supply.fill, kinds u)) =
        some (none, [.band, .fillDone]) ∧
      after (exec (.tankUpdate .t0) { filling with image := road.image }) (fun u =>
        ((u.tanks.get .t0).state, u.supply.fill)) = some (.blind, none) := by decide +kernel

/-- R146: the expiry that meets the restarting update does not happen after it; one at a later time abandons the fill. -/
theorem test_riseTimer_met :
    [5000, 5010, 5020].map (fun clock => after (exec .riseTimerExpiry { filling with
      clock, supply := { filling.supply with fill := some ⟨2400, 1680, ⟨5000, 60000⟩, true⟩ } }) kinds) =
      [some [], some [], some [.fillFault]] := by decide +kernel

/-- Metered figures that fit, both levels, and a fill target. -/
theorem witness_GovReadAndTankReadShowTheRecords_state :
    let run := (travelling .travel 42124).tanks.get .t0
    (travelling .travel 42124).listening = true ∧ run.basis = .metered ∧ run.state = .travel ∧
      exerciseTank.outMeter = true ∧ run.outMark = some 40000 ∧ 100 * (42124 - 40000) / 180 < 4294967296 ∧
      exerciseTank.aft = some .a4 ∧ filling.supply.fill ≠ none ∧
      after (exec (.tankRead 1 [0, 0]) (travelling .travel 42124)) (fun u => ((reply u).drop 12).take 4 ++
        ((reply u).drop 20).take 8) = some [1, 73, 1, 49, 0, 0, 4, 156, 0, 0, 0, 0] := by decide +kernel

end Sys2Proof.Tests
end

/-! # State equality, and invariants over commands -/

namespace Sys2Proof.Machine

/-- Two states with the same fields are the same. -/
@[ext] theorem State.ext_fields {s t : State} (pending : s.pending = t.pending) (clock : s.clock = t.clock)
    (strap : s.strap = t.strap) (config : s.config = t.config) (image : s.image = t.image)
    (matrix : s.matrix = t.matrix) (seq : s.seq = t.seq)
    (recoveredAtStart : s.recoveredAtStart = t.recoveredAtStart) (gov : s.gov = t.gov)
    (tanks : s.tanks = t.tanks) (supply : s.supply = t.supply) (reports : s.reports = t.reports)
    (store : s.store = t.store) (link : s.link = t.link) : s = t := by
  cases s
  cases t
  simp_all only

/-- A fold whose steps each write the part of their own index, from what no other step moves, writes every part once. -/
theorem foldl_own {σ ι α : Type} [DecidableEq ι] {own g : σ → ι → α} {f : σ → ι → σ}
    (writes : ∀ s j i, own (f s j) i = if i = j then g s j else own s i)
    (apart : ∀ s j i, i ≠ j → g (f s j) i = g s i) (l : List ι) (nodup : l.Nodup) (s : σ) (i : ι) :
    own (l.foldl f s) i = if i ∈ l then g s i else own s i := by
  induction l generalizing s with
  | nil => simp
  | cons j l ih =>
    obtain ⟨fresh, nodup⟩ := List.nodup_cons.1 nodup
    rw [List.foldl_cons, ih nodup]
    by_cases h : i = j
    · subst h
      simp [fresh, writes]
    · by_cases hi : i ∈ l <;> simp [h, hi, writes, apart]

/-- The transmitter's choice touches the queue and the link port alone (R152). -/
theorem State.kick_eq (s : State) : s.kick = { s with reports := s.kick.reports, link := s.kick.link } := by
  ext1 <;> simp

/-- What an event of the apparatus, the store or a timer does before the transmitter chooses; none for the commands
that reach the part through the link port, and for the start-ups. -/
def eventOf : Instr → Option (State → State)
  | .writeBackWordDone found => some (·.writeBackDone found)
  | .pressureSample c0 c1 => some (·.pressureSample c0 c1)
  | .temperatureSample c2 => some (·.temperatureSample c2)
  | .levelSample ch c => some (·.levelSample ch c)
  | .engineSpeedGateEnd => some State.engineGateEnd
  | .roadSpeedGateEnd => some State.roadGateEnd
  | .flowGateEnd m => some (·.flowGateEnd m)
  | .lineSample raw => some (·.lineSample raw)
  | .pulseArrival p => some (·.pulse p)
  | .rollOverspeedExpiry => some State.rollOverspeedExpiry
  | .lockoutDelayExpiry i => some (·.lockDelayExpiry i)
  | .shiftWindowExpiry => some (·.windowExpiry .shifting .shift .shiftTimeout)
  | .rangeWindowExpiry => some (·.windowExpiry .awaitRange .range .rangeTimeout)
  | .clutchWindowExpiry => some (·.windowExpiry .clutching .clutch .clutchTimeout)
  | .confirmWindowExpiry => some (·.windowExpiry .awaitConfirm .confirm .confirmLapsed)
  | .idleDownWindowExpiry => some State.idleDownExpiry
  | .neutralWaitExpiry => some State.neutralExpiry
  | .releaseWindowExpiry => some State.releaseExpiry
  | .governorUpdate => some State.governorUpdate
  | .primeTimeExpiry => some State.primeExpiry
  | .tankUpdate t => some (·.tankUpdate t)
  | .settleTimerExpiry t => some (·.settleExpiry t)
  | .changeoverWindowExpiry => some State.changeoverExpiry
  | .riseTimerExpiry => some State.riseExpiry
  | .commitWordDone found => some (·.commitWordDone found)
  | .powerOn _ | .resetLine _ | .status _ _ | .fetch _ _ | .gate _ _ | .inputs _ _ | .lockoutSet _ _
  | .lockoutGet _ _ | .latchClear _ _ | .silence _ _ | .engage _ _ | .confirm _ _ | .disengage _ _ | .govern _ _
  | .nudge _ _ | .resume _ _ | .prime _ _ | .govRead _ _ | .tankSet _ _ | .tankTable _ _ | .tankRead _ _
  | .source _ _ | .fill _ _ | .paramSet _ _ | .paramGet _ _ | .commit _ _ | .restart _ _
  | .unknownKindFrame _ _ _ | .frameDiscarded _ | .frameGapTimeout | .transmitFrameEnd | .byteArrival _ => none

/-- An event of the apparatus is its own effect, then the transmitter's choice (R152). -/
theorem exec_event {c : Instr} {f : State → State} (h : eventOf c = some f) (s : State) :
    exec c s = .next (f s).kick := by
  cases c <;> cases h <;> rfl

/-- The kind, tag and payload of the frame that a request row stands for (R150, R155). -/
def frameOf : Instr → Option (Byte × Byte × List Byte)
  | .status tag p => some (0x01, tag, p)
  | .fetch tag p => some (0x02, tag, p)
  | .gate tag p => some (0x03, tag, p)
  | .inputs tag p => some (0x04, tag, p)
  | .lockoutSet tag p => some (0x10, tag, p)
  | .lockoutGet tag p => some (0x11, tag, p)
  | .latchClear tag p => some (0x12, tag, p)
  | .silence tag p => some (0x13, tag, p)
  | .engage tag p => some (0x20, tag, p)
  | .confirm tag p => some (0x21, tag, p)
  | .disengage tag p => some (0x22, tag, p)
  | .govern tag p => some (0x30, tag, p)
  | .nudge tag p => some (0x31, tag, p)
  | .resume tag p => some (0x32, tag, p)
  | .prime tag p => some (0x33, tag, p)
  | .govRead tag p => some (0x34, tag, p)
  | .tankRead tag p => some (0x40, tag, p)
  | .tankTable tag p => some (0x41, tag, p)
  | .tankSet tag p => some (0x42, tag, p)
  | .source tag p => some (0x43, tag, p)
  | .fill tag p => some (0x44, tag, p)
  | .paramSet tag p => some (0x50, tag, p)
  | .paramGet tag p => some (0x51, tag, p)
  | .commit tag p => some (0x52, tag, p)
  | .restart tag p => some (0x53, tag, p)
  | .unknownKindFrame kind tag p => some (kind, tag, p)
  | _ => none

/-- A request row takes its frame whole (R150). -/
theorem exec_frame {c : Instr} {kind tag : Byte} {p : List Byte} (h : frameOf c = some (kind, tag, p)) (s : State) :
    exec c s = .next (s.takeFrame kind tag p) := by
  cases c <;> cases h <;> rfl

/-- What a command can do (R148, R150, R152, R172): an event of the apparatus, a request frame taken whole, a start-up,
or what the receiver and the transmitter do. -/
theorem exec_cases (c : Instr) :
    (∃ f, eventOf c = some f) ∨ (∃ kind tag p, frameOf c = some (kind, tag, p)) ∨
    (∃ found, ∀ s, exec c s = .next (s.startUp found).kick) ∨
    (∃ b, ∀ s, exec c s = .next (s.byteArrives b).kick) ∨ (∃ b, ∀ s, exec c s = .next (s.frameDiscards b).kick) ∨
    (∀ s, exec c s = .next s.gapTimeout.kick) ∨ ∀ s, exec c s = .next s.transmitEnds.kick := by
  cases c
  case powerOn found | resetLine found => exact .inr (.inr (.inl ⟨found, fun _ => rfl⟩))
  case byteArrival b => exact .inr (.inr (.inr (.inl ⟨b, fun _ => rfl⟩)))
  case frameDiscarded b => exact .inr (.inr (.inr (.inr (.inl ⟨b, fun _ => rfl⟩))))
  case frameGapTimeout => exact .inr (.inr (.inr (.inr (.inr (.inl fun _ => rfl)))))
  case transmitFrameEnd => exact .inr (.inr (.inr (.inr (.inr (.inr fun _ => rfl)))))
  all_goals first | exact .inl ⟨_, rfl⟩ | exact .inr (.inl ⟨_, _, _, rfl⟩)

section Keeps

variable {P : State → Prop}

/-- A fact that neither the queue of reports nor the link port moves outlasts the transmitter's choice. -/
theorem kick_keeps (link : ∀ s q k, P s → P { s with reports := q, link := k }) {s : State} (hs : P s) : P s.kick := by
  rw [State.kick_eq]
  exact link _ _ _ hs

/-- Such a fact outlasts a request frame whose owner keeps it. -/
theorem onFrame_keeps (link : ∀ s q k, P s → P { s with reports := q, link := k }) (kind tag : Byte)
    {answer : State → State × Answer} (owner : ∀ s, P s → P (answer s).1) {s : State} (hs : P s) :
    P (s.onFrame kind tag answer) := by
  unfold State.onFrame
  split
  · exact kick_keeps link (link _ _ _ (owner _ (link s s.reports _ hs)))
  · exact hs

/-- What every frame taken keeps, the receiver keeps as it goes over its bytes (R148). -/
theorem receive_keeps (rx : ∀ s b, P s → P (s.setRx b)) (frame : ∀ s kind tag p, P s → P (s.takeFrame kind tag p))
    (fuel : Nat) (body : List Byte) {s : State} (hs : P s) : P (State.receive fuel body s) := by
  induction fuel generalizing body s with
  | zero => exact rx _ _ hs
  | succ fuel ih =>
    cases body with
    | nil => exact rx _ _ hs
    | cons b body =>
      unfold State.receive
      split
      · exact ih _ hs
      · split
        · exact rx _ _ hs
        · exact ih _ hs
        · rename_i kind tag p rest _
          have ht := frame s kind tag p hs
          dsimp only
          split
          · exact ih _ ht
          · exact rx _ _ ht

/-- A fact that neither reports nor the link port move, that a start-up leaves, and that every request's owner and the
event at hand keep, is kept by the command. -/
theorem exec_keeps (link : ∀ s q k, P s → P { s with reports := q, link := k })
    (start : ∀ s found, P s → P (s.startUp found)) (answer : ∀ kind p s, P s → P (answerKind kind p s).1) {c : Instr}
    (event : ∀ f, eventOf c = some f → ∀ s, P s → P (f s)) {s t : State} (hs : P s) (h : exec c s = .next t) : P t := by
  have frame : ∀ s kind tag p, P s → P (s.takeFrame kind tag p) := fun s kind tag p =>
    onFrame_keeps link kind tag (answer kind p)
  have byte : ∀ b, P (s.byteArrives b) := fun b => by
    unfold State.byteArrives
    split
    · exact receive_keeps (fun s b => link s s.reports _) frame _ _ hs
    · exact hs
  rcases exec_cases c with ⟨f, e⟩ | ⟨kind, tag, p, e⟩ | ⟨found, e⟩ | ⟨b, e⟩ | ⟨b, e⟩ | e | e
  · cases (exec_event e s).symm.trans h
    exact kick_keeps link (event f e s hs)
  · cases (exec_frame e s).symm.trans h
    exact frame _ _ _ _ hs
  · cases (e s).symm.trans h
    exact kick_keeps link (start _ _ hs)
  · cases (e s).symm.trans h
    exact kick_keeps link (byte b)
  · cases (e s).symm.trans h
    refine kick_keeps link ?_
    unfold State.frameDiscards
    split
    · exact byte b
    · exact hs
  · cases (e s).symm.trans h
    exact kick_keeps link (link s s.reports _ hs)
  · cases (e s).symm.trans h
    refine kick_keeps link ?_
    have ended := fun k => link s s.reports k hs
    unfold State.transmitEnds
    split
    · exact hs
    · dsimp only
      split
      · exact start _ _ (ended _)
      · exact ended _

/-- What the front command keeps, a step keeps, if the queue of commands does not move it. -/
theorem step_keeps (pending : ∀ s l, P s → P { s with pending := l })
    (command : ∀ c s t, P s → exec c s = .next t → P t) {s t : State} (hs : P s) (h : step s = .next t) : P t := by
  unfold step at h
  split at h
  · cases h
    exact hs
  · exact command _ _ _ (pending _ _ hs) h

end Keeps

end Sys2Proof.Machine

/-! # The apparatus mode, the throttle mode and the roll-speed state -/

namespace Sys2Proof.Machine

@[simp] theorem State.judgeHorn_modes (s : State) :
    s.judgeHorn.matrix.mode = s.matrix.mode ∧ s.judgeHorn.matrix.throttleMode = s.matrix.throttleMode ∧
    s.judgeHorn.matrix.roll = s.matrix.roll := by
  simp only [State.judgeHorn]
  simp

@[simp] theorem State.hornArises_modes (s : State) :
    s.hornArises.matrix.mode = s.matrix.mode ∧ s.hornArises.matrix.throttleMode = s.matrix.throttleMode ∧
    s.hornArises.matrix.roll = s.matrix.roll := by
  simp only [State.hornArises]
  simp

@[simp] theorem State.raiseCause_modes (s : State) (c : Cause) (v : List Byte) :
    (s.raiseCause c v).matrix.mode = s.matrix.mode ∧ (s.raiseCause c v).matrix.throttleMode = s.matrix.throttleMode ∧
    (s.raiseCause c v).matrix.roll = s.matrix.roll := by
  simp only [State.raiseCause]
  repeat' split
  all_goals simp

@[simp] theorem State.judgePressureSensor_modes (s : State) :
    s.judgePressureSensor.matrix.mode = s.matrix.mode ∧ s.judgePressureSensor.matrix.throttleMode = s.matrix.throttleMode ∧
    s.judgePressureSensor.matrix.roll = s.matrix.roll := by
  simp only [State.judgePressureSensor]
  repeat' split
  all_goals simp

@[simp] theorem State.raise_modes (s : State) (c : Cause) (v : List Byte) :
    (s.raise c v).matrix.mode = s.matrix.mode ∧ (s.raise c v).matrix.throttleMode = s.matrix.throttleMode ∧
    (s.raise c v).matrix.roll = s.matrix.roll := by
  simp only [State.raise]
  repeat' split
  all_goals simp

@[simp] theorem State.judgeOverheat_modes (s : State) :
    s.judgeOverheat.matrix.mode = s.matrix.mode ∧ s.judgeOverheat.matrix.throttleMode = s.matrix.throttleMode ∧
    s.judgeOverheat.matrix.roll = s.matrix.roll := by
  simp only [State.judgeOverheat]
  repeat' split
  all_goals simp

@[simp] theorem State.judgeTankEmpty_modes (s : State) :
    s.judgeTankEmpty.matrix.mode = s.matrix.mode ∧ s.judgeTankEmpty.matrix.throttleMode = s.matrix.throttleMode ∧
    s.judgeTankEmpty.matrix.roll = s.matrix.roll := by
  simp only [State.judgeTankEmpty]
  repeat' split
  all_goals simp

@[simp] theorem State.governorOff_modes (s : State) :
    s.governorOff.matrix.mode = s.matrix.mode ∧ s.governorOff.matrix.throttleMode = s.matrix.throttleMode ∧
    s.governorOff.matrix.roll = s.matrix.roll := by
  simp only [State.governorOff]
  simp

@[simp] theorem State.governorHold_modes (s : State) :
    s.governorHold.matrix.mode = s.matrix.mode ∧ s.governorHold.matrix.throttleMode = s.matrix.throttleMode ∧
    s.governorHold.matrix.roll = s.matrix.roll := by
  simp only [State.governorHold]
  simp

@[simp] theorem State.governorEngage_modes (s : State) :
    s.governorEngage.matrix.mode = s.matrix.mode ∧ s.governorEngage.matrix.throttleMode = s.matrix.throttleMode ∧
    s.governorEngage.matrix.roll = s.matrix.roll := by
  simp only [State.governorEngage]
  repeat' split
  all_goals simp

@[simp] theorem State.discardProtection_modes (s : State) :
    s.discardProtection.matrix.mode = s.matrix.mode ∧ s.discardProtection.matrix.throttleMode = s.matrix.throttleMode ∧
    s.discardProtection.matrix.roll = s.matrix.roll := by
  simp only [State.discardProtection]
  simp

@[simp] theorem State.returnToOperator_modes (s : State) :
    s.returnToOperator.matrix.mode = s.matrix.mode ∧ s.returnToOperator.matrix.throttleMode = s.matrix.throttleMode ∧
    s.returnToOperator.matrix.roll = s.matrix.roll := by
  simp only [State.returnToOperator]
  simp

@[simp] theorem State.recomputePermit_modes (s : State) (p : Permit) :
    (s.recomputePermit p).matrix.mode = s.matrix.mode ∧ (s.recomputePermit p).matrix.throttleMode = s.matrix.throttleMode ∧
    (s.recomputePermit p).matrix.roll = s.matrix.roll := by
  simp only [State.recomputePermit]
  repeat' split
  all_goals simp

@[simp] theorem State.recomputeCap_modes (s : State) :
    s.recomputeCap.matrix.mode = s.matrix.mode ∧ s.recomputeCap.matrix.throttleMode = s.matrix.throttleMode ∧
    s.recomputeCap.matrix.roll = s.matrix.roll := by
  simp only [State.recomputeCap]
  repeat' split
  all_goals simp

@[simp] theorem State.recomputePermits_modes (s : State) :
    s.recomputePermits.matrix.mode = s.matrix.mode ∧ s.recomputePermits.matrix.throttleMode = s.matrix.throttleMode ∧
    s.recomputePermits.matrix.roll = s.matrix.roll := by
  simp only [State.recomputePermits, Permit.all, List.foldl]
  split
  all_goals simp

@[simp] theorem State.moveLock_modes (s : State) (i : EntryIx) (e : LockoutEntry) (n : LockState) :
    (s.moveLock i e n).matrix.mode = s.matrix.mode ∧ (s.moveLock i e n).matrix.throttleMode = s.matrix.throttleMode ∧
    (s.moveLock i e n).matrix.roll = s.matrix.roll := by
  simp only [State.moveLock]
  repeat' split
  all_goals simp

@[simp] theorem State.judgeLock_modes (s : State) (i : EntryIx) :
    (s.judgeLock i).matrix.mode = s.matrix.mode ∧ (s.judgeLock i).matrix.throttleMode = s.matrix.throttleMode ∧
    (s.judgeLock i).matrix.roll = s.matrix.roll := by
  simp only [State.judgeLock]
  repeat' split
  all_goals simp

@[simp] theorem State.judgeLocks_modes (s : State) (sel : LockCond → Bool) :
    (s.judgeLocks sel).matrix.mode = s.matrix.mode ∧ (s.judgeLocks sel).matrix.throttleMode = s.matrix.throttleMode ∧
    (s.judgeLocks sel).matrix.roll = s.matrix.roll := by
  unfold State.judgeLocks
  refine foldl_keeps (fun t : State => t.matrix.mode = s.matrix.mode ∧ t.matrix.throttleMode = s.matrix.throttleMode ∧
    t.matrix.roll = s.matrix.roll) _ _ s ⟨rfl, rfl, rfl⟩ ?_
  intro t i h
  repeat' split
  all_goals simpa using h

@[simp] theorem State.matrixJudge_modes (s : State) (sel : LockCond → Bool) :
    (s.matrixJudge sel).matrix.mode = s.matrix.mode ∧ (s.matrixJudge sel).matrix.throttleMode = s.matrix.throttleMode ∧
    (s.matrixJudge sel).matrix.roll = s.matrix.roll := by
  simp only [State.matrixJudge]
  simp

@[simp] theorem State.matrixRecompute_modes (s : State) :
    s.matrixRecompute.matrix.mode = s.matrix.mode ∧ s.matrixRecompute.matrix.throttleMode = s.matrix.throttleMode ∧
    s.matrixRecompute.matrix.roll = s.matrix.roll := by
  simp only [State.matrixRecompute]
  simp

@[simp] theorem State.clearOverspeed_modes (s : State) :
    s.clearOverspeed.matrix.mode = s.matrix.mode ∧ s.clearOverspeed.matrix.throttleMode = s.matrix.throttleMode ∧
    s.clearOverspeed.matrix.roll = s.matrix.roll := by
  simp only [State.clearOverspeed]
  repeat' split
  all_goals simp

@[simp] theorem State.judgeOverspeed_modes (s : State) :
    s.judgeOverspeed.matrix.mode = s.matrix.mode ∧ s.judgeOverspeed.matrix.throttleMode = s.matrix.throttleMode ∧
    s.judgeOverspeed.matrix.roll = s.matrix.roll := by
  simp only [State.judgeOverspeed]
  repeat' split
  all_goals simp

@[simp] theorem State.handTank_modes (s : State) (t : TankIx) (b : TankRun) :
    (s.handTank t b).matrix.mode = s.matrix.mode ∧ (s.handTank t b).matrix.throttleMode = s.matrix.throttleMode ∧
    (s.handTank t b).matrix.roll = s.matrix.roll := by
  simp only [State.handTank]
  repeat' split
  all_goals simp

@[simp] theorem State.enterTravel_modes (s : State) (t : TankIx) :
    (s.enterTravel t).matrix.mode = s.matrix.mode ∧ (s.enterTravel t).matrix.throttleMode = s.matrix.throttleMode ∧
    (s.enterTravel t).matrix.roll = s.matrix.roll := by
  simp only [State.enterTravel]
  repeat' split
  all_goals simp

@[simp] theorem State.tanksAtRoadGate_modes (s : State) (w : Bool) :
    (s.tanksAtRoadGate w).matrix.mode = s.matrix.mode ∧ (s.tanksAtRoadGate w).matrix.throttleMode = s.matrix.throttleMode ∧
    (s.tanksAtRoadGate w).matrix.roll = s.matrix.roll := by
  have kept (f : State → TankIx → State) (hf : ∀ t i, (f t i).matrix.mode = t.matrix.mode ∧
      (f t i).matrix.throttleMode = t.matrix.throttleMode ∧ (f t i).matrix.roll = t.matrix.roll) :=
    foldl_keeps (fun t : State => t.matrix.mode = s.matrix.mode ∧ t.matrix.throttleMode = s.matrix.throttleMode ∧
      t.matrix.roll = s.matrix.roll) f TankIx.all s ⟨rfl, rfl, rfl⟩ fun t i h => by simpa [hf] using h
  unfold State.tanksAtRoadGate
  repeat' split
  · exact ⟨rfl, rfl, rfl⟩
  · exact kept _ (by simp)
  · exact kept _ (by simp)
  · exact ⟨rfl, rfl, rfl⟩

@[simp] theorem State.tankUpdate_modes (s : State) (t : TankIx) :
    (s.tankUpdate t).matrix.mode = s.matrix.mode ∧ (s.tankUpdate t).matrix.throttleMode = s.matrix.throttleMode ∧
    (s.tankUpdate t).matrix.roll = s.matrix.roll := by
  simp only [State.tankUpdate]
  repeat' split
  all_goals simp

@[simp] theorem State.settleExpiry_modes (s : State) (t : TankIx) :
    (s.settleExpiry t).matrix.mode = s.matrix.mode ∧ (s.settleExpiry t).matrix.throttleMode = s.matrix.throttleMode ∧
    (s.settleExpiry t).matrix.roll = s.matrix.roll := by
  simp only [State.settleExpiry]
  repeat' split
  all_goals simp

@[simp] theorem State.restartTank_modes (s : State) (t : TankIx) :
    (s.restartTank t).matrix.mode = s.matrix.mode ∧ (s.restartTank t).matrix.throttleMode = s.matrix.throttleMode ∧
    (s.restartTank t).matrix.roll = s.matrix.roll := by
  simp only [State.restartTank]
  repeat' split
  all_goals simp

@[simp] theorem State.handSource_modes (s : State) :
    s.handSource.matrix.mode = s.matrix.mode ∧ s.handSource.matrix.throttleMode = s.matrix.throttleMode ∧
    s.handSource.matrix.roll = s.matrix.roll := by
  simp only [State.handSource]
  repeat' split
  all_goals simp

@[simp] theorem State.changeSource_modes (s : State) (w : WaterSource) :
    (s.changeSource w).matrix.mode = s.matrix.mode ∧ (s.changeSource w).matrix.throttleMode = s.matrix.throttleMode ∧
    (s.changeSource w).matrix.roll = s.matrix.roll := by
  simp only [State.changeSource]
  repeat' split
  all_goals simp

@[simp] theorem State.completeChangeover_modes (s : State) (c : Changeover) :
    (s.completeChangeover c).matrix.mode = s.matrix.mode ∧ (s.completeChangeover c).matrix.throttleMode = s.matrix.throttleMode ∧
    (s.completeChangeover c).matrix.roll = s.matrix.roll := by
  simp only [State.completeChangeover]
  simp

@[simp] theorem State.judgeChangeover_modes (s : State) :
    s.judgeChangeover.matrix.mode = s.matrix.mode ∧ s.judgeChangeover.matrix.throttleMode = s.matrix.throttleMode ∧
    s.judgeChangeover.matrix.roll = s.matrix.roll := by
  simp only [State.judgeChangeover]
  repeat' split
  all_goals simp

@[simp] theorem State.pressureSample_modes (s : State) (c0 c1 : Code) :
    (s.pressureSample c0 c1).matrix.mode = s.matrix.mode ∧ (s.pressureSample c0 c1).matrix.throttleMode = s.matrix.throttleMode ∧
    (s.pressureSample c0 c1).matrix.roll = s.matrix.roll := by
  simp only [State.pressureSample]
  repeat' split
  all_goals simp

@[simp] theorem State.temperatureSample_modes (s : State) (c2 : Code) :
    (s.temperatureSample c2).matrix.mode = s.matrix.mode ∧ (s.temperatureSample c2).matrix.throttleMode = s.matrix.throttleMode ∧
    (s.temperatureSample c2).matrix.roll = s.matrix.roll := by
  simp only [State.temperatureSample]
  repeat' split
  all_goals simp

@[simp] theorem State.rollOverspeedExpiry_modes (s : State) :
    s.rollOverspeedExpiry.matrix.mode = s.matrix.mode ∧ s.rollOverspeedExpiry.matrix.throttleMode = s.matrix.throttleMode ∧
    s.rollOverspeedExpiry.matrix.roll = s.matrix.roll := by
  simp only [State.rollOverspeedExpiry]
  repeat' split
  all_goals simp

@[simp] theorem State.lockDelayExpiry_modes (s : State) (i : EntryIx) :
    (s.lockDelayExpiry i).matrix.mode = s.matrix.mode ∧ (s.lockDelayExpiry i).matrix.throttleMode = s.matrix.throttleMode ∧
    (s.lockDelayExpiry i).matrix.roll = s.matrix.roll := by
  simp only [State.lockDelayExpiry]
  repeat' split
  all_goals simp

@[simp] theorem State.judgeCavitation_modes (s : State) :
    s.judgeCavitation.matrix.mode = s.matrix.mode ∧ s.judgeCavitation.matrix.throttleMode = s.matrix.throttleMode ∧
    s.judgeCavitation.matrix.roll = s.matrix.roll := by
  simp only [State.judgeCavitation]
  repeat' split
  all_goals simp

@[simp] theorem State.judgePrimeLost_modes (s : State) :
    s.judgePrimeLost.matrix.mode = s.matrix.mode ∧ s.judgePrimeLost.matrix.throttleMode = s.matrix.throttleMode ∧
    s.judgePrimeLost.matrix.roll = s.matrix.roll := by
  simp only [State.judgePrimeLost]
  repeat' split
  all_goals simp

@[simp] theorem State.judgeOverLimit_modes (s : State) (m : GovMode) :
    (s.judgeOverLimit m).matrix.mode = s.matrix.mode ∧ (s.judgeOverLimit m).matrix.throttleMode = s.matrix.throttleMode ∧
    (s.judgeOverLimit m).matrix.roll = s.matrix.roll := by
  simp only [State.judgeOverLimit]
  repeat' split
  all_goals simp

@[simp] theorem State.overpressureReturns_modes (s : State) :
    s.overpressureReturns.matrix.mode = s.matrix.mode ∧ s.overpressureReturns.matrix.throttleMode = s.matrix.throttleMode ∧
    s.overpressureReturns.matrix.roll = s.matrix.roll := by
  simp only [State.overpressureReturns]
  repeat' split
  all_goals simp

@[simp] theorem State.judgeReturn_modes (s : State) :
    s.judgeReturn.matrix.mode = s.matrix.mode ∧ s.judgeReturn.matrix.throttleMode = s.matrix.throttleMode ∧
    s.judgeReturn.matrix.roll = s.matrix.roll := by
  simp only [State.judgeReturn]
  repeat' split
  all_goals simp

@[simp] theorem State.protectionTests_modes (s : State) (m : GovMode) :
    (s.protectionTests m).matrix.mode = s.matrix.mode ∧ (s.protectionTests m).matrix.throttleMode = s.matrix.throttleMode ∧
    (s.protectionTests m).matrix.roll = s.matrix.roll := by
  simp only [State.protectionTests]
  simp

@[simp] theorem State.governorUpdate_modes (s : State) :
    s.governorUpdate.matrix.mode = s.matrix.mode ∧ s.governorUpdate.matrix.throttleMode = s.matrix.throttleMode ∧
    s.governorUpdate.matrix.roll = s.matrix.roll := by
  simp only [State.governorUpdate]
  repeat' split
  all_goals simp

@[simp] theorem State.govern_modes (s : State) (m : GovMode) (x : Int) :
    (s.govern m x).matrix.mode = s.matrix.mode ∧ (s.govern m x).matrix.throttleMode = s.matrix.throttleMode ∧
    (s.govern m x).matrix.roll = s.matrix.roll := by
  simp only [State.govern]
  repeat' split
  all_goals simp

@[simp] theorem State.writeEntry_modes (s : State) (i : EntryIx) (n : Option LockoutEntry) :
    (s.writeEntry i n).matrix.mode = s.matrix.mode ∧ (s.writeEntry i n).matrix.throttleMode = s.matrix.throttleMode ∧
    (s.writeEntry i n).matrix.roll = s.matrix.roll := by
  simp only [State.writeEntry]
  repeat' split
  all_goals simp

@[simp] theorem State.clearLatch_modes (s : State) (i : EntryIx) :
    (s.clearLatch i).matrix.mode = s.matrix.mode ∧ (s.clearLatch i).matrix.throttleMode = s.matrix.throttleMode ∧
    (s.clearLatch i).matrix.roll = s.matrix.roll := by
  simp only [State.clearLatch]
  repeat' split
  all_goals simp

@[simp] theorem State.silence_modes (s : State) :
    s.silence.matrix.mode = s.matrix.mode ∧ s.silence.matrix.throttleMode = s.matrix.throttleMode ∧
    s.silence.matrix.roll = s.matrix.roll := by
  simp only [State.silence]
  repeat' split
  all_goals simp

@[simp] theorem State.configureTank_modes (s : State) (t : TankIx) (c : TankSettings) :
    (s.configureTank t c).matrix.mode = s.matrix.mode ∧ (s.configureTank t c).matrix.throttleMode = s.matrix.throttleMode ∧
    (s.configureTank t c).matrix.roll = s.matrix.roll := by
  simp only [State.configureTank]
  simp

end Sys2Proof.Machine

/-! # What the sequencer's operations leave of its record, the mode, the roll-speed state and the outflow -/

namespace Sys2Proof.Machine

/-- The mode is what the sequencer's state and path give (R18). -/
def State.ModeLaw (s : State) : Prop := s.matrix.mode = modeOf s.seq.state s.seq.path

theorem modeOf_ne_start (st : SeqState) (path : DrivePath) : modeOf st path ≠ .start := by
  cases st <;> cases path <;> decide

theorem State.ModeLaw.ne_start {s : State} (h : s.ModeLaw) : s.matrix.mode ≠ .start := by
  rw [h]
  exact modeOf_ne_start _ _

/-! ### The matrix takes a mode -/

@[simp] theorem State.setMode_modes (s : State) (m : AppMode) :
    (s.setMode m).matrix.mode = m ∧ (s.setMode m).matrix.throttleMode = throttleModeOf m ∧
    (s.setMode m).matrix.roll = s.matrix.roll := by
  simp only [State.setMode]
  split <;> simp

@[simp] theorem State.enterMode_mode (s : State) (m : AppMode) : (s.enterMode m).matrix.mode = m := by
  unfold State.enterMode
  split
  next h => simp [h]
  next => simp

@[simp] theorem State.matrixTake_mode (s : State) :
    s.matrixTake.matrix.mode = if s.matrix.mode = .start then .start else modeOf s.seq.state s.seq.path :=
  s.enterMode_mode _

theorem State.matrixTake_modeLaw {s : State} (h : s.matrix.mode ≠ .start) : s.matrixTake.ModeLaw := by
  simp [State.ModeLaw, h]

/-! ### The sequencer's record after each operation -/

@[simp] theorem State.setSeq_seq (s : State) (q : Sequencer) : (s.setSeq q).seq = q := by simp [State.setSeq]

/-- In IDLE the record is that of start-up (R42, R64). -/
@[simp] theorem State.enterIdle_seq (s : State) : s.enterIdle.seq = startSequencer := by
  simp [State.enterIdle, startSequencer]

@[simp] theorem State.enterHeldTimeout_seq (s : State) : s.enterHeldTimeout.seq =
    { s.seq with state := .held, stepTimer := none, reason := some .timeout, oShiftRoad := false } := by
  simp [State.enterHeldTimeout]

/-- Judging the road shift moves its solenoid and the step timer alone (R62). -/
theorem State.judgeRoadShift_seq (s : State) :
    ∃ shift timer, s.judgeRoadShift.seq = { s.seq with oShiftRoad := shift, stepTimer := timer } := by
  unfold State.judgeRoadShift
  repeat' split
  · exact ⟨_, _, rfl⟩
  · exact ⟨false, none, by simp⟩
  · exact ⟨true, _, by simp; rfl⟩
  · exact ⟨_, _, rfl⟩
  · exact ⟨_, _, rfl⟩

theorem State.lineClear_of_image {s t : State} (h : t.image = s.image) (l : Line) : t.lineClear l = s.lineClear l := by
  unfold State.lineClear
  rw [h]

theorem State.enterReleasingClutch_seq (s : State) : s.enterReleasingClutch.seq =
    if s.lineClear .d4 then startSequencer
    else { s.seq with state := .releasing, oClutch := false, stepTimer := s.stepTimer .release } := by
  unfold State.enterReleasingClutch
  dsimp only
  rw [State.lineClear_of_image (s := s) (by simp)]
  split <;> simp

/-- On the split path the release ends at once where D3 reads released; otherwise the road shift is judged (R62). -/
theorem State.enterReleasingSplit_seq (s : State) :
    (s.lineClear .d3 = true ∧ s.enterReleasingSplit.seq = startSequencer) ∨
    (s.lineClear .d3 = false ∧ ∃ shift timer, s.enterReleasingSplit.seq =
      { s.seq with state := .releasing, oShiftRoad := shift, stepTimer := timer }) := by
  unfold State.enterReleasingSplit
  dsimp only
  generalize (if s.lineClear .d3 then none else s.stepTimer .neutral) = timer
  have lines (q : Sequencer) : (s.setSeq q).matrixTake.lineClear .d3 = s.lineClear .d3 :=
    State.lineClear_of_image (by simp) _
  rw [lines]
  split
  · next h => exact .inl ⟨h, by simp⟩
  · next h =>
    obtain ⟨shift, timer, e⟩ :=
      State.judgeRoadShift_seq (s.setSeq { s.seq with state := .releasing, stepTimer := timer }).matrixTake
    exact .inr ⟨by simpa using h, shift, timer, by simpa using e⟩

@[simp] theorem State.enterShifting_seq (s : State) : s.enterShifting.seq =
    { s.seq with state := .shifting, path := .split, oShiftPump := true, stepTimer := s.stepTimer .shift } := by
  simp [State.enterShifting]

@[simp] theorem State.enterClutching_seq (s : State) : s.enterClutching.seq =
    { s.seq with state := .clutching, path := .clutch, oClutch := true, stepTimer := s.stepTimer .clutch } := by
  simp [State.enterClutching]

@[simp] theorem State.enterAwaitConfirm_seq (s : State) : s.enterAwaitConfirm.seq =
    { s.seq with state := .awaitConfirm, stepTimer := s.stepTimer .confirm } := by
  simp [State.enterAwaitConfirm]

@[simp] theorem State.enterEngaged_seq (s : State) : s.enterEngaged.seq =
    { s.seq with
      state := .engaged, stepTimer := none, reason := none, oClutch := s.seq.oClutch || s.seq.path == .clutch } := by
  simp [State.enterEngaged]

@[simp] theorem State.enterHeldFeedback_seq (s : State) : s.enterHeldFeedback.seq =
    { s.seq with state := .held, stepTimer := none, reason := some .feedback } := by
  simp [State.enterHeldFeedback]

@[simp] theorem State.startDecision_seq (s : State) : s.startDecision.seq =
    if s.lineSet .d3 then { s.seq with state := .held, path := .split, reason := none } else s.seq := by
  unfold State.startDecision
  split <;> simp

/-! ### The mode law after each operation (R18) -/

theorem State.enterIdle_modeLaw {s : State} (h : s.matrix.mode ≠ .start) : s.enterIdle.ModeLaw :=
  State.matrixTake_modeLaw (by simpa using h)

theorem State.enterHeldTimeout_modeLaw {s : State} (h : s.matrix.mode ≠ .start) : s.enterHeldTimeout.ModeLaw :=
  State.matrixTake_modeLaw (by simpa using h)

/-- Judging the road shift moves neither the mode nor what it is worked from. -/
theorem State.judgeRoadShift_modes (s : State) :
    s.judgeRoadShift.matrix.mode = s.matrix.mode ∧ s.judgeRoadShift.matrix.throttleMode = s.matrix.throttleMode ∧
    s.judgeRoadShift.matrix.roll = s.matrix.roll := by
  unfold State.judgeRoadShift
  repeat' split
  all_goals simp

theorem State.judgeRoadShift_modeLaw {s : State} (h : s.ModeLaw) : s.judgeRoadShift.ModeLaw := by
  obtain ⟨shift, timer, e⟩ := s.judgeRoadShift_seq
  rw [State.ModeLaw, s.judgeRoadShift_modes.1, e]
  exact h

theorem State.enterReleasingClutch_modeLaw {s : State} (h : s.matrix.mode ≠ .start) :
    s.enterReleasingClutch.ModeLaw := by
  have ended (t : State) (ht : t.ModeLaw) : (if t.lineClear .d4 then t.enterIdle else t).ModeLaw := by
    split
    · exact State.enterIdle_modeLaw ht.ne_start
    · exact ht
  exact ended _ (State.matrixTake_modeLaw (by simpa using h))

theorem State.enterReleasingSplit_modeLaw {s : State} (h : s.matrix.mode ≠ .start) :
    s.enterReleasingSplit.ModeLaw := by
  have ended (t : State) (ht : t.ModeLaw) : (if t.lineClear .d3 then t.enterIdle else t.judgeRoadShift).ModeLaw := by
    split
    · exact State.enterIdle_modeLaw ht.ne_start
    · exact State.judgeRoadShift_modeLaw ht
  exact ended _ (State.matrixTake_modeLaw (by simpa using h))

theorem State.enterReleasing_modeLaw {s : State} (h : s.matrix.mode ≠ .start) : s.enterReleasing.ModeLaw := by
  unfold State.enterReleasing
  split
  · exact State.enterReleasingClutch_modeLaw h
  · exact State.enterReleasingSplit_modeLaw h
  · exact State.enterReleasingSplit_modeLaw h

theorem State.judgeIdlingDown_modeLaw {s : State} (h : s.ModeLaw) : s.judgeIdlingDown.ModeLaw := by
  unfold State.judgeIdlingDown
  split
  · exact State.enterReleasing_modeLaw h.ne_start
  · exact h

theorem State.enterIdlingDown_modeLaw {s : State} (r : SeqReason) (h : s.matrix.mode ≠ .start) :
    (s.enterIdlingDown r).ModeLaw :=
  State.judgeIdlingDown_modeLaw (State.matrixTake_modeLaw (by simpa using h))

theorem State.faultToIdlingDown_modeLaw {s : State} (f : SeqFault) (r : SeqReason) (h : s.matrix.mode ≠ .start) :
    (s.faultToIdlingDown f r).ModeLaw :=
  State.enterIdlingDown_modeLaw r (by simpa using h)

theorem State.enterShifting_modeLaw {s : State} (h : s.matrix.mode ≠ .start) : s.enterShifting.ModeLaw :=
  State.matrixTake_modeLaw (by simpa using h)

theorem State.enterClutching_modeLaw {s : State} (h : s.matrix.mode ≠ .start) : s.enterClutching.ModeLaw :=
  State.matrixTake_modeLaw (by simpa using h)

theorem State.enterAwaitConfirm_modeLaw {s : State} (h : s.matrix.mode ≠ .start) : s.enterAwaitConfirm.ModeLaw :=
  State.matrixTake_modeLaw (by simpa using h)

theorem State.enterAwaitRange_modeLaw {s : State} (h : s.matrix.mode ≠ .start) : s.enterAwaitRange.ModeLaw := by
  have passed (t : State) (ht : t.ModeLaw) : (if t.lineSet .d2 then t.enterAwaitConfirm else t).ModeLaw := by
    split
    · exact State.enterAwaitConfirm_modeLaw ht.ne_start
    · exact ht
  exact passed _ (State.matrixTake_modeLaw (by simpa using h))

theorem State.enterEngaged_modeLaw {s : State} (h : s.matrix.mode ≠ .start) : s.enterEngaged.ModeLaw :=
  State.matrixTake_modeLaw (by simpa using h)

theorem State.enterHeldFeedback_modeLaw {s : State} (h : s.matrix.mode ≠ .start) : s.enterHeldFeedback.ModeLaw :=
  State.matrixTake_modeLaw (by simpa using h)

/-- What a changed line can do to the sequencer, by the state it finds (R49 to R63). -/
theorem State.seqLineChange_cases (s : State) (l : Line) :
    s.seqLineChange l = s ∨
    (s.seq.state = .shifting ∧ s.seqLineChange l = s.enterAwaitRange) ∨
    ((s.seq.state = .awaitRange ∨ s.seq.state = .clutching) ∧ s.seqLineChange l = s.enterAwaitConfirm) ∨
    ((s.seq.state = .awaitRange ∨ s.seq.state = .awaitConfirm) ∧
      s.seqLineChange l = s.faultToIdlingDown .feedbackDropped .feedback) ∨
    (s.seq.state = .engaged ∧ s.seqLineChange l = s.enterHeldFeedback) ∨
    (s.seq.state = .releasing ∧ (s.seqLineChange l = s.enterIdle ∨ s.seqLineChange l = s.judgeRoadShift)) := by
  cases hst : s.seq.state <;> simp only [State.seqLineChange, hst]
  case idle | held | idlingDown => exact .inl trivial
  case shifting | clutching | awaitConfirm | engaged => split <;> simp
  case awaitRange =>
    split
    · simp
    · split <;> simp
  case releasing =>
    split
    · split <;> simp
    · split
      · simp
      · split <;> simp
    · split
      · simp
      · split <;> simp

theorem State.seqLineChange_modeLaw {s : State} (l : Line) (h : s.ModeLaw) : (s.seqLineChange l).ModeLaw := by
  have hm := h.ne_start
  rcases s.seqLineChange_cases l with e | ⟨-, e⟩ | ⟨-, e⟩ | ⟨-, e⟩ | ⟨-, e⟩ | ⟨-, e | e⟩ <;> rw [e]
  · exact h
  · exact State.enterAwaitRange_modeLaw hm
  · exact State.enterAwaitConfirm_modeLaw hm
  · exact State.faultToIdlingDown_modeLaw _ _ hm
  · exact State.enterHeldFeedback_modeLaw hm
  · exact State.enterIdle_modeLaw hm
  · exact State.judgeRoadShift_modeLaw h

end Sys2Proof.Machine

/-! # The path law after each operation of the sequencer (R42, R46, R47, R61) -/

namespace Sys2Proof.Machine

/-- The path law speaks of the sequencer's record alone. -/
theorem State.PathLaw.of_seq {s t : State} (h : s.PathLaw) (e : t.seq = s.seq) : t.PathLaw := by
  unfold State.PathLaw at h ⊢
  rwa [e]

/-- The record of IDLE keeps the law. -/
theorem State.PathLaw.of_start {s : State} (e : s.seq = startSequencer) : s.PathLaw := by
  simp [State.PathLaw, e, startSequencer]

/-- So does a record that moves on to a state other than IDLE, SHIFTING and AWAIT_RANGE, which fix the path, and
RELEASING, with its path and O_CLUTCH as they were. -/
theorem State.PathLaw.of_move {s t : State} (h : s.PathLaw) (hidle : s.seq.state ≠ .idle)
    (hpath : t.seq.path = s.seq.path) (hclutch : t.seq.oClutch = true → s.seq.path = .clutch)
    (hstate : t.seq.state ≠ .idle) (hshift : t.seq.state = .shifting ∨ t.seq.state = .awaitRange → s.seq.path = .split)
    (hclutching : t.seq.state = .clutching → s.seq.path = .clutch)
    (hreleasing : t.seq.oClutch = true → t.seq.state ≠ .releasing) : t.PathLaw := by
  obtain ⟨hnone, -, -, -⟩ := h
  refine ⟨?_, ?_, ?_, fun hc => ⟨?_, hreleasing hc⟩⟩ <;> rw [hpath]
  · simp [hnone, hidle, hstate]
  · exact hshift
  · exact hclutching
  · exact hclutch hc

theorem State.PathLaw.clutch_path {s : State} (h : s.PathLaw) (hc : s.seq.oClutch = true) : s.seq.path = .clutch :=
  (h.2.2.2 hc).1

/-- Outside the clutch path O_CLUTCH is off. -/
theorem State.PathLaw.clutch_off {s : State} (h : s.PathLaw) (hp : s.seq.path ≠ .clutch) : s.seq.oClutch = false := by
  by_contra hc
  exact hp (h.clutch_path (by simpa using hc))

theorem State.PathLaw.path_of_idle {s : State} (h : s.PathLaw) (hs : s.seq.state = .idle) : s.seq.path = .none :=
  h.1.2 hs

theorem State.enterIdle_path (s : State) : s.enterIdle.PathLaw := .of_start s.enterIdle_seq

theorem State.judgeRoadShift_path {s : State} (h : s.PathLaw) : s.judgeRoadShift.PathLaw := by
  obtain ⟨shift, timer, e⟩ := s.judgeRoadShift_seq
  unfold State.PathLaw at h ⊢
  rwa [e]

theorem State.enterHeldTimeout_path {s : State} (h : s.PathLaw) (hn : s.seq.state ≠ .idle) :
    s.enterHeldTimeout.PathLaw := by
  refine h.of_move hn ?_ (fun hc => h.clutch_path ?_) ?_ ?_ ?_ ?_ <;> simp_all

theorem State.enterReleasing_path {s : State} (h : s.PathLaw) (hn : s.seq.state ≠ .idle) : s.enterReleasing.PathLaw := by
  have split (hp : s.seq.path ≠ .clutch) : s.enterReleasingSplit.PathLaw := by
    rcases s.enterReleasingSplit_seq with ⟨-, e⟩ | ⟨-, shift, timer, e⟩
    · exact .of_start e
    · have off := h.clutch_off hp
      refine h.of_move hn ?_ ?_ ?_ ?_ ?_ ?_ <;> simp [e, off]
  unfold State.enterReleasing
  split
  · have e := s.enterReleasingClutch_seq
    split at e
    · exact .of_start e
    · refine h.of_move hn ?_ ?_ ?_ ?_ ?_ ?_ <;> simp [e]
  · exact split (by simp_all)
  · exact split (by simp_all)

theorem State.judgeIdlingDown_path {s : State} (h : s.PathLaw) : s.judgeIdlingDown.PathLaw := by
  unfold State.judgeIdlingDown
  split
  · next hd => exact State.enterReleasing_path h (by simp [hd.1])
  · exact h

theorem State.enterIdlingDown_path {s : State} (r : SeqReason) (h : s.PathLaw) (hn : s.seq.state ≠ .idle) :
    (s.enterIdlingDown r).PathLaw := by
  refine State.judgeIdlingDown_path (h.of_move hn ?_ (fun hc => h.clutch_path ?_) ?_ ?_ ?_ ?_) <;> simp_all

theorem State.faultToIdlingDown_path {s : State} (f : SeqFault) (r : SeqReason) (h : s.PathLaw)
    (hn : s.seq.state ≠ .idle) : (s.faultToIdlingDown f r).PathLaw :=
  State.enterIdlingDown_path r (h.of_seq (by simp)) (by simpa using hn)

/-- O_CLUTCH is off as the split path begins: it is on the clutch path alone. -/
theorem State.enterShifting_path {s : State} (h : s.PathLaw) (hs : s.seq.state = .idle) : s.enterShifting.PathLaw := by
  have off := h.clutch_off (by simp [h.path_of_idle hs])
  simp [State.PathLaw, off]

theorem State.enterClutching_path (s : State) : s.enterClutching.PathLaw := by simp [State.PathLaw]

theorem State.enterAwaitConfirm_path {s : State} (h : s.PathLaw) (hn : s.seq.state ≠ .idle) :
    s.enterAwaitConfirm.PathLaw := by
  refine h.of_move hn ?_ (fun hc => h.clutch_path ?_) ?_ ?_ ?_ ?_ <;> simp_all

theorem State.enterAwaitRange_path {s : State} (h : s.PathLaw) (hs : s.seq.state = .shifting) :
    s.enterAwaitRange.PathLaw := by
  have split : s.seq.path = .split := h.2.1 (.inl hs)
  have passed (t : State) (ht : t.PathLaw) (hn : t.seq.state ≠ .idle) :
      (if t.lineSet .d2 then t.enterAwaitConfirm else t).PathLaw := by
    split
    · exact State.enterAwaitConfirm_path ht hn
    · exact ht
  refine passed _ (h.of_move (by simp [hs]) ?_ (fun hc => h.clutch_path ?_) ?_ ?_ ?_ ?_) ?_ <;> simp_all

theorem State.enterEngaged_path {s : State} (h : s.PathLaw) (hn : s.seq.state ≠ .idle) : s.enterEngaged.PathLaw := by
  refine h.of_move hn ?_ (fun hc => ?_) ?_ ?_ ?_ ?_
  case refine_2 =>
    have hc : s.seq.oClutch = true ∨ s.seq.path = .clutch := by simpa using hc
    exact hc.elim h.clutch_path id
  all_goals simp

theorem State.enterHeldFeedback_path {s : State} (h : s.PathLaw) (hn : s.seq.state ≠ .idle) :
    s.enterHeldFeedback.PathLaw := by
  refine h.of_move hn ?_ (fun hc => h.clutch_path ?_) ?_ ?_ ?_ ?_ <;> simp_all

theorem State.seqLineChange_path {s : State} (l : Line) (h : s.PathLaw) : (s.seqLineChange l).PathLaw := by
  rcases s.seqLineChange_cases l with e | ⟨hs, e⟩ | ⟨hs, e⟩ | ⟨hs, e⟩ | ⟨hs, e⟩ | ⟨-, e | e⟩ <;> rw [e]
  · exact h
  · exact State.enterAwaitRange_path h hs
  · exact State.enterAwaitConfirm_path h (by rcases hs with hs | hs <;> simp [hs])
  · exact State.faultToIdlingDown_path _ _ h (by rcases hs with hs | hs <;> simp [hs])
  · exact State.enterHeldFeedback_path h (by simp [hs])
  · exact s.enterIdle_path
  · exact State.judgeRoadShift_path h

/-- The start-up decision is made in IDLE, where O_CLUTCH is off (R65). -/
theorem State.startDecision_path {s : State} (h : s.PathLaw) (hs : s.seq.state = .idle) : s.startDecision.PathLaw := by
  have off := h.clutch_off (by simp [h.path_of_idle hs])
  by_cases hd : s.lineSet .d3 = true
  · simp [State.PathLaw, hd, off]
  · exact h.of_seq (by simp [hd])

end Sys2Proof.Machine

/-! # The phase law and the path law, kept by every step (R16, R18, R19, R42, R46, R47, R61, R65) -/

namespace Sys2Proof.Machine

/-! ### Requests that leave the mode alone -/

@[simp] theorem State.judgeRoll_mode (s : State) : s.judgeRoll.matrix.mode = s.matrix.mode := rfl

@[simp] theorem State.ceilingChanged_mode (s : State) : s.ceilingChanged.matrix.mode = s.matrix.mode := by
  simp [State.ceilingChanged]

@[simp] theorem State.ownerActs_mode (s : State) (p : Param) : (s.ownerActs p).matrix.mode = s.matrix.mode := by
  cases p <;> simp [State.ownerActs]

@[simp] theorem State.ownerActs_lines (s : State) (p : Param) :
    (s.ownerActs p).image.complete = s.image.complete ∧ (s.ownerActs p).image.lines = s.image.lines := by
  cases p <;> simp [State.ownerActs, State.dropRemainder]

@[simp] theorem State.paramSet_mode (s : State) (p : Param) (x : Int) :
    (s.paramSet p x).1.matrix.mode = s.matrix.mode := by
  simp only [State.paramSet, State.writeParam]
  repeat' split
  all_goals simp

@[simp] theorem State.paramSet_lines (s : State) (p : Param) (x : Int) :
    (s.paramSet p x).1.image.complete = s.image.complete ∧ (s.paramSet p x).1.image.lines = s.image.lines := by
  simp only [State.paramSet, State.writeParam]
  repeat' split
  all_goals simp

@[simp] theorem State.lockoutSet_mode (s : State) (i : EntryIx) (e : Option LockoutEntry) : (s.lockoutSet i e).1.matrix.mode = s.matrix.mode := by
  simp only [State.lockoutSet]
  repeat' split
  all_goals simp

@[simp] theorem State.latchClearOne_mode (s : State) (i : EntryIx) : (s.latchClearOne i).1.matrix.mode = s.matrix.mode := by
  simp only [State.latchClearOne]
  repeat' split
  all_goals simp

@[simp] theorem State.latchClearAll_mode (s : State) : s.latchClearAll.1.matrix.mode = s.matrix.mode := by
  have cleared := foldl_keeps (fun t : State => t.matrix.mode = s.matrix.mode) State.clearLatch s.latchedEntries s rfl
    fun t i h => by simpa using h
  have judged := foldl_keeps (fun t : State => t.matrix.mode = s.matrix.mode) State.judgeLock s.latchedEntries _ cleared
    fun t i h => by simpa using h
  simpa [State.latchClearAll] using judged

@[simp] theorem State.governRequest_mode (s : State) (m : GovMode) (x : Int) : (s.governRequest m x).1.matrix.mode = s.matrix.mode := by
  simp only [State.governRequest]
  repeat' split
  all_goals simp

@[simp] theorem State.tankSet_mode (s : State) (t : TankIx) (c : TankSettings) : (s.tankSet t c).1.matrix.mode = s.matrix.mode := by
  simp only [State.tankSet]
  repeat' split
  all_goals simp

@[simp] theorem State.tankTable_mode (s : State) (t : TankIx) (bs : List Breakpoint) : (s.tankTable t bs).1.matrix.mode = s.matrix.mode := by
  simp only [State.tankTable]
  repeat' split
  all_goals simp

@[simp] theorem State.sourceEngaged_mode (s : State) (w : WaterSource) : (s.sourceEngaged w).1.matrix.mode = s.matrix.mode := by
  simp only [State.sourceEngaged]
  repeat' split
  all_goals simp

@[simp] theorem State.sourceRequest_mode (s : State) (w : WaterSource) : (s.sourceRequest w).1.matrix.mode = s.matrix.mode := by
  simp only [State.sourceRequest]
  repeat' split
  all_goals simp

@[simp] theorem answerLockoutSet_mode (s : State) (p : List Byte) :
    (answerLockoutSet p s).1.matrix.mode = s.matrix.mode := by
  unfold answerLockoutSet
  repeat' split
  all_goals simp

@[simp] theorem answerLatchClear_mode (s : State) (p : List Byte) :
    (answerLatchClear p s).1.matrix.mode = s.matrix.mode := by
  unfold answerLatchClear
  repeat' split
  all_goals simp

@[simp] theorem answerSilence_mode (s : State) (p : List Byte) :
    (answerSilence p s).1.matrix.mode = s.matrix.mode := by
  unfold answerSilence
  repeat' split
  all_goals simp

@[simp] theorem answerGovern_mode (s : State) (p : List Byte) :
    (answerGovern p s).1.matrix.mode = s.matrix.mode := by
  unfold answerGovern
  repeat' split
  all_goals simp

@[simp] theorem answerResume_mode (s : State) (p : List Byte) :
    (answerResume p s).1.matrix.mode = s.matrix.mode := by
  unfold answerResume
  repeat' split
  all_goals simp

@[simp] theorem answerTankSet_mode (s : State) (p : List Byte) :
    (answerTankSet p s).1.matrix.mode = s.matrix.mode := by
  unfold answerTankSet
  repeat' split
  all_goals simp

@[simp] theorem answerTankTable_mode (s : State) (p : List Byte) :
    (answerTankTable p s).1.matrix.mode = s.matrix.mode := by
  unfold answerTankTable
  repeat' split
  all_goals simp

@[simp] theorem answerSource_mode (s : State) (p : List Byte) :
    (answerSource p s).1.matrix.mode = s.matrix.mode := by
  unfold answerSource
  repeat' split
  all_goals simp

@[simp] theorem answerParamSet_mode (s : State) (p : List Byte) :
    (answerParamSet p s).1.matrix.mode = s.matrix.mode := by
  unfold answerParamSet
  repeat' split
  all_goals simp

@[simp] theorem answerParamSet_lines (s : State) (p : List Byte) :
    (answerParamSet p s).1.image.complete = s.image.complete ∧ (answerParamSet p s).1.image.lines = s.image.lines := by
  unfold answerParamSet
  repeat' split
  all_goals simp

/-! ### Events that leave completeness and the lines alone -/

@[simp] theorem State.pressureSample_image (s : State) (c0 c1 : Code) : (s.pressureSample c0 c1).image =
    { s.image with a0 := s.image.a0.sample scaleDischarge c0, a1 := s.image.a1.sample scaleIntake c1 } := by
  simp only [State.pressureSample]
  split <;> simp

@[simp] theorem State.temperatureSample_image (s : State) (c2 : Code) : (s.temperatureSample c2).image =
    { s.image with a2 := s.image.a2.sample scaleTemperature c2 } := by
  simp only [State.temperatureSample]
  split <;> simp

@[simp] theorem State.levelSample_image (s : State) (ch : LevelIx) (c : Code) : (s.levelSample ch c).image =
    { s.image with levels := s.image.levels.set ch ((s.image.levels.get ch).sample c) } := by
  simp [State.levelSample]

end Sys2Proof.Machine

namespace Sys2Proof.Machine

/-! ### Commands that move neither the phase nor the path -/

/-- Completeness, the lines' states, the mode and the sequencer's record stay. -/
def State.SamePhase (s t : State) : Prop :=
  t.image.complete = s.image.complete ∧ (∀ l, (t.image.lines.get l).state = (s.image.lines.get l).state) ∧
  t.matrix.mode = s.matrix.mode ∧ t.seq = s.seq

theorem State.SamePhase.phaseLaw {s t : State} (e : s.SamePhase t) (h : s.PhaseLaw) : t.PhaseLaw := by
  obtain ⟨complete, lines, mode, seq⟩ := e
  unfold State.PhaseLaw at h ⊢
  simpa only [complete, lines, mode, seq] using h

theorem State.SamePhase.pathLaw {s t : State} (e : s.SamePhase t) (h : s.PathLaw) : t.PathLaw := h.of_seq e.2.2.2

/-- Such a command may write the image, but for the lines' states and completeness. -/
theorem State.SamePhase.of_image {s t : State} (complete : t.image.complete = s.image.complete)
    (lines : t.image.lines = s.image.lines) (mode : t.matrix.mode = s.matrix.mode) (seq : t.seq = s.seq) :
    s.SamePhase t := ⟨complete, fun l => by rw [lines], mode, seq⟩

theorem clearLatches_samePhase (s : State) : s.SamePhase s.clearLatches :=
  ⟨rfl, fun l => by simp [State.clearLatches], rfl, rfl⟩

theorem answerInputs_samePhase (s : State) (p : List Byte) : s.SamePhase (answerInputs p s).1 := by
  have same : s.SamePhase s := .of_image rfl rfl rfl rfl
  unfold answerInputs
  split
  · split
    · dsimp only
      split
      · exact same
      · exact clearLatches_samePhase s
    · split <;> exact same
  · exact same

/-- Of the requests only ENGAGE, CONFIRM and DISENGAGE move the sequencer (R45, R54, R57). -/
theorem answerKind_cases (kind : Byte) (p : List Byte) :
    answerKind kind p = answerEngage p ∨ answerKind kind p = answerConfirm p ∨
    answerKind kind p = answerDisengage p ∨ ∀ s : State, s.SamePhase (answerKind kind p s).1 := by
  generalize h : answerKind kind p = answer
  unfold answerKind at h
  split at h <;> subst h
  case h_9 => exact .inl rfl
  case h_10 => exact .inr (.inl rfl)
  case h_11 => exact .inr (.inr (.inl rfl))
  case h_4 => exact .inr (.inr (.inr fun s => answerInputs_samePhase s p))
  all_goals exact .inr (.inr (.inr fun s => .of_image (by simp [answerUnknown]) (by simp [answerUnknown])
    (by simp [answerUnknown]) (by simp [answerUnknown])))

/-- Of the events of the apparatus only these move the sequencer, the lines or completeness. -/
theorem eventOf_cases {c : Instr} {f : State → State} (h : eventOf c = some f) :
    (∀ s : State, s.SamePhase (f s)) ∨ f = State.engineGateEnd ∨ f = State.roadGateEnd ∨ (∃ m, f = (·.flowGateEnd m)) ∨
    (∃ raw, f = (·.lineSample raw)) ∨ (∃ st w e, st ≠ .idle ∧ f = (·.windowExpiry st w e)) ∨
    f = State.idleDownExpiry ∨ f = State.neutralExpiry ∨ f = State.releaseExpiry := by
  cases c <;> cases h
  case engineSpeedGateEnd => simp
  case roadSpeedGateEnd => simp
  case flowGateEnd m => exact .inr (.inr (.inr (.inl ⟨m, rfl⟩)))
  case lineSample raw => exact .inr (.inr (.inr (.inr (.inl ⟨raw, rfl⟩))))
  case shiftWindowExpiry | rangeWindowExpiry | clutchWindowExpiry | confirmWindowExpiry =>
    exact .inr (.inr (.inr (.inr (.inr (.inl ⟨_, _, _, by decide, rfl⟩)))))
  case idleDownWindowExpiry => simp
  case neutralWaitExpiry => simp
  case releaseWindowExpiry => simp
  case pulseArrival p => exact .inl fun s => .of_image rfl rfl rfl rfl
  all_goals exact .inl fun s => .of_image (by simp) (by simp) (by simp) (by simp)

/-! ### The phase law, event by event -/

theorem State.PhaseLaw.modeLaw {s : State} (h : s.PhaseLaw) (hc : s.image.complete = true) : s.ModeLaw := (h.2 hc).1

/-- A sequencer at work has a complete image (R65). -/
theorem State.PhaseLaw.complete_of_state {s : State} (h : s.PhaseLaw) (hs : s.seq.state ≠ .idle) :
    s.image.complete = true := by
  by_contra hc
  exact hs (h.1 (by simpa using hc)).2

/-- A mode other than START comes with a complete image (R19). -/
theorem State.PhaseLaw.complete_of_mode {s : State} (h : s.PhaseLaw) (hm : s.matrix.mode ≠ .start) :
    s.image.complete = true := by
  by_contra hc
  exact hm (h.1 (by simpa using hc)).1

/-- With the image as it was and complete, the mode law is the phase law. -/
theorem State.PhaseLaw.of_modeLaw {s t : State} (h : s.PhaseLaw) (hc : s.image.complete = true)
    (image : t.image = s.image) (ht : t.ModeLaw) : t.PhaseLaw := by
  refine ⟨fun hn => ?_, fun _ => ⟨ht, ?_⟩⟩
  · rw [image, hc] at hn
    cases hn
  · rw [image]
    exact (h.2 hc).2

theorem seqLineChange_phase {s : State} (l : Line) (h : s.PhaseLaw) : (s.seqLineChange l).PhaseLaw := by
  by_cases hc : s.image.complete = true
  · exact h.of_modeLaw hc (by simp) (State.seqLineChange_modeLaw l (h.modeLaw hc))
  · have idle := (h.1 (by simpa using hc)).2
    simpa [State.seqLineChange, idle] using h

theorem seqEngineGate_phase {s : State} (h : s.PhaseLaw) : s.seqEngineGate.PhaseLaw := by
  unfold State.seqEngineGate
  split
  · next hs =>
    have hc := h.complete_of_state (by simp [hs])
    exact h.of_modeLaw hc (by simp) (State.judgeIdlingDown_modeLaw (h.modeLaw hc))
  · next hs =>
    have hc := h.complete_of_state (by simp [hs])
    exact h.of_modeLaw hc (by simp) (State.judgeRoadShift_modeLaw (h.modeLaw hc))
  all_goals exact h

theorem faultToIdlingDown_phase {s : State} (f : SeqFault) (r : SeqReason) (h : s.PhaseLaw) (hs : s.seq.state ≠ .idle) :
    (s.faultToIdlingDown f r).PhaseLaw :=
  have hc := h.complete_of_state hs
  h.of_modeLaw hc (by simp) (State.faultToIdlingDown_modeLaw f r (h.modeLaw hc).ne_start)

theorem seqRoadGate_phase {s : State} (made : Bool) (h : s.PhaseLaw) : (s.seqRoadGate made).PhaseLaw := by
  unfold State.seqRoadGate
  split
  · next hs =>
    split
    · exact faultToIdlingDown_phase _ _ h (by simp [hs])
    · exact h
  · next hs =>
    split
    · exact faultToIdlingDown_phase _ _ h (by simp [hs])
    · exact h
  · next hs =>
    have hc := h.complete_of_state (by simp [hs])
    exact h.of_modeLaw hc (by simp) (State.judgeRoadShift_modeLaw (h.modeLaw hc))
  all_goals exact h

@[simp] theorem leaveStart_modeLaw (s : State) : s.leaveStart.ModeLaw := by
  simp [State.leaveStart, State.ModeLaw]

/-- The state with the image marked complete and the channels still in FAULT reported (R16). -/
def State.completed (s : State) : State :=
  State.submitAll { s with image := { s.image with complete := true } }
    { s.image with complete := true }.faultReports

@[simp] theorem State.completed_frame (s : State) :
    s.completed.image = { s.image with complete := true } ∧ s.completed.clock = s.clock ∧
    s.completed.config = s.config ∧ s.completed.matrix = s.matrix ∧ s.completed.seq = s.seq ∧
    s.completed.gov = s.gov ∧ s.completed.tanks = s.tanks ∧ s.completed.supply = s.supply := by
  simp [State.completed]

theorem judgeComplete_eq (s : State) : s.judgeComplete =
    if s.image.complete || !s.image.allMeasured then s else s.completed.startDecision.leaveStart := rfl

/-- An image that is complete, or not measured whole, is left as it is (R16). -/
theorem judgeComplete_of_not {s : State} (h : s.image.complete = true ∨ s.image.allMeasured = false) :
    s.judgeComplete = s := by
  rw [judgeComplete_eq, if_pos (by simpa using h)]

/-- The event that measures the last input completes the image and ends START (R16, R19, R65). -/
theorem judgeComplete_of_measured {s : State} (hc : s.image.complete = false) (hm : s.image.allMeasured = true) :
    s.judgeComplete = s.completed.startDecision.leaveStart := by
  rw [judgeComplete_eq, if_neg (by simp [hc, hm])]

/-- Either nothing is left to do, or the image is found complete at this event (R16). -/
theorem judgeComplete_cases (s : State) :
    ((s.image.complete = true ∨ s.image.allMeasured = false) ∧ s.judgeComplete = s) ∨
    (s.image.complete = false ∧ s.image.allMeasured = true ∧
      s.judgeComplete = s.completed.startDecision.leaveStart) := by
  by_cases h : s.image.complete = false ∧ s.image.allMeasured = true
  · exact .inr ⟨h.1, h.2, judgeComplete_of_measured h.1 h.2⟩
  · have h : s.image.complete = true ∨ s.image.allMeasured = false := by
      rcases hc : s.image.complete <;> rcases hm : s.image.allMeasured <;> simp_all
    exact .inl ⟨h, judgeComplete_of_not h⟩

/-- In an image measured whole every line has settled (R16). -/
theorem InputImage.settled_of_measured {im : InputImage} (h : im.allMeasured = true) (l : Line) :
    (im.lines.get l).state ≠ .unsettled := by
  simp only [InputImage.allMeasured, Bool.and_eq_true, List.all_eq_true] at h
  simpa using h.1 l l.mem_all

/-- The image found complete has every line settled, and START ends in the mode of the decision (R16, R19, R65). -/
theorem judgeComplete_phase {s : State} (h : s.PhaseLaw) : s.judgeComplete.PhaseLaw := by
  rcases judgeComplete_cases s with ⟨-, e⟩ | ⟨-, hm, e⟩ <;> rw [e]
  · exact h
  · exact ⟨by simp, fun _ => ⟨leaveStart_modeLaw _, by simpa using InputImage.settled_of_measured hm⟩⟩

theorem matrixJudge_phase {s : State} (sel : LockCond → Bool) (h : s.PhaseLaw) : (s.matrixJudge sel).PhaseLaw :=
  State.SamePhase.phaseLaw (.of_image (by simp) (by simp) (by simp) (by simp)) h

/-- The state as the end of an F0 gate finds it: the count taken, and N set (R8). -/
def State.engineGated (s : State) : State :=
  { s with image := { s.image.endGate .f0 with n := engineSpeedOf s.image.gateCount.f0 s.config.inputs.ppr } }

/-- The state as the end of an F1 gate finds it: the count taken, and v set (R9). -/
def State.roadGated (s : State) : State :=
  { s with image := { s.image.endGate .f1 with v := roadSpeedOf s.image.gateCount.f1 s.config.inputs.ppk } }

@[simp] theorem State.engineGated_frame (s : State) :
    s.engineGated.image.complete = s.image.complete ∧ s.engineGated.image.lines = s.image.lines ∧
    s.engineGated.clock = s.clock ∧ s.engineGated.config = s.config ∧ s.engineGated.matrix = s.matrix ∧
    s.engineGated.seq = s.seq ∧ s.engineGated.recoveredAtStart = s.recoveredAtStart ∧
    s.engineGated.gov = s.gov ∧ s.engineGated.tanks = s.tanks ∧ s.engineGated.supply = s.supply :=
  ⟨rfl, rfl, rfl, rfl, rfl, rfl, rfl, rfl, rfl, rfl⟩

@[simp] theorem State.roadGated_frame (s : State) :
    s.roadGated.image.complete = s.image.complete ∧ s.roadGated.image.lines = s.image.lines ∧
    s.roadGated.clock = s.clock ∧ s.roadGated.config = s.config ∧ s.roadGated.matrix = s.matrix ∧
    s.roadGated.seq = s.seq ∧ s.roadGated.recoveredAtStart = s.recoveredAtStart ∧
    s.roadGated.gov = s.gov ∧ s.roadGated.tanks = s.tanks ∧ s.roadGated.supply = s.supply :=
  ⟨rfl, rfl, rfl, rfl, rfl, rfl, rfl, rfl, rfl, rfl⟩

theorem engineGateEnd_eq (s : State) :
    s.engineGateEnd = (s.engineGated.seqEngineGate.matrixJudge onEngine).judgeComplete := rfl

theorem roadGateEnd_eq (s : State) :
    s.roadGateEnd = (((s.roadGated.judgeRoll.judgeOverspeed.seqRoadGate (s.roadGated.moving && !s.moving)).matrixJudge
      onRoadSpeed).tanksAtRoadGate s.moving).judgeComplete := rfl

theorem engineGated_phase {s : State} (h : s.PhaseLaw) : s.engineGated.PhaseLaw :=
  State.SamePhase.phaseLaw (.of_image rfl rfl rfl rfl) h

/-- The speed set and the roll limits judged move no part of the phase. -/
theorem roadGated_samePhase (s : State) : s.SamePhase s.roadGated.judgeRoll.judgeOverspeed :=
  .of_image (by simp) (by simp) (by simp) (by simp)

theorem tanksAtRoadGate_phase {s : State} (was : Bool) (h : s.PhaseLaw) : (s.tanksAtRoadGate was).PhaseLaw :=
  State.SamePhase.phaseLaw (.of_image (by simp) (by simp) (by simp) (by simp)) h

theorem engineGateEnd_phase {s : State} (h : s.PhaseLaw) : s.engineGateEnd.PhaseLaw := by
  rw [engineGateEnd_eq]
  exact judgeComplete_phase (matrixJudge_phase _ (seqEngineGate_phase (engineGated_phase h)))

theorem roadGateEnd_phase {s : State} (h : s.PhaseLaw) : s.roadGateEnd.PhaseLaw := by
  rw [roadGateEnd_eq]
  exact judgeComplete_phase (tanksAtRoadGate_phase _ (matrixJudge_phase _
    (seqRoadGate_phase _ ((roadGated_samePhase s).phaseLaw h))))

theorem flowGateEnd_phase {s : State} (m : Meter) (h : s.PhaseLaw) : (s.flowGateEnd m).PhaseLaw :=
  judgeComplete_phase (State.SamePhase.phaseLaw (.of_image rfl rfl rfl rfl) h)

/-- A line that has settled stays settled (R14). -/
theorem sample_settled {f : LineFilter} (n : Nat) (raw : Bool) (h : f.state ≠ .unsettled) :
    (f.sample n raw).state ≠ .unsettled := by
  unfold LineFilter.sample
  cases raw <;> split <;> split_ifs <;> simp_all [levelState]

theorem linesChanged_phase {s : State} (ls : List Line) (h : s.PhaseLaw) : (s.linesChanged ls).PhaseLaw := by
  unfold State.linesChanged
  split
  · exact h
  · exact matrixJudge_phase _ (foldl_keeps State.PhaseLaw _ _ _ h fun _ l ht => seqLineChange_phase l ht)

/-- The state as a line sample finds it: every line filtered, and the changes reported (R12, R13). -/
def State.linesSampled (s : State) (raw : BitVec 12) (changed : List Line) : State :=
  State.submitAll { s with image := { s.image with lines := s.sampleLines raw } }
    (State.lineReports { s with image := { s.image with lines := s.sampleLines raw } } changed)

/-- The lines that a sample changes (R12). -/
def State.changedLines (s : State) (raw : BitVec 12) : List Line :=
  Line.all.filter fun l => lineChanged (s.image.lines.get l) ((s.sampleLines raw).get l)

theorem lineSample_eq (s : State) (raw : BitVec 12) : s.lineSample raw =
    ((s.linesSampled raw (s.changedLines raw)).linesChanged (s.changedLines raw)).judgeComplete := rfl

theorem linesSampled_phase {s : State} (raw : BitVec 12) (changed : List Line) (h : s.PhaseLaw) :
    (s.linesSampled raw changed).PhaseLaw := by
  have sampled : State.PhaseLaw { s with image := { s.image with lines := s.sampleLines raw } } :=
    ⟨h.1, fun hc => ⟨(h.2 hc).1, fun l => by simpa [State.sampleLines] using sample_settled _ _ ((h.2 hc).2 l)⟩⟩
  exact State.SamePhase.phaseLaw (.of_image (by simp [State.linesSampled]) (by simp [State.linesSampled])
    (by simp [State.linesSampled]) (by simp [State.linesSampled])) sampled

theorem lineSample_phase {s : State} (raw : BitVec 12) (h : s.PhaseLaw) : (s.lineSample raw).PhaseLaw := by
  rw [lineSample_eq]
  exact judgeComplete_phase (linesChanged_phase _ (linesSampled_phase raw _ h))

theorem windowExpiry_phase {s : State} {st : SeqState} (w : StepWindow) (f : SeqFault) (hst : st ≠ .idle)
    (h : s.PhaseLaw) : (s.windowExpiry st w f).PhaseLaw := by
  unfold State.windowExpiry
  split
  · next hs => exact faultToIdlingDown_phase _ _ h (by rwa [hs.1])
  · exact h

end Sys2Proof.Machine

namespace Sys2Proof.Machine

/-- A stopped step timer moves the timer alone. -/
theorem stopStepTimer_laws {s t : State} (image : t.image = s.image) (mode : t.matrix.mode = s.matrix.mode)
    (seq : t.seq = { s.seq with stepTimer := none }) (h : s.PhaseLaw) :
    t.PhaseLaw ∧ (s.PathLaw → t.PathLaw) := by
  unfold State.PhaseLaw State.PathLaw at *
  rw [image, mode, seq]
  exact ⟨h, id⟩

theorem idleDownExpiry_laws {s : State} (h : s.PhaseLaw) :
    s.idleDownExpiry.PhaseLaw ∧ (s.PathLaw → s.idleDownExpiry.PathLaw) := by
  unfold State.idleDownExpiry
  split
  · exact stopStepTimer_laws (by simp) (by simp) (by simp [State.stopStepTimer]) h
  · exact ⟨h, id⟩

theorem neutralExpiry_laws {s : State} (h : s.PhaseLaw) :
    s.neutralExpiry.PhaseLaw ∧ (s.PathLaw → s.neutralExpiry.PathLaw) := by
  unfold State.neutralExpiry
  split
  · exact stopStepTimer_laws (by simp) (by simp) (by simp [State.stopStepTimer]) h
  · exact ⟨h, id⟩

theorem releaseExpiry_laws {s : State} (h : s.PhaseLaw) :
    s.releaseExpiry.PhaseLaw ∧ (s.PathLaw → s.releaseExpiry.PathLaw) := by
  unfold State.releaseExpiry
  split
  · next hs =>
    have busy : s.seq.state ≠ .idle := by simp [hs.1]
    have hc := h.complete_of_state busy
    exact ⟨h.of_modeLaw hc (by simp) (State.enterHeldTimeout_modeLaw (h.modeLaw hc).ne_start),
      fun hp => State.enterHeldTimeout_path hp busy⟩
  · exact ⟨h, id⟩

/-! ### The three requests of the sequencer -/

/-- ENGAGE begins only in ROAD, which a complete image brings (R23, R45). -/
theorem engage_laws {s : State} (roll : Bool) (h : s.PhaseLaw) :
    (s.engage roll).1.PhaseLaw ∧ (s.PathLaw → (s.engage roll).1.PathLaw) := by
  unfold State.engage
  split
  · exact ⟨h, id⟩
  · next idle =>
    have idle : s.seq.state = .idle := by simpa using idle
    split
    · next permitted =>
      have road : s.matrix.mode ≠ .start := by
        intro hm
        simp [State.engageFails, State.permitFails, fails, hm] at permitted
      have hc := h.complete_of_mode road
      cases roll
      · exact ⟨h.of_modeLaw hc (by simp) (State.enterShifting_modeLaw road), fun hp => State.enterShifting_path hp idle⟩
      · exact ⟨h.of_modeLaw hc (by simp) (State.enterClutching_modeLaw road), fun _ => s.enterClutching_path⟩
    · exact ⟨h, id⟩

theorem answerEngage_laws {s : State} (p : List Byte) (h : s.PhaseLaw) :
    (answerEngage p s).1.PhaseLaw ∧ (s.PathLaw → (answerEngage p s).1.PathLaw) := by
  unfold answerEngage
  split
  · split
    · exact engage_laws _ h
    · split
      · exact engage_laws _ h
      · exact ⟨h, id⟩
  · exact ⟨h, id⟩

theorem confirmSource_laws {s : State} (h : s.PhaseLaw) (busy : s.seq.state ≠ .idle) :
    s.confirmSource.1.PhaseLaw ∧ (s.PathLaw → s.confirmSource.1.PathLaw) := by
  have hc := h.complete_of_state busy
  unfold State.confirmSource
  split
  · exact ⟨h, id⟩
  · exact ⟨h.of_modeLaw hc (by simp) (State.enterEngaged_modeLaw (h.modeLaw hc).ne_start),
      fun hp => State.enterEngaged_path hp busy⟩

theorem answerConfirm_laws {s : State} (p : List Byte) (h : s.PhaseLaw) :
    (answerConfirm p s).1.PhaseLaw ∧ (s.PathLaw → (answerConfirm p s).1.PathLaw) := by
  unfold answerConfirm
  split
  · split
    · next hs => exact confirmSource_laws h (by simp [hs])
    · next hs =>
      split
      · exact confirmSource_laws h (by simp [hs])
      · exact ⟨h, id⟩
    all_goals exact ⟨h, id⟩
  · exact ⟨h, id⟩

theorem enterIdlingDown_laws {s t : State} (r : SeqReason) (h : s.PhaseLaw) (busy : s.seq.state ≠ .idle)
    (same : s.SamePhase t) : (t.enterIdlingDown r).PhaseLaw ∧ (s.PathLaw → (t.enterIdlingDown r).PathLaw) := by
  have ht := same.phaseLaw h
  have tbusy : t.seq.state ≠ .idle := by rwa [same.2.2.2]
  have hc := ht.complete_of_state tbusy
  exact ⟨ht.of_modeLaw hc (by simp) (State.enterIdlingDown_modeLaw r (ht.modeLaw hc).ne_start),
    fun hp => State.enterIdlingDown_path r (same.pathLaw hp) tbusy⟩

/-- DISENGAGE changes nothing, or takes a sequencer at work into IDLING_DOWN (R57, R58). -/
theorem answerDisengage_cases (s : State) (p : List Byte) :
    (answerDisengage p s).1 = s ∨
    (s.seq.state ≠ .idle ∧ ∃ t, s.SamePhase t ∧ (answerDisengage p s).1 = t.enterIdlingDown .disengage) := by
  have same : s.SamePhase s := .of_image rfl rfl rfl rfl
  cases p with
  | cons b p => exact .inl rfl
  | nil =>
    cases hs : s.seq.state <;> simp only [answerDisengage, hs]
    case idle | idlingDown | releasing => exact .inl rfl
    case held => exact .inr ⟨by decide, _, .of_image (by simp) (by simp) (by simp) (by simp), rfl⟩
    case shifting | awaitRange | clutching | awaitConfirm | engaged => exact .inr ⟨by decide, s, same, rfl⟩

theorem answerDisengage_laws {s : State} (p : List Byte) (h : s.PhaseLaw) :
    (answerDisengage p s).1.PhaseLaw ∧ (s.PathLaw → (answerDisengage p s).1.PathLaw) := by
  rcases answerDisengage_cases s p with e | ⟨busy, t, same, e⟩ <;> rw [e]
  · exact ⟨h, id⟩
  · exact enterIdlingDown_laws _ h busy same

theorem answerKind_laws {s : State} (kind : Byte) (p : List Byte) (h : s.PhaseLaw) :
    (answerKind kind p s).1.PhaseLaw ∧ (s.PathLaw → (answerKind kind p s).1.PathLaw) := by
  rcases answerKind_cases kind p with e | e | e | same
  · rw [e]
    exact answerEngage_laws p h
  · rw [e]
    exact answerConfirm_laws p h
  · rw [e]
    exact answerDisengage_laws p h
  · exact ⟨(same s).phaseLaw h, (same s).pathLaw⟩

/-! ### The path law, event by event -/

theorem judgeComplete_path {s : State} (h : s.PhaseLaw) (hp : s.PathLaw) : s.judgeComplete.PathLaw := by
  rcases judgeComplete_cases s with ⟨-, e⟩ | ⟨hc, -, e⟩ <;> rw [e]
  · exact hp
  · have decided : s.completed.startDecision.PathLaw :=
      State.startDecision_path (hp.of_seq (by simp)) (by simpa using (h.1 hc).2)
    exact decided.of_seq (by simp)

theorem matrixJudge_path {s : State} (sel : LockCond → Bool) (hp : s.PathLaw) : (s.matrixJudge sel).PathLaw :=
  hp.of_seq (by simp)

theorem tanksAtRoadGate_path {s : State} (was : Bool) (hp : s.PathLaw) : (s.tanksAtRoadGate was).PathLaw :=
  hp.of_seq (by simp)

theorem seqEngineGate_path {s : State} (hp : s.PathLaw) : s.seqEngineGate.PathLaw := by
  unfold State.seqEngineGate
  split
  · exact State.judgeIdlingDown_path hp
  · exact State.judgeRoadShift_path hp
  all_goals exact hp

theorem seqRoadGate_path {s : State} (made : Bool) (hp : s.PathLaw) : (s.seqRoadGate made).PathLaw := by
  have fault (hs : s.seq.state ≠ .idle) : (if made then s.faultToIdlingDown .motion .motion else s).PathLaw := by
    split
    · exact State.faultToIdlingDown_path _ _ hp hs
    · exact hp
  unfold State.seqRoadGate
  split
  · next hs => exact fault (by simp [hs])
  · next hs => exact fault (by simp [hs])
  · exact State.judgeRoadShift_path hp
  all_goals exact hp

theorem engineGateEnd_path {s : State} (h : s.PhaseLaw) (hp : s.PathLaw) : s.engineGateEnd.PathLaw := by
  have gated : s.engineGated.PathLaw := hp
  rw [engineGateEnd_eq]
  exact judgeComplete_path (matrixJudge_phase _ (seqEngineGate_phase (engineGated_phase h)))
    (matrixJudge_path _ (seqEngineGate_path gated))

theorem roadGateEnd_path {s : State} (h : s.PhaseLaw) (hp : s.PathLaw) : s.roadGateEnd.PathLaw := by
  rw [roadGateEnd_eq]
  exact judgeComplete_path (tanksAtRoadGate_phase _ (matrixJudge_phase _
    (seqRoadGate_phase _ ((roadGated_samePhase s).phaseLaw h))))
    (tanksAtRoadGate_path _ (matrixJudge_path _ (seqRoadGate_path _ ((roadGated_samePhase s).pathLaw hp))))

theorem flowGateEnd_path {s : State} (m : Meter) (h : s.PhaseLaw) (hp : s.PathLaw) : (s.flowGateEnd m).PathLaw :=
  judgeComplete_path (State.SamePhase.phaseLaw (.of_image rfl rfl rfl rfl) h) (hp.of_seq (s := s) rfl)

theorem linesChanged_path {s : State} (ls : List Line) (hp : s.PathLaw) : (s.linesChanged ls).PathLaw := by
  unfold State.linesChanged
  split
  · exact hp
  · exact matrixJudge_path _ (foldl_keeps State.PathLaw _ _ _ hp fun _ l ht => State.seqLineChange_path l ht)

theorem lineSample_path {s : State} (raw : BitVec 12) (h : s.PhaseLaw) (hp : s.PathLaw) :
    (s.lineSample raw).PathLaw := by
  rw [lineSample_eq]
  exact judgeComplete_path (linesChanged_phase _ (linesSampled_phase raw _ h))
    (linesChanged_path _ (hp.of_seq (by simp [State.linesSampled])))

theorem windowExpiry_path {s : State} {st : SeqState} (w : StepWindow) (f : SeqFault) (hst : st ≠ .idle)
    (hp : s.PathLaw) : (s.windowExpiry st w f).PathLaw := by
  unfold State.windowExpiry
  split
  · next hs => exact State.faultToIdlingDown_path _ _ hp (by rwa [hs.1])
  · exact hp

/-! ### Every event, every command, every step -/

theorem eventOf_laws {c : Instr} {f : State → State} (e : eventOf c = some f) {s : State} (h : s.PhaseLaw) :
    (f s).PhaseLaw ∧ (s.PathLaw → (f s).PathLaw) := by
  rcases eventOf_cases e with same | rfl | rfl | ⟨m, rfl⟩ | ⟨raw, rfl⟩ | ⟨st, w, fault, hst, rfl⟩ | rfl | rfl | rfl
  · exact ⟨(same s).phaseLaw h, (same s).pathLaw⟩
  · exact ⟨engineGateEnd_phase h, engineGateEnd_path h⟩
  · exact ⟨roadGateEnd_phase h, roadGateEnd_path h⟩
  · exact ⟨flowGateEnd_phase m h, flowGateEnd_path m h⟩
  · exact ⟨lineSample_phase raw h, lineSample_path raw h⟩
  · exact ⟨windowExpiry_phase w fault hst h, windowExpiry_path w fault hst⟩
  · exact idleDownExpiry_laws h
  · exact neutralExpiry_laws h
  · exact releaseExpiry_laws h

theorem startUp_phase (s : State) (found : List (Nat × StoreWord)) : (s.startUp found).PhaseLaw :=
  ⟨fun _ => ⟨rfl, rfl⟩, fun hc => by cases hc⟩

theorem startUp_path (s : State) (found : List (Nat × StoreWord)) : (s.startUp found).PathLaw := .of_start rfl

theorem exec_phase {c : Instr} {s t : State} (h : s.PhaseLaw) (e : exec c s = .next t) : t.PhaseLaw :=
  exec_keeps (P := State.PhaseLaw) (fun _ _ _ h => h) (fun s found _ => startUp_phase s found)
    (fun kind p _ h => (answerKind_laws kind p h).1) (fun _ ef _ h => (eventOf_laws ef h).1) h e

theorem exec_path {c : Instr} {s t : State} (h : s.PhaseLaw) (hp : s.PathLaw) (e : exec c s = .next t) : t.PathLaw :=
  (exec_keeps (P := fun s => s.PhaseLaw ∧ s.PathLaw) (fun _ _ _ h => h)
    (fun s found _ => ⟨startUp_phase s found, startUp_path s found⟩)
    (fun kind p _ h => (answerKind_laws kind p h.1).imp id (· h.2))
    (fun _ ef _ h => (eventOf_laws ef h.1).imp id (· h.2)) ⟨h, hp⟩ e).2

/-- Settles O9: the two laws are invariants of every command, by the case analysis of `exec_cases`. -/
theorem phaseAndPathLawsAreKept : Obligations.PhaseAndPathLawsAreKept := by
  refine ⟨fun s t h e => ?_, fun s t h hp e => ?_⟩
  · exact step_keeps (P := State.PhaseLaw) (fun _ _ h => h) (fun _ _ _ h e => exec_phase h e) h e
  · exact (step_keeps (P := fun s => s.PhaseLaw ∧ s.PathLaw) (fun _ _ h => h)
      (fun _ _ _ h e => ⟨exec_phase h.1 e, exec_path h.1 h.2 e⟩) ⟨h, hp⟩ e).2

end Sys2Proof.Machine

/-! # The tank-outflow accumulator and the roll-speed state, through the sequencer and the matrix -/

namespace Sys2Proof.Machine

@[simp] theorem State.abandonFill_outflow (s : State) (st : ReportState) :
    (s.abandonFill st).supply.outflow = s.supply.outflow := by
  unfold State.abandonFill
  split <;> simp

@[simp] theorem State.recomputePermits_outflow (s : State) :
    s.recomputePermits.supply.outflow = s.supply.outflow := by
  simp only [State.recomputePermits, Permit.all, List.foldl]
  split <;> simp

@[simp] theorem State.matrixJudge_outflow (s : State) (sel : LockCond → Bool) :
    (s.matrixJudge sel).supply.outflow = s.supply.outflow := by simp [State.matrixJudge]

@[simp] theorem State.matrixRecompute_outflow (s : State) : s.matrixRecompute.supply.outflow = s.supply.outflow := by
  simp [State.matrixRecompute]

@[simp] theorem State.handMode_outflow (s : State) : s.handMode.supply.outflow = s.supply.outflow := by
  simp only [State.handMode, State.judgeValve, State.dropChangeover]
  split <;> split <;> simp

@[simp] theorem State.enterMode_outflow (s : State) (m : AppMode) :
    (s.enterMode m).supply.outflow = s.supply.outflow := by
  unfold State.enterMode
  split <;> simp

@[simp] theorem State.enterMode_roll (s : State) (m : AppMode) : (s.enterMode m).matrix.roll = s.matrix.roll := by
  unfold State.enterMode
  split <;> simp

/-- Every operation of the sequencer ends with the matrix taking the state it leaves, and so keeps both. -/
def State.SameRollOutflow (s t : State) : Prop :=
  t.matrix.roll = s.matrix.roll ∧ t.supply.outflow = s.supply.outflow

theorem State.SameRollOutflow.trans {s t u : State} (h : s.SameRollOutflow t) (h' : t.SameRollOutflow u) :
    s.SameRollOutflow u := ⟨h'.1.trans h.1, h'.2.trans h.2⟩

theorem setSeq_rollOutflow (s : State) (q : Sequencer) : s.SameRollOutflow (s.setSeq q) := by
  simp [State.SameRollOutflow]

theorem matrixTake_rollOutflow (s : State) : s.SameRollOutflow s.matrixTake :=
  ⟨s.enterMode_roll _, s.enterMode_outflow _⟩

theorem endSupply_rollOutflow (s : State) : s.SameRollOutflow s.endSupply := by
  simp [State.SameRollOutflow, State.endSupply, State.judgeValve]

theorem discardProtection_rollOutflow (s : State) : s.SameRollOutflow s.discardProtection := by
  simp [State.SameRollOutflow]

theorem enterIdle_rollOutflow (s : State) : s.SameRollOutflow s.enterIdle :=
  ((setSeq_rollOutflow s _).trans (discardProtection_rollOutflow _)).trans
    ((endSupply_rollOutflow _).trans (matrixTake_rollOutflow _))

theorem judgeRoadShift_rollOutflow (s : State) : s.SameRollOutflow s.judgeRoadShift := by
  unfold State.judgeRoadShift
  repeat' split
  all_goals simp [State.SameRollOutflow]

theorem enterReleasing_rollOutflow (s : State) : s.SameRollOutflow s.enterReleasing := by
  have taken (q : Sequencer) : s.SameRollOutflow (s.setSeq q).matrixTake :=
    (setSeq_rollOutflow s q).trans (matrixTake_rollOutflow _)
  have clutch (t : State) (h : s.SameRollOutflow t) : s.SameRollOutflow (if t.lineClear .d4 then t.enterIdle else t) := by
    split
    · exact h.trans (enterIdle_rollOutflow t)
    · exact h
  have split (t : State) (h : s.SameRollOutflow t) :
      s.SameRollOutflow (if t.lineClear .d3 then t.enterIdle else t.judgeRoadShift) := by
    split
    · exact h.trans (enterIdle_rollOutflow t)
    · exact h.trans (judgeRoadShift_rollOutflow t)
  unfold State.enterReleasing
  split
  · exact clutch _ (taken _)
  · exact split _ (taken _)
  · exact split _ (taken _)

theorem faultToIdlingDown_rollOutflow (s : State) (f : SeqFault) (r : SeqReason) :
    s.SameRollOutflow (s.faultToIdlingDown f r) := by
  have judged (t : State) : t.SameRollOutflow t.judgeIdlingDown := by
    unfold State.judgeIdlingDown
    split
    · exact enterReleasing_rollOutflow t
    · exact ⟨rfl, rfl⟩
  have left (t : State) : t.SameRollOutflow t.governorOff := by simp [State.SameRollOutflow]
  have reported : s.SameRollOutflow (s.reportFault f []) := by simp [State.SameRollOutflow]
  exact (reported.trans (setSeq_rollOutflow _ _)).trans (((left _).trans (matrixTake_rollOutflow _)).trans (judged _))

theorem seqRoadGate_rollOutflow (s : State) (made : Bool) : s.SameRollOutflow (s.seqRoadGate made) := by
  have fault : s.SameRollOutflow (if made then s.faultToIdlingDown .motion .motion else s) := by
    split
    · exact faultToIdlingDown_rollOutflow s _ _
    · exact ⟨rfl, rfl⟩
  unfold State.seqRoadGate
  split
  · exact fault
  · exact fault
  · exact judgeRoadShift_rollOutflow s
  all_goals exact ⟨rfl, rfl⟩

/-- START ends with the roll-speed state judged on v (R19, R26). -/
theorem leaveStart_roll (s : State) : s.leaveStart.matrix.roll = s.judgeRoll.matrix.roll := by
  simp [State.leaveStart]

@[simp] theorem State.judgeComplete_outflow (s : State) : s.judgeComplete.supply.outflow = s.supply.outflow := by
  rcases judgeComplete_cases s with ⟨-, e⟩ | ⟨-, -, e⟩ <;> simp [e, State.leaveStart]

/-! ### Completeness -/

/-- After the judgement the image is complete exactly where it was, or every input is measured (R16). -/
@[simp] theorem State.judgeComplete_image (s : State) : s.judgeComplete.image =
    { s.image with complete := s.image.complete || s.image.allMeasured } := by
  rcases judgeComplete_cases s with ⟨h, e⟩ | ⟨hc, hm, e⟩ <;> rw [e]
  · have same : (s.image.complete || s.image.allMeasured) = s.image.complete := by
      rcases h with h | h <;> simp [h]
    rw [same]
  · simp [hc, hm]

end Sys2Proof.Machine

/-! # Level samples, flow gates and pulses -/

namespace Sys2Proof.Machine

/-! ### The table of R4 -/

/-- A code in range is scaled as if it were clamped to 400 to 3600 (R3). -/
def clampedCode (c : Code) : Nat := if c.toNat < 400 then 400 else if 3600 < c.toNat then 3600 else c.toNat

theorem classify_out {c : Code} (h : c.toNat < 300 ∨ 3700 < c.toNat) : classify c = none := by simp [classify, h]

theorem classify_in {c : Code} (h : ¬(c.toNat < 300 ∨ 3700 < c.toNat)) :
    classify c = some (clampedCode c, decide (c.toNat < 400 ∨ 3600 < c.toNat)) := by
  simp [classify, h, clampedCode, clampNat]

theorem markedStatus_decide (p : Prop) [Decidable p] :
    markedStatus (decide p) = if p then .clamped else .ok := by simp [markedStatus]

theorem Channel.proving_iff (ch : Channel) : ch.proving = true ↔ ch.status = .fault ∧ ch.inCount < 2 := by
  simp [Channel.proving]

/-- An out-of-range sample follows the table of R4, whatever the scaling. -/
theorem Channel.outOfRange_step (value : Nat → Int) {c : Code} (h : c.toNat < 300 ∨ 3700 < c.toNat) (ch : Channel) :
    ChannelStep value c ch (ch.outOfRange c) := by
  unfold ChannelStep Channel.outOfRange
  rw [if_pos h]
  cases hs : ch.status
  case fault => simp
  case ok | clamped =>
    by_cases ho : ch.outCount < 2
    · simp [ho, Nat.not_le.2 ho]
    · simp [ho, Nat.not_lt.1 ho]

/-- One sample of A0, A1 or A2 follows the table of R4 with the channel's scaling. -/
theorem Channel.sample_step (ch : Channel) (scale : Nat → Int) (c : Code) : ChannelStep scale c ch (ch.sample scale c) := by
  by_cases h : c.toNat < 300 ∨ 3700 < c.toNat
  · rw [Channel.sample, classify_out h]
    exact ch.outOfRange_step scale h
  · rw [Channel.sample, classify_in h, ChannelStep, if_neg h]
    dsimp only
    rw [Channel.inRange]
    by_cases hp : ch.status = .fault ∧ ch.inCount < 2
    · rw [if_pos hp, if_pos (ch.proving_iff.2 hp)]
    · rw [if_neg hp, if_neg (mt ch.proving_iff.1 hp), Channel.take, markedStatus_decide]
      rfl

/-! ### Level samples (R4, R5) -/

/-- The ring that a taken sample leaves: alone in it after a recovery, otherwise at its end (R4, R5). -/
def ringAfter (old : LevelChannel) (x : Nat) : List Nat :=
  if old.chan.status = .fault then [x] else (if 8 ≤ old.ring.length then old.ring.drop 1 else old.ring) ++ [x]

/-- A taken level sample joins the ring, and the value is the ring's mean (R5). -/
theorem LevelChannel.sample_taken {old : LevelChannel} {c : Code} (hin : ¬(c.toNat < 300 ∨ 3700 < c.toNat))
    (hp : ¬(old.chan.status = .fault ∧ old.chan.inCount < 2)) :
    old.sample c = {
      chan := old.chan.take (ringMean (ringAfter old (scaleLevel (clampedCode c))))
        (decide (c.toNat < 400 ∨ 3600 < c.toNat))
      ring := ringAfter old (scaleLevel (clampedCode c)) } := by
  have ring : pushRing (if old.chan.recovers then [] else old.ring) (scaleLevel (clampedCode c)) =
      ringAfter old (scaleLevel (clampedCode c)) := by
    by_cases hf : old.chan.status = .fault
    · have hc : 2 ≤ old.chan.inCount := by
        by_contra hc
        exact hp ⟨hf, by omega⟩
      simp [Channel.recovers, pushRing, ringAfter, hf, hc]
    · simp [Channel.recovers, pushRing, ringAfter, hf]
  rw [LevelChannel.sample, classify_in hin]
  dsimp only
  rw [if_neg (mt old.chan.proving_iff.1 hp), ring]

/-- Settles O28, by the three rows of R4: out of range, proving, taken. -/
theorem levelSampleKeepsTheRing : Obligations.LevelSampleKeepsTheRing := by
  intro ch c s
  refine ⟨s.levelSample ch c, rfl, by ext1 <;> simp, ?_⟩
  dsimp only
  rw [State.levelSample_image, PerLevel.get_set_self]
  generalize s.image.levels.get ch = old
  by_cases hout : c.toNat < 300 ∨ 3700 < c.toNat
  · rw [if_pos hout, LevelChannel.sample, classify_out hout]
    exact ⟨old.chan.outOfRange_step _ hout, fun h => if_pos h, fun h => if_neg h⟩
  · rw [if_neg hout]
    by_cases hprove : old.chan.status = .fault ∧ old.chan.inCount < 2
    · rw [if_pos hprove, LevelChannel.sample, classify_in hout]
      simp [old.chan.proving_iff.2 hprove, Channel.inRange]
    · rw [if_neg hprove, LevelChannel.sample_taken hout hprove]
      refine ⟨rfl, ?_⟩
      rw [Channel.take, markedStatus_decide]
      rfl

/-! ### Flow gates and pulses (R7, R10, R11, R132) -/

/-- The state as the end of a flow gate finds it: the meter and the tank-outflow accumulator moved on (R10, R11, R132). -/
def State.flowGated (s : State) (m : Meter) : State :=
  let count := s.image.gateCount.get (meterInput m)
  { s with
    image := { s.image.endGate (meterInput m) with
      meters := s.image.meters.set m ((s.image.meters.get m).gate count (s.config.calibration m)) }
    supply := { s.supply with outflow :=
      if m = .dis ∧ s.supply.tankToPump then s.supply.outflow + BitVec.ofNat 32 count else s.supply.outflow } }

theorem flowGateEnd_eq (s : State) (m : Meter) : s.flowGateEnd m = (s.flowGated m).judgeComplete := rfl

theorem calibration_eq (c : WorkingConfig) (m : Meter) :
    c.calibration m = if m = .dis then c.inputs.kDis else c.inputs.kFill := by cases m <;> rfl

/-- A count joins a four-byte total modulo 4294967296 (R11, R132). -/
theorem toNat_add_count (total : BitVec 32) (count : Nat) :
    (total + BitVec.ofNat 32 count).toNat = (total.toNat + count) % 4294967296 := by
  simp [BitVec.toNat_add]

/-- A meter after a gate, in numbers (R10, R11). -/
theorem MeterRecord.gate_spec (r : MeterRecord) (count k : Nat) :
    (r.gate count k).flow = min 6000 (count * 6000 / k) ∧
    ((r.gate count k).flowOver = true ↔ 6000 < count * 6000 / k) ∧
    (r.gate count k).total.toNat = (r.total.toNat + count) % 4294967296 ∧
    (r.gate count k).litres.toNat = (r.litres.toNat + (r.remainder + 100 * count) / k) % 4294967296 ∧
    (r.gate count k).remainder = (r.remainder + 100 * count) % k :=
  ⟨Nat.min_comm _ _, decide_eq_true_iff, toNat_add_count _ _, toNat_add_count _ _, rfl⟩

/-- Settles O32: the gate's own effect is `State.flowGated`, and the judgement of completeness leaves meters and
outflow as they are. -/
theorem flowGateMetersAndPulsesCount : Obligations.FlowGateMetersAndPulsesCount := by
  refine ⟨fun m s => ⟨s.flowGateEnd m, rfl, ?_, ?_, fun hc => ?_⟩, fun p s => rfl⟩
  · rw [flowGateEnd_eq]
    ext1 <;> simp [State.flowGated, InputImage.endGate]
  · have outflow : (s.flowGateEnd m).supply.outflow = (s.flowGated m).supply.outflow := by simp [flowGateEnd_eq]
    have meter : (s.flowGateEnd m).image.meters.get m =
        (s.image.meters.get m).gate (s.image.gateCount.get (meterInput m)) (s.config.calibration m) := by
      simp [flowGateEnd_eq, State.flowGated]
    obtain ⟨flow, flowOver, total, litres, remainder⟩ := (s.image.meters.get m).gate_spec
      (s.image.gateCount.get (meterInput m)) (s.config.calibration m)
    dsimp only
    rw [outflow, meter, ← calibration_eq]
    refine ⟨flow, flowOver, total, litres, remainder, ?_⟩
    unfold State.flowGated
    dsimp only
    split
    · exact toNat_add_count _ _
    · rfl
  · rw [flowGateEnd_eq, judgeComplete_of_not (s := s.flowGated m) (.inl hc)]
    exact ⟨rfl, rfl, rfl, rfl⟩

end Sys2Proof.Machine

/-! # Pressure and temperature samples -/

namespace Sys2Proof.Machine

/-! ### Causes and the relief valve through the governor's shared operations -/

@[simp] theorem State.takeEffective_causes (s : State) (m : GovMode) (x : Int) :
    (s.takeEffective m x).gov.causes = s.gov.causes ∧ (s.takeEffective m x).gov.reliefOpen = s.gov.reliefOpen := by
  simp only [State.takeEffective, State.bumpless, State.effectiveRest]
  repeat' split
  all_goals simp

@[simp] theorem State.settleRaised_causes (s : State) (c : Cause) :
    (s.settleRaised c).gov.causes = s.gov.causes ∧ (s.settleRaised c).gov.reliefOpen = s.gov.reliefOpen := by
  unfold State.settleRaised
  split <;> simp

@[simp] theorem Governor.runsAtRaising_causes (g : Governor) (c : Cause) :
    (g.runsAtRaising c).causes = g.causes ∧ (g.runsAtRaising c).reliefOpen = g.reliefOpen := by
  cases c <;> exact ⟨rfl, rfl⟩

@[simp] theorem State.raiseCause_reliefOpen (s : State) (c : Cause) (v : List Byte) :
    (s.raiseCause c v).gov.reliefOpen = s.gov.reliefOpen := by
  simp only [State.raiseCause]
  repeat' split
  all_goals simp

@[simp] theorem State.causeAbsent_reliefOpen (s : State) (c : Cause) (v : List Byte) :
    (s.causeAbsent c v).gov.reliefOpen = s.gov.reliefOpen := by
  simp only [State.causeAbsent]
  split <;> simp

@[simp] theorem State.judgePressureSensor_reliefOpen (s : State) :
    s.judgePressureSensor.gov.reliefOpen = s.gov.reliefOpen := by
  unfold State.judgePressureSensor
  repeat' split
  all_goals simp

@[simp] theorem State.judgeOverheat_reliefOpen (s : State) : s.judgeOverheat.gov.reliefOpen = s.gov.reliefOpen := by
  simp only [State.judgeOverheat, State.raise]
  repeat' split
  all_goals simp

/-- A raising outside OFF leaves its cause in the set with its condition present (R97). -/
theorem State.raiseCause_raises {s : State} (h : s.govOff = false) (c : Cause) (v : List Byte) :
    ((s.raiseCause c v).gov.causes.get c).active = true ∧ ((s.raiseCause c v).gov.causes.get c).present = true := by
  simp only [State.raiseCause, h]
  by_cases ha : (s.gov.causes.get c).active = true
  · by_cases hp : (s.gov.causes.get c).present = true <;> simp [ha, hp]
  · simp [ha]

/-- A raising moves no other cause's record. -/
theorem State.raiseCause_other (s : State) {c d : Cause} (hd : d ≠ c) (v : List Byte) :
    (s.raiseCause c v).gov.causes.get d = s.gov.causes.get d := by
  simp only [State.raiseCause]
  repeat' split
  all_goals simp [PerCause.get_set_ne _ _ hd]

theorem State.causeAbsent_other (s : State) {c d : Cause} (hd : d ≠ c) (v : List Byte) :
    (s.causeAbsent c v).gov.causes.get d = s.gov.causes.get d := by
  simp only [State.causeAbsent]
  split <;> simp [PerCause.get_set_ne _ _ hd]

theorem State.judgePressureSensor_other (s : State) {d : Cause} (hd : d ≠ .pressureSensor) :
    s.judgePressureSensor.gov.causes.get d = s.gov.causes.get d := by
  unfold State.judgePressureSensor
  repeat' split
  · exact s.causeAbsent_other hd _
  · exact s.raiseCause_other hd _
  · rfl

/-- PRESSURE_SENSOR judged behind a raising leaves the raised cause as it is (R97, R107). -/
theorem State.raise_raises {s : State} (h : s.govOff = false) {c : Cause} (hc : c ≠ .pressureSensor) (v : List Byte) :
    ((s.raise c v).gov.causes.get c).active = true ∧ ((s.raise c v).gov.causes.get c).present = true := by
  unfold State.raise
  dsimp only
  split
  · exact State.raiseCause_raises h c v
  · rw [State.judgePressureSensor_other _ hc]
    exact State.raiseCause_raises h c v

/-- A casing temperature at or above temp_cut raises OVERHEAT_CUT, unless the governor is OFF (R103). -/
theorem State.judgeOverheat_raises {s : State} {x : Int} (hx : s.casingTemp = some x)
    (hcut : (s.config.gov.tempCut : Int) ≤ x) (h : s.govOff = false) :
    (s.judgeOverheat.gov.causes.get .overheatCut).active = true ∧
    (s.judgeOverheat.gov.causes.get .overheatCut).present = true := by
  simp only [State.judgeOverheat, hx, if_pos hcut]
  exact State.raise_raises h (by decide) _

/-- The relief valve with its hysteresis of 10 (R112). -/
theorem State.judgeRelief_gov {s : State} {x : Int} (hx : s.casingTemp = some x) :
    s.judgeRelief.gov = { s.gov with
      reliefOpen := (if s.gov.reliefOpen then !decide (x ≤ (s.config.gov.tempReliefOn : Int) - 10)
        else decide ((s.config.gov.tempReliefOn : Int) ≤ x)) } := by
  have same {b : Bool} (hb : s.gov.reliefOpen = b) : s.gov = { s.gov with reliefOpen := b } := by rw [← hb]
  simp only [State.judgeRelief, hx]
  by_cases ho : s.gov.reliefOpen = true
  · rw [if_pos ho, if_pos ho]
    split
    · next hoff => simp [hoff]
    · next hoff => simpa [hoff] using same ho
  · rw [if_neg ho, if_neg ho]
    split
    · next hon => simp [hon]
    · next hon => simpa [hon] using same (by simpa using ho)

/-- The matrix hands the governor a cap at most (R93). -/
@[simp] theorem State.matrixJudge_causes (s : State) (sel : LockCond → Bool) :
    (s.matrixJudge sel).gov.causes = s.gov.causes ∧ (s.matrixJudge sel).gov.reliefOpen = s.gov.reliefOpen := by
  have cap (t : State) : t.recomputeCap.gov.causes = t.gov.causes ∧
      t.recomputeCap.gov.reliefOpen = t.gov.reliefOpen := by
    simp only [State.recomputeCap, State.cutDemand]
    repeat' split
    all_goals simp
  simp only [State.matrixJudge, State.recomputePermits, Permit.all, List.foldl]
  split <;> simp [cap]

/-! ### The samples -/

theorem State.pressureSample_clock (s : State) (c0 c1 : Code) : (s.pressureSample c0 c1).clock = s.clock + 10 := by
  simp only [State.pressureSample]
  split <;> simp

/-- The state as a temperature sample leaves it before anything reads the new value (R2). -/
def State.temperatureTaken (s : State) (c2 : Code) : State :=
  State.submitAll { s with image := { s.image with a2 := s.image.a2.sample scaleTemperature c2 } }
    (channelReport 2 s.image.complete s.image.a2 (s.image.a2.sample scaleTemperature c2) c2)

theorem temperatureSample_eq (s : State) (c2 : Code) : s.temperatureSample c2 =
    if (s.image.a2.sample scaleTemperature c2).value = s.image.a2.value then s.temperatureTaken c2
    else ((s.temperatureTaken c2).judgeRelief.judgeOverheat).matrixJudge onPumpTemp := rfl

/-- A changed casing temperature judges the relief valve and OVERHEAT_CUT (R103, R112). -/
theorem temperatureSample_judges {s : State} {c2 : Code} {x : Int}
    (changed : (s.image.a2.sample scaleTemperature c2).value ≠ s.image.a2.value)
    (hx : (s.image.a2.sample scaleTemperature c2).value = some x) :
    (s.temperatureSample c2).gov.reliefOpen =
      (if s.gov.reliefOpen then !decide (x ≤ (s.config.gov.tempReliefOn : Int) - 10)
        else decide ((s.config.gov.tempReliefOn : Int) ≤ x)) ∧
    ((s.config.gov.tempCut : Int) ≤ x → s.gov.opMode ≠ .off →
      ((s.temperatureSample c2).gov.causes.get .overheatCut).active = true ∧
      ((s.temperatureSample c2).gov.causes.get .overheatCut).present = true) := by
  have taken : (s.temperatureTaken c2).casingTemp = some x := by simpa [State.temperatureTaken, State.casingTemp] using hx
  have relieved := State.judgeRelief_gov taken
  have gov : (s.temperatureTaken c2).gov = s.gov := by simp [State.temperatureTaken]
  have config : (s.temperatureTaken c2).config = s.config := by simp [State.temperatureTaken]
  rw [gov, config] at relieved
  rw [temperatureSample_eq, if_neg changed]
  refine ⟨by simp [relieved], fun hcut hoff => ?_⟩
  rw [(State.matrixJudge_causes _ _).1]
  refine State.judgeOverheat_raises (x := x) ?_ (by simpa [config] using hcut) ?_
  · simpa [State.casingTemp] using taken
  · simpa [State.govOff, relieved] using hoff

/-- Settles O27: the channels follow the table of R4 (`Channel.sample_step`), and a changed casing temperature is judged
as R103 and R112 say. -/
theorem analogSamplesMoveTheirChannels : Obligations.AnalogSamplesMoveTheirChannels := by
  refine ⟨fun c0 c1 s => ⟨s.pressureSample c0 c1, rfl, ?_, ?_, ?_⟩,
    fun c2 s => ⟨s.temperatureSample c2, rfl, ?_, ?_, ?_⟩⟩
  · ext1 <;> simp [State.pressureSample_clock]
  · rw [State.pressureSample_image]
    exact s.image.a0.sample_step scaleDischarge c0
  · rw [State.pressureSample_image]
    exact s.image.a1.sample_step scaleIntake c1
  · ext1 <;> simp
  · rw [State.temperatureSample_image]
    exact s.image.a2.sample_step scaleTemperature c2
  · have a2 : (s.temperatureSample c2).image.a2 = s.image.a2.sample scaleTemperature c2 := by simp
    rw [a2]
    split
    · next same =>
      rw [temperatureSample_eq, if_pos same]
      simp [State.temperatureTaken]
    · next changed => exact fun x hx => temperatureSample_judges changed hx

end Sys2Proof.Machine

/-! # The end of an F0 gate (R8, R60 to R62) -/

namespace Sys2Proof.Machine

theorem clampNat_zero (hi x : Nat) : clampNat 0 hi x = min hi x := by
  unfold clampNat
  split_ifs <;> omega

@[simp] theorem InputImage.allMeasured_withComplete (im : InputImage) (b : Bool) :
    { im with complete := b }.allMeasured = im.allMeasured := rfl

@[simp] theorem State.engineGateEnd_image (s : State) : s.engineGateEnd.image =
    { s.engineGated.image with complete := s.image.complete || s.engineGated.image.allMeasured } := by
  rw [engineGateEnd_eq]
  simp

/-- The record in which a release begins, or IDLE's where the drive reads released already (R60 to R62). -/
theorem enterReleasing_release (s : State) :
    if s.seq.path = .clutch then
      s.enterReleasing.seq.oClutch = false ∧
      s.enterReleasing.seq.state = (if s.lineClear .d4 then .idle else .releasing)
    else s.enterReleasing.seq.state = (if s.lineClear .d3 then .idle else .releasing) := by
  have split : s.enterReleasingSplit.seq.state = (if s.lineClear .d3 then .idle else .releasing) := by
    rcases s.enterReleasingSplit_seq with ⟨hd, e⟩ | ⟨hd, shift, timer, e⟩ <;> simp [hd, e, startSequencer]
  cases hp : s.seq.path
  case clutch =>
    rw [if_pos rfl]
    simp only [State.enterReleasing, hp, State.enterReleasingClutch_seq]
    split <;> exact ⟨rfl, rfl⟩
  case split | none => simpa [State.enterReleasing, hp] using split

/-- With the image complete the gate's end leaves of the sequencer what it made of N (R60, R62). -/
theorem engineGateEnd_seq {s : State} (hc : s.image.complete = true) :
    s.engineGateEnd.seq = s.engineGated.seqEngineGate.seq := by
  rw [engineGateEnd_eq, judgeComplete_of_not (.inl (by simpa using hc))]
  simp

/-- While IDLING_DOWN the wait ends exactly where N is at or below the engage limit (R23, R60). -/
theorem judgeIdlingDown_of_idlingDown {s : State} (hs : s.seq.state = .idlingDown) :
    s.judgeIdlingDown = if s.image.n ≤ s.config.idleRpm + 150 then s.enterReleasing else s := by
  unfold State.judgeIdlingDown
  by_cases idle : s.image.n ≤ s.config.idleRpm + 150
  · rw [if_pos idle, if_pos ⟨hs, decide_eq_true idle⟩]
  · rw [if_neg idle, if_neg fun h => idle (of_decide_eq_true h.2)]

/-- Settles O29: IDLING_DOWN comes with a complete image, so the gate's end is N and what it makes of the wait. -/
theorem engineGateSetsTheSpeedAndEndsTheWait : Obligations.EngineGateSetsTheSpeedAndEndsTheWait := by
  intro s h
  refine ⟨s.engineGateEnd, rfl, ?_, ?_, ?_, fun hs => ?_⟩
  · ext1 <;> simp [State.engineGated, InputImage.endGate]
  · simp [State.engineGated, engineSpeedOf, clampNat_zero]
  · rw [State.engineGateEnd_image]
    rfl
  · have gated : s.engineGated.seq.state = .idlingDown := hs
    have judged : s.engineGated.seqEngineGate = s.engineGated.judgeIdlingDown := by simp [State.seqEngineGate, hs]
    have n : s.engineGateEnd.image.n = s.engineGated.image.n := by simp
    have config : s.engineGated.config = s.config := rfl
    rw [engineGateEnd_seq (h.complete_of_state (by simp [hs])), judged, judgeIdlingDown_of_idlingDown gated, n, config]
    by_cases idle : s.engineGated.image.n ≤ s.config.idleRpm + 150
    · rw [if_pos idle, if_pos idle]
      exact enterReleasing_release s.engineGated
    · rw [if_neg idle, if_neg idle]
      rfl

end Sys2Proof.Machine

/-! # The end of an F1 gate (R9, R26, R134, R135) -/

namespace Sys2Proof.Machine

/-! ### The roll-speed state (R26) -/

/-- The roll-speed state judged on a speed against the ceiling, with its hysteresis of 20 (R26). -/
def rollNext (ceiling v : Nat) : RollState → RollState
  | .under => if ceiling < v then .over else .under
  | .over => if v ≤ ceiling - 20 then .under else .over

/-- Judged again on the same speed it stays. -/
theorem rollNext_rollNext (ceiling v : Nat) (r : RollState) :
    rollNext ceiling v (rollNext ceiling v r) = rollNext ceiling v r := by
  cases r
  · by_cases h : ceiling < v
    · simp [rollNext, h, show ¬v ≤ ceiling - 20 by omega]
    · simp [rollNext, h]
  · by_cases h : v ≤ ceiling - 20
    · simp [rollNext, h, show ¬ceiling < v by omega]
    · simp [rollNext, h]

theorem judgeRoll_roll (s : State) :
    s.judgeRoll.matrix.roll = rollNext s.config.rollCeiling s.image.v s.matrix.roll := by
  cases h : s.matrix.roll <;> simp only [State.judgeRoll, h] <;> rfl

/-- The judgement of completeness leaves the roll-speed state, or judges it on v (R19, R26). -/
theorem judgeComplete_roll {s : State} : s.judgeComplete.matrix.roll =
    if s.image.complete || !s.image.allMeasured then s.matrix.roll
    else rollNext s.config.rollCeiling s.image.v s.matrix.roll := by
  rcases judgeComplete_cases s with ⟨h, e⟩ | ⟨hc, hm, e⟩ <;> rw [e]
  · rw [if_pos (by simpa using h)]
  · rw [if_neg (by simp [hc, hm]), leaveStart_roll, judgeRoll_roll]
    simp

/-! ### The tanks (R134, R135) -/

@[simp] theorem State.handTank_outflow (s : State) (t : TankIx) (b : TankRun) :
    (s.handTank t b).supply.outflow = s.supply.outflow := by
  simp only [State.handTank]
  repeat' split
  all_goals simp

/-- A tank's contents after the gate that makes the truck moving (R134). -/
def State.travelling (s : State) (t : TankIx) : TankRun :=
  let r := s.tanks.get t
  match r.state with
  | .sensed => { s.takeMarks (s.config.tanks.get t) r with state := .travel }
  | .blind => { r with state := .travel }
  | .settling => { r with state := .travel, settleTimer := none }
  | .travel | .unconfigured => r

/-- A tank's contents after the gate that makes the truck stopped (R135). -/
def State.settling (s : State) (t : TankIx) : TankRun :=
  let r := s.tanks.get t
  if r.state = .travel then
    { r with state := .settling, settleTimer := some ⟨s.clock, s.config.settleTime * 1000⟩ }
  else r

theorem enterTravel_get (s : State) (t u : TankIx) :
    (s.enterTravel t).tanks.get u = if u = t then s.travelling t else s.tanks.get u := by
  by_cases h : u = t
  · subst h
    cases hs : (s.tanks.get u).state <;> simp [State.enterTravel, State.travelling, hs, State.setTank]
  · cases hs : (s.tanks.get t).state <;> simp [State.enterTravel, hs, State.setTank, h, PerTank.get_set_ne]

theorem enterSettling_get (s : State) (t u : TankIx) :
    (s.enterSettling t).tanks.get u = if u = t then s.settling t else s.tanks.get u := by
  by_cases h : u = t
  · subst h
    cases hs : (s.tanks.get u).state <;> simp [State.enterSettling, State.settling, hs, State.setTank, State.startTimer]
  · cases hs : (s.tanks.get t).state <;> simp [State.enterSettling, hs, State.setTank, h, PerTank.get_set_ne]

@[simp] theorem enterTravel_outflow (s : State) (t : TankIx) :
    (s.enterTravel t).supply.outflow = s.supply.outflow := by
  simp only [State.enterTravel]
  split <;> simp

/-- What a tank becomes is worked from its own contents, the configuration, the accumulator and the inflow meter. -/
theorem travelling_congr {s u : State} {t : TankIx} (tank : u.tanks.get t = s.tanks.get t) (config : u.config = s.config)
    (outflow : u.supply.outflow = s.supply.outflow) (meters : u.image.meters = s.image.meters) :
    u.travelling t = s.travelling t := by
  simp only [State.travelling, State.takeMarks, tank, config, outflow, meters]

theorem settling_congr {s u : State} {t : TankIx} (tank : u.tanks.get t = s.tanks.get t) (config : u.config = s.config)
    (clock : u.clock = s.clock) : u.settling t = s.settling t := by
  simp only [State.settling, tank, config, clock]

theorem tanksAtRoadGate_get (s : State) (was : Bool) (t : TankIx) : (s.tanksAtRoadGate was).tanks.get t =
    if s.moving = true ∧ was = false then s.travelling t
    else if s.moving = false ∧ was = true then s.settling t else s.tanks.get t := by
  have travel := foldl_own (own := fun (s : State) u => s.tanks.get u) enterTravel_get (fun s t u h =>
    travelling_congr (by rw [enterTravel_get, if_neg h]) (by simp) (by simp) (by simp)) TankIx.all (by decide) s t
  have settle := foldl_own (own := fun (s : State) u => s.tanks.get u) enterSettling_get (fun s t u h =>
    settling_congr (by rw [enterSettling_get, if_neg h]) (by simp) (by simp)) TankIx.all (by decide) s t
  rw [if_pos t.mem_all] at travel settle
  unfold State.tanksAtRoadGate
  cases hm : s.moving <;> cases was <;> simp [travel, settle]

/-! ### The gate's end -/

/-- The state in which the tanks meet the gate's end: the roll limits judged, the sequencer and the matrix done. -/
def State.roadJudged (s : State) : State :=
  (s.roadGated.judgeRoll.judgeOverspeed.seqRoadGate (s.roadGated.moving && !s.moving)).matrixJudge onRoadSpeed

theorem roadGateEnd_judged (s : State) :
    s.roadGateEnd = (s.roadJudged.tanksAtRoadGate s.moving).judgeComplete := rfl

@[simp] theorem roadJudged_frame (s : State) :
    s.roadJudged.image = s.roadGated.image ∧ s.roadJudged.config = s.config ∧ s.roadJudged.clock = s.clock ∧
    s.roadJudged.tanks = s.tanks ∧ s.roadJudged.recoveredAtStart = s.recoveredAtStart ∧
    s.roadJudged.supply.outflow = s.supply.outflow ∧
    s.roadJudged.matrix.roll = rollNext s.config.rollCeiling s.roadGated.image.v s.matrix.roll := by
  have through := seqRoadGate_rollOutflow s.roadGated.judgeRoll.judgeOverspeed (s.roadGated.moving && !s.moving)
  refine ⟨by simp [State.roadJudged], by simp [State.roadJudged], by simp [State.roadJudged],
    by simp [State.roadJudged], by simp [State.roadJudged], ?_, ?_⟩
  · simp only [State.roadJudged, State.matrixJudge_outflow, through.2]
    simp
  · simp only [State.roadJudged, State.matrixJudge_modes, through.1, State.judgeOverspeed_modes, judgeRoll_roll]
    simp

@[simp] theorem State.roadGateEnd_image (s : State) : s.roadGateEnd.image =
    { s.roadGated.image with complete := s.image.complete || s.roadGated.image.allMeasured } := by
  rw [roadGateEnd_judged]
  simp

theorem roadGateEnd_roll (s : State) :
    s.roadGateEnd.matrix.roll = rollNext s.config.rollCeiling s.roadGated.image.v s.matrix.roll := by
  rw [roadGateEnd_judged, judgeComplete_roll]
  split <;> simp [rollNext_rollNext]

theorem roadGateEnd_tank (s : State) (t : TankIx) : s.roadGateEnd.tanks.get t =
    if s.roadGated.moving = true ∧ s.moving = false then s.travelling t
    else if s.roadGated.moving = false ∧ s.moving = true then s.settling t else s.tanks.get t := by
  have moving : s.roadJudged.moving = s.roadGated.moving := by simp [State.moving]
  have travel : s.roadJudged.travelling t = s.travelling t :=
    travelling_congr (by simp) (by simp) (by simp) (by simp [State.roadGated, InputImage.endGate])
  have settle : s.roadJudged.settling t = s.settling t := settling_congr (by simp) (by simp) (by simp)
  rw [roadGateEnd_judged, (State.judgeComplete_frame _).2.2.2.2.1, tanksAtRoadGate_get, moving, travel, settle]
  simp

/-- What R134 says of a tank that the gate sets moving. -/
theorem travelling_spec (s : State) (t : TankIx) :
    (s.travelling t).volume = (s.tanks.get t).volume ∧
    if (s.tanks.get t).state = .unconfigured ∨ (s.tanks.get t).state = .travel then s.travelling t = s.tanks.get t
    else (s.travelling t).state = .travel ∧
      ((s.tanks.get t).state = .settling → (s.travelling t).settleTimer = none) ∧
      ((s.tanks.get t).state = .sensed → (s.travelling t).v0 = (s.tanks.get t).volume ∧
        (s.travelling t).outMark = some s.supply.outflow ∧
        (s.travelling t).inMark = some s.image.meters.fill.total) ∧
      ((s.tanks.get t).state ≠ .sensed → (s.travelling t).v0 = (s.tanks.get t).v0 ∧
        (s.travelling t).basis = (s.tanks.get t).basis) := by
  cases h : (s.tanks.get t).state <;> simp [State.travelling, h, State.takeMarks]

/-- Settles O30: the gate's end in its four parts, the roll-speed state (`roadGateEnd_roll`) and each tank
(`roadGateEnd_tank`) among them. -/
theorem roadGateSetsTheSpeedAndMovesTheTanks : Obligations.RoadGateSetsTheSpeedAndMovesTheTanks := by
  intro s
  have v : s.roadGateEnd.image.v = s.roadGated.image.v := by simp
  have moves : s.roadGated.moving = true ↔ 5 ≤ s.roadGateEnd.image.v := by rw [v]; exact decide_eq_true_iff
  have moved : s.moving = true ↔ 5 ≤ s.image.v := decide_eq_true_iff
  refine ⟨s.roadGateEnd, rfl, ?_, ?_, ?_, fun t => ?_⟩
  · ext1 <;> simp [State.roadGated, InputImage.endGate]
  · simp [State.roadGated, roadSpeedOf, clampNat_zero]
  · rw [roadGateEnd_roll, v]
    cases s.matrix.roll <;> rfl
  · obtain ⟨volume, spec⟩ := travelling_spec s t
    rw [roadGateEnd_tank]
    by_cases made : 5 ≤ s.roadGateEnd.image.v ∧ s.image.v < 5
    · have away : s.roadGated.moving = true ∧ s.moving = false :=
        ⟨moves.2 made.1, by rw [← Bool.not_eq_true, moved]; omega⟩
      rw [if_pos made, if_pos away]
      exact ⟨volume, spec⟩
    · have stays : ¬(s.roadGated.moving = true ∧ s.moving = false) := by
        rwa [moves, ← Bool.not_eq_true, moved, Nat.not_le]
      have halts : s.roadGated.moving = false ∧ s.moving = true ↔
          s.roadGateEnd.image.v < 5 ∧ 5 ≤ s.image.v := by
        rw [moved, ← Bool.not_eq_true, moves, Nat.not_le]
      rw [if_neg made, if_neg stays]
      by_cases halt : s.roadGated.moving = false ∧ s.moving = true
      · rw [if_pos halt]
        obtain ⟨stopped, was⟩ := halts.1 halt
        by_cases travel : (s.tanks.get t).state = .travel
        · have settled : s.settling t = { s.tanks.get t with
              state := .settling, settleTimer := some ⟨s.clock, s.config.settleTime * 1000⟩ } := if_pos travel
          rw [if_pos ⟨stopped, was, travel⟩, settled]
          exact ⟨rfl, rfl⟩
        · have kept : s.settling t = s.tanks.get t := if_neg travel
          rw [if_neg fun h => travel h.2.2, kept]
          exact ⟨rfl, rfl⟩
      · rw [if_neg halt, if_neg fun h => halt (halts.2 ⟨h.1, h.2.1⟩)]
        exact ⟨rfl, rfl⟩

end Sys2Proof.Machine

/-! # Permits, cap and lockout entries after the matrix has judged (R21, R27, R31 to R33) -/

namespace Sys2Proof.Machine

/-! ### What the horn, the permits and the cap leave of the matrix -/

@[simp] theorem State.judgeHorn_matrix (s : State) :
    s.judgeHorn.matrix.locks = s.matrix.locks ∧ s.judgeHorn.matrix.permits = s.matrix.permits ∧
    s.judgeHorn.matrix.cap = s.matrix.cap ∧ s.judgeHorn.matrix.driveInhibit = s.matrix.driveInhibit :=
  ⟨rfl, rfl, rfl, rfl⟩

@[simp] theorem State.hornArises_matrix (s : State) :
    s.hornArises.matrix.locks = s.matrix.locks ∧ s.hornArises.matrix.permits = s.matrix.permits ∧
    s.hornArises.matrix.cap = s.matrix.cap ∧ s.hornArises.matrix.driveInhibit = s.matrix.driveInhibit :=
  ⟨rfl, rfl, rfl, rfl⟩

@[simp] theorem State.recomputePermit_matrix (s : State) (p : Permit) :
    (s.recomputePermit p).matrix.locks = s.matrix.locks ∧ (s.recomputePermit p).matrix.cap = s.matrix.cap := by
  simp only [State.recomputePermit]
  repeat' split
  all_goals simp

@[simp] theorem State.recomputeCap_matrix (s : State) :
    s.recomputeCap.matrix.locks = s.matrix.locks ∧ s.recomputeCap.matrix.permits = s.matrix.permits ∧
    s.recomputeCap.matrix.driveInhibit = s.matrix.driveInhibit := by
  simp only [State.recomputeCap]
  split <;> simp

@[simp] theorem State.recomputePermits_locks (s : State) : s.recomputePermits.matrix.locks = s.matrix.locks := by
  simp only [State.recomputePermits, Permit.all, List.foldl]
  split <;> simp

/-! ### Permits and cap -/

/-- A permit is worked from the image, the configuration, the sequencer, the mode and the lockout entries. -/
theorem permitHeld_congr {s t : State} (p : Permit) (image : t.image = s.image) (config : t.config = s.config)
    (seq : t.seq = s.seq) (mode : t.matrix.mode = s.matrix.mode) (locks : t.matrix.locks = s.matrix.locks) :
    t.permitHeld p = s.permitHeld p := by
  have effects (k : Nat) : t.effectApplies k = s.effectApplies k := by
    funext i
    simp only [State.effectApplies, State.lockHolds, config, locks]
  have lowest (q : Permit) : t.lowestLockout q = s.lowestLockout q := by
    unfold State.lowestLockout
    rw [effects]
  have idle : t.engineIdle = s.engineIdle := by
    unfold State.engineIdle State.engageLimit
    rw [image, config]
  cases p <;> simp only [State.permitHeld, State.permitFails, State.lineSet, State.lineClear, State.moving, idle,
    lowest, image, seq, mode]

theorem recomputePermit_get (s : State) (p q : Permit) :
    (s.recomputePermit p).matrix.permits.get q = if q = p then s.permitHeld p else s.matrix.permits.get q := by
  unfold State.recomputePermit
  dsimp only
  split
  · next same => by_cases h : q = p <;> simp [h, same]
  · simp only [State.submit_frame]
    split <;> exact PerPermit.get_set _ _ _ _

/-- After the recomputation every permit stands as its conditions say (R21). -/
theorem recomputePermits_permits (s : State) (p : Permit) :
    s.recomputePermits.matrix.permits.get p = s.permitHeld p := by
  have folded := foldl_own (own := fun (s : State) p => s.matrix.permits.get p) recomputePermit_get
    (fun s j i _ => permitHeld_congr i (by simp) (by simp) (by simp) (by simp) (by simp)) Permit.all (by decide) s p
  rw [if_pos p.mem_all] at folded
  rw [← folded]
  unfold State.recomputePermits
  dsimp only
  split <;> simp

theorem matrixJudge_permits (s : State) (sel : LockCond → Bool) (p : Permit) :
    (s.matrixJudge sel).matrix.permits.get p = (s.matrixJudge sel).permitHeld p := by
  have same := permitHeld_congr (s := s.judgeLocks sel) (t := s.matrixJudge sel) p (by simp) (by simp) (by simp)
    (by simp) (by simp [State.matrixJudge])
  rw [same, ← recomputePermits_permits]
  simp [State.matrixJudge]

/-- In the modes without a throttle the cap is 0 (R27). -/
theorem throttleCap_zero {s : State} (h : s.matrix.mode = .road ∨ s.matrix.mode = .faultHold) : s.throttleCap = 0 := by
  unfold State.throttleCap
  rcases h with h | h <;> simp [h]

theorem recomputeCap_cap (s : State) : s.recomputeCap.matrix.cap = s.throttleCap := by
  unfold State.recomputeCap
  dsimp only
  split
  · next h => exact h.symm
  · simp

theorem matrixJudge_cap_zero {s : State} (sel : LockCond → Bool) (h : s.matrix.mode = .road ∨ s.matrix.mode = .faultHold) :
    (s.matrixJudge sel).matrix.cap = 0 := by
  have road (t : State) (e : t.matrix.mode = s.matrix.mode) : t.recomputeCap.matrix.cap = 0 := by
    rw [recomputeCap_cap]
    exact throttleCap_zero (by rwa [e])
  simp only [State.matrixJudge, State.judgeHorn_matrix, State.recomputePermits, Permit.all, List.foldl]
  split <;> exact road _ (by simp)

/-! ### Lockout entries -/

theorem moveLock_state (s : State) (i : EntryIx) (e : LockoutEntry) (n : LockState) (j : EntryIx) :
    ((s.moveLock i e n).matrix.locks.get j).state = if j = i then n else (s.matrix.locks.get j).state := by
  unfold State.moveLock
  dsimp only
  split
  · next same => by_cases h : j = i <;> simp [h, same]
  · rw [(State.submitAll_frame _ _).2.2.2.2.2.1]
    split <;> by_cases h : j = i <;> simp [h, PerEntry.get_set_ne]

/-- A condition is read from the image and the tanks (R30). -/
theorem lockCondition_congr {s t : State} (c : LockCond) (image : t.image = s.image) (tanks : t.tanks = s.tanks) :
    t.lockCondition c = s.lockCondition c := by
  cases c <;> simp only [State.lockCondition, State.lineSet, State.lineClear, State.casingTemp, image, tanks]

theorem armed_congr {s t : State} (e : LockoutEntry) (mode : t.matrix.mode = s.matrix.mode) : t.armed e = s.armed e := by
  simp only [State.armed, mode]

/-- The runtime state that an entry has after the judgement of those a selection names (R30 to R33). -/
def State.lockAfter (s : State) (sel : LockCond → Bool) (i : EntryIx) : LockState :=
  match s.config.entries.get i with
  | none => (s.matrix.locks.get i).state
  | some e =>
    if sel e.cond then lockNext e (s.armed e) (s.lockCondition e.cond) (s.matrix.locks.get i).state
    else (s.matrix.locks.get i).state

/-- One entry judged, where the selection names it. -/
def State.judgeLockOf (sel : LockCond → Bool) (s : State) (i : EntryIx) : State :=
  match s.config.entries.get i with
  | none => s
  | some e => if sel e.cond then s.judgeLock i else s

theorem judgeLocks_eq (s : State) (sel : LockCond → Bool) :
    s.judgeLocks sel = EntryIx.all.foldl (State.judgeLockOf sel) s := rfl

theorem judgeLockOf_state (sel : LockCond → Bool) (s : State) (i j : EntryIx) :
    ((State.judgeLockOf sel s i).matrix.locks.get j).state =
      if j = i then s.lockAfter sel i else (s.matrix.locks.get j).state := by
  unfold State.judgeLockOf State.lockAfter
  split
  · by_cases hj : j = i <;> simp [hj]
  · next e h =>
    by_cases hs : sel e.cond = true
    · simp only [State.judgeLock, h, if_pos hs, moveLock_state]
    · by_cases hj : j = i <;> simp [hj, hs]

theorem judgeLockOf_frame (sel : LockCond → Bool) (s : State) (i : EntryIx) :
    (State.judgeLockOf sel s i).config = s.config ∧ (State.judgeLockOf sel s i).image = s.image ∧
    (State.judgeLockOf sel s i).tanks = s.tanks ∧ (State.judgeLockOf sel s i).matrix.mode = s.matrix.mode := by
  unfold State.judgeLockOf
  repeat' split
  all_goals simp

/-- Every selected entry is judged once, on its condition and arming as they stand (R30). -/
theorem judgeLocks_state (s : State) (sel : LockCond → Bool) (i : EntryIx) :
    ((s.judgeLocks sel).matrix.locks.get i).state = s.lockAfter sel i := by
  have apart (s : State) (j i : EntryIx) (h : i ≠ j) : (State.judgeLockOf sel s j).lockAfter sel i = s.lockAfter sel i := by
    obtain ⟨config, image, tanks, mode⟩ := judgeLockOf_frame sel s j
    have own := judgeLockOf_state sel s j i
    rw [if_neg h] at own
    simp only [State.lockAfter, config, armed_congr _ mode, lockCondition_congr _ image tanks, own]
  rw [judgeLocks_eq, foldl_own (own := fun (s : State) i => (s.matrix.locks.get i).state) (judgeLockOf_state sel) apart
    EntryIx.all (by decide) s i, if_pos i.mem_all]

@[simp] theorem matrixJudge_locks (s : State) (sel : LockCond → Bool) :
    (s.matrixJudge sel).matrix.locks = (s.judgeLocks sel).matrix.locks := by simp [State.matrixJudge]

end Sys2Proof.Machine

/-! # Line samples, and the event that completes the image (R12 to R16, R19, R65) -/

namespace Sys2Proof.Machine

/-! ### One line at a sample (R12 to R14) -/

theorem sample_step (f : LineFilter) (n : Nat) (raw : Bool) : LineStep n raw f (f.sample n raw) := by
  unfold LineStep LineFilter.sample
  cases hs : f.state
  case unsettled =>
    have count : f.settleCount raw = if f.prevRaw = some raw then f.count + 1 else 1 := rfl
    dsimp only
    rw [← count]
    by_cases hn : n ≤ f.settleCount raw
    · rw [if_pos hn, if_pos hn]
      exact ⟨rfl, rfl, rfl, rfl⟩
    · rw [if_neg hn, if_neg hn]
      exact ⟨rfl, rfl, rfl, rfl⟩
  case low | high =>
    cases raw <;> by_cases hn : n ≤ f.count + 1 <;> simp [levelState, hn]

/-! ### The sample -/

@[simp] theorem linesSampled_frame (s : State) (raw : BitVec 12) (changed : List Line) :
    (s.linesSampled raw changed).image = { s.image with lines := s.sampleLines raw } ∧
    (s.linesSampled raw changed).config = s.config ∧ (s.linesSampled raw changed).matrix = s.matrix ∧
    (s.linesSampled raw changed).seq = s.seq ∧ (s.linesSampled raw changed).gov = s.gov ∧
    (s.linesSampled raw changed).supply = s.supply ∧ (s.linesSampled raw changed).tanks = s.tanks := by
  simp [State.linesSampled]

@[simp] theorem State.lineSample_image (s : State) (raw : BitVec 12) : (s.lineSample raw).image =
    { s.image with
      lines := s.sampleLines raw
      complete := s.image.complete || { s.image with lines := s.sampleLines raw }.allMeasured } := by
  rw [lineSample_eq]
  simp

/-- Where no settled line changes there is nothing to report or to hand on. -/
theorem lineSample_quiet {s : State} {raw : BitVec 12} (hc : s.image.complete = true) (quiet : s.changedLines raw = []) :
    s.lineSample raw = { s with image := { s.image with lines := s.sampleLines raw } } := by
  rw [lineSample_eq, quiet]
  exact judgeComplete_of_not (s := { s with image := { s.image with lines := s.sampleLines raw } }) (.inl hc)

/-! ### START while it lasts -/

/-- From the one state to the other START has lasted: sequencer, configuration and mode as they were, and no CLEAR
lockout entry moved (R29, R31). -/
def State.StillStarting (s t : State) : Prop :=
  t.seq = s.seq ∧ t.config = s.config ∧ t.matrix.mode = s.matrix.mode ∧
  ∀ i, (s.matrix.locks.get i).state = .clear → (t.matrix.locks.get i).state = .clear

theorem State.StillStarting.trans {s t u : State} (h : s.StillStarting t) (h' : t.StillStarting u) :
    s.StillStarting u := by
  obtain ⟨seq, config, mode, locks⟩ := h
  obtain ⟨seq', config', mode', locks'⟩ := h'
  exact ⟨seq'.trans seq, config'.trans config, mode'.trans mode, fun i hi => locks' i (locks i hi)⟩

theorem State.StillStarting.of_locks {s t : State} (seq : t.seq = s.seq) (config : t.config = s.config)
    (mode : t.matrix.mode = s.matrix.mode) (locks : t.matrix.locks = s.matrix.locks) : s.StillStarting t :=
  ⟨seq, config, mode, fun i hi => by rwa [locks]⟩

/-- In START no entry is armed, and so no CLEAR entry moves (R29, R31). -/
theorem matrixJudge_stillStarting {s : State} (sel : LockCond → Bool) (h : s.matrix.mode = .start) :
    s.StillStarting (s.matrixJudge sel) := by
  refine ⟨by simp, by simp, by simp, fun i hi => ?_⟩
  rw [matrixJudge_locks, judgeLocks_state]
  unfold State.lockAfter
  repeat' split
  all_goals simp [hi, State.armed, h, lockNext]

@[simp] theorem State.raiseCause_locks (s : State) (c : Cause) (v : List Byte) :
    (s.raiseCause c v).matrix.locks = s.matrix.locks := by
  simp only [State.raiseCause]
  repeat' split
  all_goals simp

@[simp] theorem State.judgePressureSensor_locks (s : State) : s.judgePressureSensor.matrix.locks = s.matrix.locks := by
  unfold State.judgePressureSensor
  repeat' split
  all_goals simp

@[simp] theorem State.judgeTankEmpty_locks (s : State) : s.judgeTankEmpty.matrix.locks = s.matrix.locks := by
  simp only [State.judgeTankEmpty, State.raise]
  repeat' split
  all_goals simp

@[simp] theorem State.judgeOverspeed_locks (s : State) : s.judgeOverspeed.matrix.locks = s.matrix.locks := by
  have cleared (t : State) : t.clearOverspeed.matrix.locks = t.matrix.locks := by
    unfold State.clearOverspeed
    split <;> simp
  simp only [State.judgeOverspeed]
  split
  · exact cleared s
  · rfl

theorem handTank_stillStarting {s : State} (t : TankIx) (b : TankRun) (h : s.matrix.mode = .start) :
    s.StillStarting (s.handTank t b) := by
  have abandoned : s.StillStarting (if t = .t0 ∧ b.state = .sensed ∧
      ((s.tanks.get t).state = .blind ∨ (s.tanks.get t).state = .travel) then s.abandonFill .abandoned else s) := by
    split <;> exact .of_locks (by simp) (by simp) (by simp) (by simp)
  have judged (u : State) (hu : s.StillStarting u) : s.StillStarting
      (if (s.tanks.get t).band = b.band ∧ (s.tanks.get t).basis = b.basis then u else u.matrixJudge (onTank t)) := by
    split
    · exact hu
    · exact hu.trans (matrixJudge_stillStarting _ (hu.2.2.1.trans h))
  have emptied (u : State) (hu : s.StillStarting u) : s.StillStarting
      (if t = .t0 ∧ (s.tanks.get t).band ≠ b.band then u.judgeTankEmpty else u) := by
    split
    · exact hu.trans (.of_locks (by simp) (by simp) (by simp) (by simp))
    · exact hu
  exact emptied _ (judged _ abandoned)

theorem enterTravel_stillStarting {s : State} (t : TankIx) (h : s.matrix.mode = .start) :
    s.StillStarting (s.enterTravel t) := by
  have set (r : TankRun) : s.StillStarting (s.setTank t r) := .of_locks (by simp) (by simp) (by simp) (by simp)
  unfold State.enterTravel
  dsimp only
  split
  · exact (set _).trans (handTank_stillStarting _ _ h)
  · exact set _
  · exact set _
  all_goals exact .of_locks rfl rfl rfl rfl

theorem tanksAtRoadGate_stillStarting {s : State} (was : Bool) (h : s.matrix.mode = .start) :
    s.StillStarting (s.tanksAtRoadGate was) := by
  have same : s.StillStarting s := .of_locks rfl rfl rfl rfl
  unfold State.tanksAtRoadGate
  split
  · split
    · exact same
    · exact foldl_keeps s.StillStarting _ _ _ same fun u t hu =>
        hu.trans (enterTravel_stillStarting t (hu.2.2.1.trans h))
  · split
    · exact foldl_keeps s.StillStarting _ _ _ same fun u t hu =>
        hu.trans (.of_locks (by simp) (by simp) (by simp) (by simp))
    · exact same

/-- In IDLE a changed line goes to the matrix alone. -/
theorem linesChanged_stillStarting {s : State} (ls : List Line) (h : s.matrix.mode = .start) (idle : s.seq.state = .idle) :
    s.StillStarting (s.linesChanged ls) := by
  have unmoved : ls.foldl State.seqLineChange s = s :=
    foldl_keeps (· = s) _ _ _ rfl fun t l ht => by simp [ht, State.seqLineChange, idle]
  unfold State.linesChanged
  split
  · exact .of_locks rfl rfl rfl rfl
  · rw [unmoved]
    exact matrixJudge_stillStarting _ h

end Sys2Proof.Machine

namespace Sys2Proof.Machine

/-! ### The event that completes the image (R16, R19, R65) -/

theorem startDecision_recovered (s : State) : s.startDecision.recoveredAtStart = s.lineSet .d3 := by
  unfold State.startDecision
  split <;> simp_all

@[simp] theorem State.judgeRoll_locks (s : State) : s.judgeRoll.matrix.locks = s.matrix.locks := rfl

@[simp] theorem State.setMode_locks (s : State) (m : AppMode) : (s.setMode m).matrix.locks = s.matrix.locks := by
  simp only [State.setMode, State.clearOverspeed]
  repeat' split
  all_goals simp

/-- The state in which the matrix judges as it leaves START: the roll-speed state judged, the mode set and handed on. -/
def State.leaving (s : State) (m : AppMode) : State := (s.judgeRoll.setMode m).handMode

@[simp] theorem leaving_frame (s : State) (m : AppMode) :
    (s.leaving m).config = s.config ∧ (s.leaving m).image = s.image ∧ (s.leaving m).tanks = s.tanks ∧
    (s.leaving m).seq = s.seq ∧ (s.leaving m).recoveredAtStart = s.recoveredAtStart ∧
    (s.leaving m).matrix.mode = m ∧ (s.leaving m).matrix.throttleMode = throttleModeOf m ∧
    (s.leaving m).matrix.locks = s.matrix.locks := by
  simp [State.leaving]

theorem leaveStart_of_start {s : State} (h : s.matrix.mode = .start) :
    s.leaveStart = (s.leaving (modeOf s.seq.state s.seq.path)).matrixJudge fun _ => true := by
  unfold State.leaveStart State.enterMode
  rw [if_neg (by rw [State.judgeRoll_mode, h]; exact modeOf_ne_start _ _)]
  rfl

/-- What the end of START leaves of the part, the roll-speed state apart (R19, R65). -/
def State.StartEnds (s t : State) : Prop :=
  t.recoveredAtStart = t.lineSet .d3 ∧
  t.seq = (if t.lineSet .d3 = true then { s.seq with state := .held, path := .split, reason := none } else s.seq) ∧
  t.matrix.mode = (if t.lineSet .d3 = true then .faultHold else .road) ∧ t.matrix.throttleMode = .none ∧
  t.matrix.cap = 0 ∧ (∀ p, t.matrix.permits.get p = t.permitHeld p) ∧
  ∀ i e, s.config.entries.get i = some e → (s.matrix.locks.get i).state = .clear →
    (t.matrix.locks.get i).state =
      (if t.lineSet .d3 = false ∧ e.armed.getLsbD 0 = true ∧ t.lockCondition e.cond = true then
        (if e.delay = 0 then .tripped else .pending) else .clear)

/-- A CLEAR entry as START ends: armed where ROAD begins and ROAD is among its modes (R29, R31). -/
theorem leaving_lock {s : State} {m : AppMode} {d3 : Bool} (hm : m = if d3 then .faultHold else .road) {i : EntryIx}
    {e : LockoutEntry} (he : s.config.entries.get i = some e) (clear : (s.matrix.locks.get i).state = .clear) :
    (s.leaving m).lockAfter (fun _ => true) i =
      if d3 = false ∧ e.armed.getLsbD 0 = true ∧ (s.leaving m).lockCondition e.cond = true then
        (if e.delay = 0 then .tripped else .pending) else .clear := by
  have armed : (s.leaving m).armed e = (!d3 && e.armed.getLsbD 0) := by
    cases d3 <;> simp [State.armed, hm, AppMode.code]
  simp only [State.lockAfter, leaving_frame, he, armed, clear, lockNext]
  cases d3 <;> simp

/-- The start-up decision and the end of START, from a state in which START has lasted (R19, R65). -/
theorem startEnds {s : State} (h : s.PhaseLaw) (hc : s.image.complete = false) :
    s.StartEnds s.completed.startDecision.leaveStart := by
  obtain ⟨start, idle⟩ := h.1 hc
  have d3 : s.completed.lineSet .d3 = s.lineSet .d3 := by simp [State.lineSet]
  have seq : s.completed.startDecision.seq =
      if s.lineSet .d3 = true then { s.seq with state := .held, path := .split, reason := none } else s.seq := by
    simp [d3]
  have mode : modeOf s.completed.startDecision.seq.state s.completed.startDecision.seq.path =
      if s.lineSet .d3 = true then .faultHold else .road := by
    rw [seq]
    split
    · rfl
    · rw [idle]
      rfl
  rw [leaveStart_of_start (by simpa using start), mode]
  generalize hm : (if s.lineSet .d3 = true then AppMode.faultHold else .road) = m
  have set : ((s.completed.startDecision.leaving m).matrixJudge fun _ => true).lineSet .d3 = s.lineSet .d3 := by
    simp [State.lineSet]
  have throttle : throttleModeOf m = .none ∧ (m = .road ∨ m = .faultHold) := by
    rw [← hm]
    split <;> simp [throttleModeOf]
  refine ⟨?_, ?_, ?_, ?_, ?_, fun p => matrixJudge_permits _ _ p, fun i e he clear => ?_⟩
  · rw [set]
    simpa [d3] using startDecision_recovered s.completed
  · rw [set]
    simpa using seq
  · rw [set, hm]
    simp
  · simpa using throttle.1
  · exact matrixJudge_cap_zero _ (by simpa using throttle.2)
  · rw [set, lockCondition_congr (s := s.completed.startDecision.leaving m) e.cond (by simp) (by simp),
      matrixJudge_locks, judgeLocks_state]
    exact leaving_lock hm.symm (by simpa using he) (by simpa using clear)

theorem State.StartEnds.of_still {s t u : State} (h : s.StillStarting t) (ends : t.StartEnds u) : s.StartEnds u := by
  obtain ⟨seq, config, -, locks⟩ := h
  obtain ⟨recovered, useq, mode, throttle, cap, permits, entries⟩ := ends
  exact ⟨recovered, by rw [useq, seq], mode, throttle, cap, permits, fun i e he clear =>
    entries i e (by rw [config, he]) (locks i clear)⟩

theorem State.StartEnds.kick {s t : State} (h : s.StartEnds t) : s.StartEnds t.kick := by
  rw [State.kick_eq]
  exact h

/-- An event that ends in the judgement of completeness, after START has lasted through what it did before. -/
theorem judgeComplete_startEnds {s t : State} (still : s.StillStarting t) (phase : t.PhaseLaw)
    (tc : t.image.complete = false) (done : t.judgeComplete.image.complete = true) :
    s.StartEnds t.judgeComplete := by
  have measured : t.image.allMeasured = true := by simpa [tc] using done
  rw [judgeComplete_of_measured tc measured]
  exact .of_still still (startEnds phase tc)

/-- An event that ends in the judgement of completeness and finds the image complete judges the roll-speed state. -/
theorem judgeComplete_started_roll {s t : State} (config : t.config = s.config) (roll : t.matrix.roll = s.matrix.roll)
    (tc : t.image.complete = false) (done : t.judgeComplete.image.complete = true) :
    t.judgeComplete.matrix.roll = rollNext s.config.rollCeiling t.judgeComplete.image.v s.matrix.roll := by
  have measured : t.image.allMeasured = true := by simpa [tc] using done
  rw [judgeComplete_roll, if_neg (by simp [tc, measured]), config, roll]
  simp

/-- The four events that measure (R16): of each that completes the image, what it leaves of the part. -/
theorem measuring_startEnds {c : Instr} {f : State → State} (e : eventOf c = some f) {s : State} (h : s.PhaseLaw)
    (hc : s.image.complete = false) (done : (f s).image.complete = true) :
    s.StartEnds (f s) ∧ (f s).matrix.roll = rollNext s.config.rollCeiling (f s).image.v s.matrix.roll := by
  obtain ⟨start, idle⟩ := h.1 hc
  have unmoved : (f s).image.complete = s.image.complete → False := by simp [done, hc]
  rcases eventOf_cases e with same | rfl | rfl | ⟨m, rfl⟩ | ⟨raw, rfl⟩ | ⟨st, w, fault, -, rfl⟩ | rfl | rfl | rfl
  · exact (unmoved (same s).1).elim
  · have gate : s.engineGated.seqEngineGate = s.engineGated := by
      simp [State.seqEngineGate, idle]
    rw [engineGateEnd_eq, gate] at done ⊢
    have gated : s.StillStarting s.engineGated := .of_locks rfl rfl rfl rfl
    exact ⟨judgeComplete_startEnds (gated.trans (matrixJudge_stillStarting _ start))
        (matrixJudge_phase _ (engineGated_phase h)) (by simpa using hc) done,
      judgeComplete_started_roll (by simp) (by simp) (by simpa using hc) done⟩
  · have judged : s.roadJudged = s.roadGated.judgeRoll.judgeOverspeed.matrixJudge onRoadSpeed := by
      simp [State.roadJudged, State.seqRoadGate, idle]
    refine ⟨?_, by rw [roadGateEnd_roll]; simp⟩
    have gated : s.StillStarting s.roadGated.judgeRoll.judgeOverspeed :=
      .of_locks (by simp) (by simp) (by simp) (by simp)
    have still : s.StillStarting s.roadJudged := by
      rw [judged]
      exact gated.trans (matrixJudge_stillStarting _ (gated.2.2.1.trans start))
    have phase : s.roadJudged.PhaseLaw := by
      rw [judged]
      exact matrixJudge_phase _ ((roadGated_samePhase s).phaseLaw h)
    rw [roadGateEnd_judged] at done ⊢
    exact judgeComplete_startEnds (still.trans (tanksAtRoadGate_stillStarting _ (still.2.2.1.trans start)))
      (tanksAtRoadGate_phase _ phase) (by simpa using hc) done
  · exact ⟨judgeComplete_startEnds (t := s.flowGated m) (.of_locks rfl rfl rfl rfl)
        (State.SamePhase.phaseLaw (.of_image rfl rfl rfl rfl) h) hc done,
      judgeComplete_started_roll (t := s.flowGated m) rfl rfl hc done⟩
  · have sampled : s.StillStarting (s.linesSampled raw (s.changedLines raw)) :=
      .of_locks (by simp) (by simp) (by simp) (by simp)
    have roll (t : State) (idle : t.seq.state = .idle) (ls : List Line) :
        (t.linesChanged ls).matrix.roll = t.matrix.roll := by
      have unmoved : ls.foldl State.seqLineChange t = t :=
        foldl_keeps (· = t) _ _ _ rfl fun u l hu => by simp [hu, State.seqLineChange, idle]
      unfold State.linesChanged
      split
      · rfl
      · simp [unmoved]
    dsimp only at done ⊢
    rw [lineSample_eq] at done ⊢
    exact ⟨judgeComplete_startEnds
        (sampled.trans (linesChanged_stillStarting _ (by simpa using start) (by simpa using idle)))
        (linesChanged_phase _ (linesSampled_phase raw _ h)) (by simpa using hc) done,
      judgeComplete_started_roll (by simp) (by rw [roll _ (by simpa using idle)]; simp) (by simpa using hc) done⟩
  · exact (unmoved (by simp)).elim
  · exact (unmoved (by simp)).elim
  · exact (unmoved (by simp)).elim
  · exact (unmoved (by simp)).elim

/-- No request completes the image. -/
theorem answerKind_complete (kind : Byte) (p : List Byte) (s : State) :
    (answerKind kind p s).1.image.complete = s.image.complete := by
  rcases answerKind_cases kind p with e | e | e | same
  · simp [e]
  · simp [e]
  · simp [e]
  · exact (same s).1

/-- The command that completes the image is one of the four events that measure (R16). -/
theorem exec_completes {c : Instr} {s t : State} (hc : s.image.complete = false) (e : exec c s = .next t)
    (done : t.image.complete = true) : ∃ f, eventOf c = some f ∧ t = (f s).kick ∧ (f s).image.complete = true := by
  rcases hf : eventOf c with _ | f
  · have kept : t.image.complete = false :=
      exec_keeps (P := fun s => s.image.complete = false) (fun _ _ _ h => h) (fun _ _ _ => rfl)
        (fun kind p s h => (answerKind_complete kind p s).trans h) (fun f e => by simp [hf] at e) hc e
    simp [kept] at done
  · have t_eq : t = (f s).kick := Host.Outcome.next.inj (e.symm.trans (exec_event hf s))
    exact ⟨f, rfl, t_eq, by simpa [t_eq] using done⟩

/-- Settles O33: `sample_step` line by line, and `measuring_startEnds` for the event that completes the image. -/
theorem lineSampleFiltersEveryLine : Obligations.LineSampleFiltersEveryLine := by
  refine ⟨fun raw s => ⟨s.lineSample raw, rfl, ?_, fun l => ?_, ?_, fun hc quiet => ?_⟩, fun c s t h hc e done => ?_⟩
  · ext1 <;> simp
  · simpa [State.sampleLines, rawLevel] using sample_step (s.image.lines.get l) _ _
  · rw [State.lineSample_image]
    rfl
  · have unchanged : s.changedLines raw = [] := by
      rw [State.changedLines, List.filter_eq_nil_iff]
      intro l _
      have q := quiet l
      rw [State.lineSample_image] at q
      rcases q with q | q <;> simp [lineChanged, q]
    rw [lineSample_quiet hc unchanged]
    exact ⟨rfl, rfl, rfl, rfl, rfl⟩
  · obtain ⟨f, ef, rfl, fdone⟩ := exec_completes hc e done
    obtain ⟨ends, roll⟩ := measuring_startEnds ef h hc fdone
    obtain ⟨recovered, seq, mode, throttle, cap, permits, entries⟩ := ends.kick
    refine ⟨recovered, seq, mode, throttle, cap, ?_, permits, entries⟩
    rw [(State.kick_frame _).2.2.2.2.2.1, (State.kick_frame _).2.2.2.2.1, roll]
    cases s.matrix.roll <;> rfl

end Sys2Proof.Machine

/-! # The INPUTS request (R15, R155) -/

namespace Sys2Proof.Machine

/-! ### Numbers in bytes and their reading -/

/-- The first byte of two, most significant first. -/
def hiByte (n : Nat) : Byte := BitVec.ofNat 8 (n / 256)

/-- The second byte of two. -/
def loByte (n : Nat) : Byte := BitVec.ofNat 8 n

theorem readU16_u16 (n : Nat) : readU16 (hiByte n) (loByte n) = n % 65536 := by
  simp only [readU16, hiByte, loByte, BitVec.toNat_ofNat]
  omega

/-- Two bytes of a number that fits them read as the number. -/
theorem readU16_of_lt {n : Nat} (h : n < 65536) : readU16 (hiByte n) (loByte n) = n := by
  rw [readU16_u16, Nat.mod_eq_of_lt h]

theorem natOfBytes_u16 (n : Nat) : natOfBytes (u16 n) = n % 65536 := by
  simp only [natOfBytes, u16, List.foldl, BitVec.toNat_ofNat]
  omega

theorem natOfBytes_u24 (n : Nat) : natOfBytes (u24 n) = n % 16777216 := by
  simp only [natOfBytes, u24, u16, List.foldl, BitVec.toNat_ofNat]
  omega

theorem natOfBytes_u32 (n : Nat) : natOfBytes (u32 n) = n % 4294967296 := by
  simp only [natOfBytes, u32, u16, List.cons_append, List.nil_append, List.foldl, BitVec.toNat_ofNat]
  omega

theorem natOfBytes_word (w : BitVec 32) : natOfBytes (u32 w.toNat) = w.toNat := by
  rw [natOfBytes_u32, Nat.mod_eq_of_lt w.isLt]

/-- The number whose two bytes show a signed value, -32768 where it is absent (R15). -/
def fieldOf (v : Option Int) : Nat := (v.getD (-32768) % 65536).toNat

theorem optI16_eq (v : Option Int) : optI16 v = u16 (fieldOf v) := by
  cases v <;> rfl

theorem readI16_fieldOf {v : Option Int} (low : -32768 ≤ v.getD (-32768)) (high : v.getD (-32768) < 32768) :
    readI16 (hiByte (fieldOf v)) (loByte (fieldOf v)) = v.getD (-32768) := by
  simp only [readI16, readU16_u16, fieldOf]
  split <;> omega

/-- The field reads as the value, where two bytes can hold it, and as -32768 where the value is absent. -/
theorem fieldOf_spec (v : Option Int) :
    let field := readI16 (hiByte (fieldOf v)) (loByte (fieldOf v))
    (∀ x, v = some x → -32768 ≤ x → x < 32768 → field = x) ∧ (v = none → field = -32768) := by
  refine ⟨?_, ?_⟩
  · rintro x rfl low high
    exact readI16_fieldOf low high
  · rintro rfl
    exact readI16_fieldOf (by simp) (by simp)

/-! ### Sets of codes as numbers -/

theorem bitSet_testBit (codes : List Nat) (k : Nat) : (bitSet codes).testBit k = decide (k ∈ codes) := by
  have from_any (m : Nat) : (codes.foldl (fun m k => m ||| 2 ^ k) m).testBit k = (m.testBit k || decide (k ∈ codes)) := by
    induction codes generalizing m with
    | nil => simp
    | cons c cs ih => simp [ih, Nat.testBit_or, Nat.testBit_two_pow, Bool.or_assoc, eq_comm]
  simp [bitSet, from_any]

theorem packBits_testBit (bs : List Bool) (k : Nat) : (packBits bs).testBit k = bs.getD k false := by
  rw [packBits, bitSet_testBit, List.getD_eq_getElem?_getD, Bool.eq_iff_iff, decide_eq_true_iff]
  simp only [List.mem_map, List.mem_filter, Prod.exists, List.mem_zipIdx_iff_getElem?]
  cases h : bs[k]? <;> simp [h]

/-- Flags packed in one byte stand there bit by bit. -/
theorem flags_getLsbD (bs : List Bool) {k : Nat} (h : k < 8) :
    (loByte (packBits bs)).getLsbD k = bs.getD k false := by
  rw [loByte, BitVec.getLsbD_ofNat, packBits_testBit, decide_eq_true h, Bool.true_and]

/-! ### The two records -/

/-- The number that the SIGNALS part shows of the lines' states, a digit to base 4 for each (R155). -/
def InputImage.lineCodes (im : InputImage) : Nat :=
  (Line.all.map fun l => (im.lines.get l).state.code * 4 ^ lineNo l).sum

/-- The set of the lines whose change latch stands, as the SIGNALS part shows it (R155). -/
def InputImage.latchBits (im : InputImage) : Nat := packBits (Line.all.map fun l => (im.lines.get l).latch)

theorem lineStateCode_lt (l : LineState) : l.code < 4 := by
  cases l <;> decide

theorem lineCodes_eq (im : InputImage) :
    im.lineCodes = Nat.ofDigits 4 (Line.all.map fun l => (im.lines.get l).state.code) := by
  rw [Nat.ofDigits_eq_sum_mapIdx]
  rfl

theorem natOfBytes_lineCodes (im : InputImage) (l : Line) :
    natOfBytes (u24 im.lineCodes) / 4 ^ lineNo l % 4 = (im.lines.get l).state.code := by
  have digits : ∀ d ∈ Line.all.map fun l => (im.lines.get l).state.code, d < 4 := by
    simp only [List.mem_map]
    rintro d ⟨l, -, rfl⟩
    exact lineStateCode_lt _
  have fits : im.lineCodes < 16777216 := by
    simpa [lineCodes_eq, Line.all] using Nat.ofDigits_lt_base_pow_length (by decide) digits
  rw [natOfBytes_u24, Nat.mod_eq_of_lt fits, lineCodes_eq, Nat.ofDigits_div_pow_eq_ofDigits_drop _ (by decide) _ digits,
    Nat.ofDigits_mod_eq_head!, ← Nat.mod_eq_of_lt (lineStateCode_lt (im.lines.get l).state)]
  cases l <;> rfl

theorem natOfBytes_latchBits (im : InputImage) (l : Line) :
    (natOfBytes (u16 im.latchBits)).testBit (lineNo l) = (im.lines.get l).latch := by
  rw [natOfBytes_u16, show 65536 = 2 ^ 16 from rfl, Nat.testBit_mod_two_pow, InputImage.latchBits, packBits_testBit]
  cases l <;> rfl

/-- The SIGNALS part byte by byte (R15, R155). -/
theorem signalsRecord_eq (s : State) : s.signalsRecord =
    let im := s.image
    let value (ch : LevelIx) := fieldOf (im.levels.get ch).chan.value
    let status (ch : LevelIx) := loByte (im.levels.get ch).chan.status.code
    [hiByte (fieldOf im.a0.value), loByte (fieldOf im.a0.value), hiByte (fieldOf im.a1.value),
      loByte (fieldOf im.a1.value), hiByte (fieldOf im.a2.value), loByte (fieldOf im.a2.value),
      hiByte (value .a3), loByte (value .a3), hiByte (value .a4), loByte (value .a4), hiByte (value .a5),
      loByte (value .a5), hiByte (value .a6), loByte (value .a6), hiByte (value .a7), loByte (value .a7),
      loByte im.a0.status.code, loByte im.a1.status.code, loByte im.a2.status.code,
      status .a3, status .a4, status .a5, status .a6, status .a7,
      loByte (im.lineCodes / 65536), hiByte im.lineCodes, loByte im.lineCodes, hiByte im.latchBits, loByte im.latchBits,
      hiByte im.n, loByte im.n, hiByte im.v, loByte im.v,
      hiByte im.meters.dis.flow, loByte im.meters.dis.flow, hiByte im.meters.fill.flow, loByte im.meters.fill.flow,
      loByte (packBits [im.meters.dis.flowOver, im.meters.fill.flowOver, im.complete])] := by
  simp only [State.signalsRecord, InputImage.channels, optI16_eq]
  rfl

theorem signalsRecord_length (s : State) : s.signalsRecord.length = 38 := by
  rw [signalsRecord_eq]
  rfl

theorem signalsRecord_slices (s : State) :
    (s.signalsRecord.drop 16).take 3 =
      [loByte s.image.a0.status.code, loByte s.image.a1.status.code, loByte s.image.a2.status.code] ∧
    (s.signalsRecord.drop 24).take 3 = u24 s.image.lineCodes ∧
    (s.signalsRecord.drop 27).take 2 = u16 s.image.latchBits := by
  rw [signalsRecord_eq]
  exact ⟨rfl, rfl, rfl⟩

theorem signalsRecord_level (s : State) (ch : LevelIx) :
    s.signalsRecord.getD (2 * levelNo ch) 0 = hiByte (fieldOf (s.image.levels.get ch).chan.value) ∧
    s.signalsRecord.getD (2 * levelNo ch + 1) 0 = loByte (fieldOf (s.image.levels.get ch).chan.value) ∧
    s.signalsRecord.getD (16 + levelNo ch) 0 = loByte (s.image.levels.get ch).chan.status.code := by
  rw [signalsRecord_eq]
  cases ch <;> exact ⟨rfl, rfl, rfl⟩

/-- The state that the SIGNALS part leaves: every change latch cleared where the flag asks for it (R15). -/
def State.afterSignals (clear : Byte) (s : State) : State := if clear = 0 then s else s.clearLatches

theorem afterSignals_image (clear : Byte) (s : State) :
    s.afterSignals clear = { s with image := { s.image with lines := (s.afterSignals clear).image.lines } } := by
  unfold State.afterSignals
  split <;> rfl

theorem afterSignals_line (clear : Byte) (s : State) (l : Line) : (s.afterSignals clear).image.lines.get l =
    if clear = 0 then s.image.lines.get l else { s.image.lines.get l with latch := false } := by
  unfold State.afterSignals
  split <;> simp [State.clearLatches]

theorem metersRecord_eq (s : State) : s.metersRecord =
    u32 s.image.meters.dis.total.toNat ++ u32 s.image.meters.dis.litres.toNat ++ u16 s.image.meters.dis.remainder ++
    (u32 s.image.meters.fill.total.toNat ++ u32 s.image.meters.fill.litres.toNat ++
      u16 s.image.meters.fill.remainder) := rfl

/-! ### The request -/

theorem unknownItem_byte (b : Byte) : unknownItem b.toNat = .refused .unknownItem 0 b 0 := by
  have high : b.toNat / 256 = 0 := Nat.div_eq_of_lt b.isLt
  simp [unknownItem, high]

/-- The answer of INPUTS leaves the link port to the frame, so the command leaves what the request made and its reply. -/
theorem exec_inputs {tag part clear : Byte} {s : State} (listening : s.listening = true) :
    exec (.inputs tag [part, clear]) s =
      .next (((answerInputs [part, clear] s).1).answered 0x04 tag (answerInputs [part, clear] s).2) := by
  have e : exec (.inputs tag [part, clear]) s = .next (s.onFrame 0x04 tag (answerInputs [part, clear])) := rfl
  rw [e, onFrame_answered _ _ _ listening (by simp)]
  simp only [answerInputs]
  split_ifs <;> rfl

/-- Settles O35: each field of the two records (`signalsRecord_eq`, `metersRecord_eq`) read back from its place. -/
theorem inputsReadsTheImage : Obligations.InputsReadsTheImage := by
  intro tag part clear s listening
  rw [exec_inputs listening]
  refine ⟨?_, ?_, fun other => ?_⟩
  · rintro rfl
    refine ⟨s.signalsRecord, s.afterSignals clear, rfl, signalsRecord_length s, afterSignals_image _ _,
      afterSignals_line _ _, ?_⟩
    obtain ⟨statuses, codes, latches⟩ := signalsRecord_slices s
    have level (ch : LevelIx) := signalsRecord_level s ch
    have shown (v : Option Int) {x : Int} (h : v = some x) := (fieldOf_spec v).1 x h
    have absent (v : Option Int) := (fieldOf_spec v).2
    rw [statuses, codes, latches]
    simp only [level]
    simp only [signalsRecord_eq, List.getD_cons_succ, List.getD_cons_zero]
    exact ⟨fun _ => shown _, absent _, fun _ => shown _, absent _, fun _ => shown _, absent _,
      fun ch => ⟨fun _ => shown _, absent _, rfl⟩, rfl, natOfBytes_lineCodes s.image, natOfBytes_latchBits s.image,
      readU16_of_lt, readU16_of_lt, readU16_of_lt, readU16_of_lt, flags_getLsbD _ (by decide),
      flags_getLsbD _ (by decide), flags_getLsbD _ (by decide)⟩
  · rintro rfl
    refine ⟨s.metersRecord, rfl, ?_⟩
    rw [metersRecord_eq]
    exact ⟨rfl, natOfBytes_word _, natOfBytes_word _, readU16_of_lt, natOfBytes_word _, natOfBytes_word _, readU16_of_lt⟩
  · have neither : part ≠ 0#8 ∧ part ≠ 1#8 := by
      constructor <;> rintro rfl <;> simp at other
    simp [answerInputs, neither, State.reads, unknownItem_byte]

end Sys2Proof.Machine

/-! # The working configuration: what a request or the store's loading may write into it (R36, R116, R162, R167, R169) -/

namespace Sys2Proof.Machine

/-! ### Ranges -/

theorem paramRange_le (p : Param) : (paramRange p).1 ≤ (paramRange p).2 := by
  cases p <;> simp [paramRange]

/-- A value is its own clamp exactly where it lies in the parameter's range. -/
theorem paramClamp_eq_self {p : Param} {x : Int} :
    paramClamp p x = x ↔ (paramRange p).1 ≤ x ∧ x ≤ (paramRange p).2 := by
  have := paramRange_le p
  unfold paramClamp clampInt
  split_ifs <;> omega

theorem paramClamp_range (p : Param) (x : Int) :
    (paramRange p).1 ≤ paramClamp p x ∧ paramClamp p x ≤ (paramRange p).2 := by
  have := paramRange_le p
  unfold paramClamp clampInt
  split_ifs <;> omega

/-- Only the cavitation threshold may be negative, and report-on-change is 0 or 1 (R168). -/
theorem setParam_param_self (c : WorkingConfig) {p : Param} {x : Int} (lo : (paramRange p).1 ≤ x)
    (hi : x ≤ (paramRange p).2) : (c.setParam p x).param p = x := by
  cases p
  case cavThreshold => rfl
  case reportOnChange l =>
    have bits : x = 0 ∨ x = 1 := by
      simp only [paramRange] at lo hi
      omega
    rcases bits with rfl | rfl <;> simp [WorkingConfig.param, WorkingConfig.setParam, bit]
  case filterCount l =>
    simp only [paramRange] at lo
    simp only [WorkingConfig.param, WorkingConfig.setParam, PerLine.get_set_self]
    omega
  all_goals
    simp only [paramRange] at lo
    simp only [WorkingConfig.param, WorkingConfig.setParam]
    omega

theorem setParam_param_ne (c : WorkingConfig) {p q : Param} (x : Int) (h : q ≠ p) :
    (c.setParam p x).param q = c.param q := by
  cases p
  case filterCount l =>
    cases q
    case filterCount k =>
      have apart : k ≠ l := fun e => h (congrArg _ e)
      simp [WorkingConfig.param, WorkingConfig.setParam, PerLine.get_set_ne _ _ apart]
    all_goals rfl
  case reportOnChange l =>
    cases q
    case reportOnChange k =>
      have apart : k ≠ l := fun e => h (congrArg _ e)
      simp [WorkingConfig.param, WorkingConfig.setParam, PerLine.get_set_ne _ _ apart]
    all_goals rfl
  all_goals
    cases q
    all_goals first | rfl | exact absurd rfl h

@[simp] theorem setParam_frame (c : WorkingConfig) (p : Param) (x : Int) :
    (c.setParam p x).entries = c.entries ∧ (c.setParam p x).tanks = c.tanks ∧ (c.setParam p x).gates = c.gates := by
  cases p <;> exact ⟨rfl, rfl, rfl⟩

/-- A present entry in order: armed in some mode, with some effect, its operands in range (R29, R36). -/
def LockoutEntry.InRange (e : LockoutEntry) : Prop := e.armed ≠ 0 ∧ e.effects ≠ 0 ∧ clampEntry e = e

/-- Clamping twice is clamping once. -/
theorem clampEntry_clampEntry (e : LockoutEntry) : clampEntry (clampEntry e) = clampEntry e := by
  cases e with
  | mk cond armed effects latching delay => cases cond <;> simp [clampEntry]

theorem clampEntry_inRange {e : LockoutEntry} (armed : e.armed ≠ 0) (effects : e.effects ≠ 0) :
    (clampEntry e).InRange := ⟨armed, effects, clampEntry_clampEntry e⟩

theorem setWidth_ne_zero {w n : Nat} {b : BitVec n} (nonzero : b ≠ 0) (small : b.toNat < 2 ^ w) : b.setWidth w ≠ 0 := by
  intro h
  apply nonzero
  have value := congrArg BitVec.toNat h
  rw [BitVec.toNat_setWidth, Nat.mod_eq_of_lt small] at value
  exact BitVec.eq_of_toNat_eq (by simpa using value)

/-- An entry that passes the structural checks names a mode and an effect (R36, R156). -/
theorem readEntry_present {kind hi lo op2 modes effects latching dhi dlo : Byte} {e : LockoutEntry}
    (h : readEntry kind hi lo op2 modes effects latching dhi dlo = .present e) : e.armed ≠ 0 ∧ e.effects ≠ 0 := by
  unfold readEntry at h
  split at h
  · cases h
  split at h
  · cases h
  · split_ifs at h with badModes badEffects badLatching
    cases h
    obtain ⟨armed, modesSmall⟩ := not_or.1 badModes
    obtain ⟨named, effectsSmall⟩ := not_or.1 badEffects
    exact ⟨setWidth_ne_zero armed (by omega), setWidth_ne_zero named (by omega)⟩

/-! ### What may be written -/

/-- One write into the working configuration that keeps it in range. -/
inductive WorkingConfig.Write (c : WorkingConfig) : WorkingConfig → Prop
  /-- The gates, class 0 open (R162). -/
  | gates (g : BitVec 6) (zero : g.getLsbD 0 = true) : c.Write { c with gates := g }
  /-- A lockout entry made absent, or one in order (R36). -/
  | entry (i : EntryIx) (new : Option LockoutEntry) (inRange : ∀ e, new = some e → e.InRange) :
    c.Write { c with entries := c.entries.set i new }
  /-- A tank record consistent where the one it replaces was (R116, R125, R127). -/
  | tank (t : TankIx) (x : TankSettings) (consistent : tankConsistent t (c.tanks.get t) = true → tankConsistent t x = true) :
    c.Write (c.setTank t x)
  /-- A parameter clamped to its range (R167, R169). -/
  | param (p : Param) (x : Int) : c.Write (c.setParam p (paramClamp p x))

theorem WorkingConfig.Write.inRange {c d : WorkingConfig} (w : c.Write d) (h : c.InRange) : d.InRange := by
  obtain ⟨params, entries, tanks, gates⟩ := h
  cases w with
  | gates g zero => exact ⟨fun p => by cases p <;> exact params _, entries, tanks, zero⟩
  | entry i new inRange =>
    refine ⟨fun p => by cases p <;> exact params _, fun j e he => ?_, tanks, gates⟩
    rw [PerEntry.get_set] at he
    split_ifs at he with hj
    · exact inRange e he
    · exact entries j e he
  | tank t x consistent =>
    refine ⟨fun p => by cases p <;> exact params _, entries, fun u => ?_, gates⟩
    simp only [WorkingConfig.setTank, PerTank.get_set]
    split_ifs with hu
    · rw [hu]
      exact consistent (tanks t)
    · exact tanks u
  | param p x =>
    obtain ⟨lo, hi⟩ := paramClamp_range p x
    refine ⟨fun q => ?_, by simpa using entries, by simpa [WorkingConfig.TanksConsistent] using tanks, by simpa using gates⟩
    by_cases hq : q = p
    · rw [hq, setParam_param_self c lo hi]
      exact paramClamp_eq_self.2 ⟨lo, hi⟩
    · rw [setParam_param_ne c _ hq]
      exact params q

/-! ### Tank records -/

/-- A table in order for one capacity is so for another that no breakpoint's volume is above (R125, R127). -/
theorem firstOffender_of_firstOver {k l : Nat} {table : List Breakpoint} (fit : firstOver l table = none)
    {before : Option Breakpoint} {i : Nat} (h : firstOffender k before i table = none) :
    firstOffender l before i table = none := by
  induction table generalizing before i with
  | nil => rfl
  | cons b rest ih =>
    have small : ∀ x ∈ b :: rest, x.volume ≤ l := by
      simpa [firstOver, List.findIdx?_eq_none_iff] using fit
    have fits : ¬ l < b.volume := Nat.not_lt.2 (small b (by simp))
    have later : firstOver l rest = none := by
      simpa [firstOver, List.findIdx?_eq_none_iff] using fun x hx => small x (List.mem_cons_of_mem b hx)
    unfold firstOffender at h ⊢
    by_cases bad : offends k before b = true
    · simp [bad] at h
    · have fine : offends l before b = false := by
        simp only [offends, Bool.or_eq_true, not_or, Bool.not_eq_true] at bad
        obtain ⟨⟨level, -⟩, order⟩ := bad
        simp only [offends, level, order, decide_eq_false fits, Bool.or_false]
      rw [if_neg (by simp [bad])] at h
      rw [if_neg (by simp [fine])]
      exact ih later h

theorem clampNat_range {lo hi : Nat} (h : lo ≤ hi) (x : Nat) : lo ≤ clampNat lo hi x ∧ clampNat lo hi x ≤ hi := by
  unfold clampNat
  split_ifs <;> omega

/-- The structural checks of TANK_SET, as they bear on consistency (R116, R125). -/
theorem readTankSettings_ok {t : TankIx} {role chi clo fore aft outM inM ehi elo rhi rlo fhi flo tol : Byte}
    {c : TankSettings} (h : readTankSettings t role chi clo fore aft outM inM ehi elo rhi rlo fhi flo tol = .ok c) :
    roleAllowed t c.role = true ∧ c.aft ≠ some c.fore ∧ (t = .t0 ∨ c.outMeter = false ∧ c.inMeter = false) := by
  unfold readTankSettings at h
  split at h
  · cases h
  split_ifs at h with badRole
  split at h
  · cases h
  split at h
  · cases h
  split_ifs at h with sameChannel
  split at h
  · cases h
  split_ifs at h with badOut
  split at h
  · cases h
  split_ifs at h with badIn
  cases h
  refine ⟨by simpa using badRole, sameChannel, ?_⟩
  by_cases ht : t = .t0
  · exact .inl ht
  · exact .inr (by simpa [ht] using And.intro badOut badIn)

theorem tankConsistent_iff {t : TankIx} {c : TankSettings} : tankConsistent t c = true ↔
    roleAllowed t c.role = true ∧ (100 ≤ c.capacity ∧ c.capacity ≤ 20000) ∧ c.aft ≠ some c.fore ∧
    (t = .t0 ∨ c.outMeter = false ∧ c.inMeter = false) ∧ thresholdsOk c = true ∧
    (1 ≤ c.tolerance ∧ c.tolerance ≤ 20) ∧ (2 ≤ c.table.length ∧ c.table.length ≤ 16) ∧
    firstOffender c.capacity none 0 c.table = none := by
  simp [tankConsistent, and_assoc]

end Sys2Proof.Machine

/-! # The working configuration stays in range, and a busy store keeps it (R36, R116, R125, R127, R162, R166, R169) -/

namespace Sys2Proof.Machine

/-! ### The requests that write it -/

/-- A request left the configuration alone, or the store was not busy and the request made one write. -/
def State.WritesOrKeeps (s t : State) : Prop :=
  t.config = s.config ∨ (s.storeBusy = false ∧ s.config.Write t.config)

theorem State.WritesOrKeeps.refl (s : State) : s.WritesOrKeeps s := .inl rfl

theorem answerGate_writes (p : List Byte) (s : State) : s.WritesOrKeeps (answerGate p s).1 := by
  unfold answerGate
  repeat' split
  case isFalse.isFalse free => exact .inr ⟨by simpa using free, .gates _ (by simp)⟩
  all_goals exact .refl s

theorem lockoutSet_writes (s : State) (i : EntryIx) {e : Option LockoutEntry}
    (inOrder : ∀ x, e = some x → x.armed ≠ 0 ∧ x.effects ≠ 0) : s.WritesOrKeeps (s.lockoutSet i e).1 := by
  unfold State.lockoutSet
  repeat' split
  case isFalse.isFalse free atRest =>
    have written : (s.writeEntry i (e.map clampEntry)).config =
        { s.config with entries := s.config.entries.set i (e.map clampEntry) } := by
      simp only [State.writeEntry]
      split <;> simp
    refine .inr ⟨by simpa using free, ?_⟩
    rw [written]
    refine .entry i _ fun x hx => ?_
    obtain ⟨y, hy, rfl⟩ := Option.map_eq_some_iff.1 hx
    obtain ⟨armed, effects⟩ := inOrder y hy
    exact clampEntry_inRange armed effects
  all_goals exact .refl s

theorem answerLockoutSet_writes (p : List Byte) (s : State) : s.WritesOrKeeps (answerLockoutSet p s).1 := by
  unfold answerLockoutSet
  repeat' split
  · exact .refl s
  · exact .refl s
  · exact lockoutSet_writes s _ nofun
  · next h =>
    refine lockoutSet_writes s _ fun x hx => ?_
    cases hx
    exact readEntry_present h
  · exact .refl s

@[simp] theorem State.configureTank_config (s : State) (t : TankIx) (c : TankSettings) :
    (s.configureTank t c).config = s.config.setTank t c := by simp [State.configureTank]

/-- The record that TANK_SET writes is consistent where the one it replaces was: the table stays in order (R125). -/
theorem tankSet_writes {s : State} {t : TankIx} {sent : TankSettings} (role : roleAllowed t sent.role = true)
    (channels : sent.aft ≠ some sent.fore) (meters : t = .t0 ∨ sent.outMeter = false ∧ sent.inMeter = false) :
    s.WritesOrKeeps (s.tankSet t sent).1 := by
  unfold State.tankSet
  dsimp only
  split
  · exact .refl s
  · next free =>
    split
    · exact .refl s
    · split
      · exact .refl s
      · next thresholds =>
        split
        · exact .refl s
        · next fit =>
          refine .inr ⟨by simpa using free, ?_⟩
          rw [State.configureTank_config]
          refine .tank t _ fun old => ?_
          obtain ⟨-, -, -, -, -, -, count, order⟩ := tankConsistent_iff.1 old
          exact tankConsistent_iff.2 ⟨role, clampNat_range (by decide) _, channels, meters, by simpa using thresholds,
            clampNat_range (by decide) _, count, firstOffender_of_firstOver fit order⟩

theorem answerTankSet_writes (p : List Byte) (s : State) : s.WritesOrKeeps (answerTankSet p s).1 := by
  unfold answerTankSet
  repeat' split
  · exact .refl s
  · exact .refl s
  · next h =>
    obtain ⟨role, channels, meters⟩ := readTankSettings_ok h
    exact tankSet_writes role channels meters
  · exact .refl s

/-- So is the one that TANK_TABLE writes: its breakpoints are checked, and their count is in order (R127). -/
theorem tankTable_writes {s : State} (t : TankIx) {table : List Breakpoint} (few : 2 ≤ table.length)
    (many : table.length ≤ 16) : s.WritesOrKeeps (s.tankTable t table).1 := by
  unfold State.tankTable
  split
  · exact .refl s
  · next free =>
    split
    · exact .refl s
    · split
      · exact .refl s
      · next order =>
        refine .inr ⟨by simpa using free, ?_⟩
        rw [State.configureTank_config]
        refine .tank t _ fun old => ?_
        obtain ⟨role, capacity, channels, meters, thresholds, tolerance, -, -⟩ := tankConsistent_iff.1 old
        exact tankConsistent_iff.2 ⟨role, capacity, channels, meters, thresholds, tolerance, ⟨few, many⟩, order⟩

theorem unpackTable_length (k : Nat) (bytes : List Byte) : (unpackTable k bytes).length = k := by simp [unpackTable]

theorem answerTankTable_writes (p : List Byte) (s : State) : s.WritesOrKeeps (answerTankTable p s).1 := by
  unfold answerTankTable
  repeat' split
  case h_2.isFalse count =>
    obtain ⟨few, many⟩ : _ ∧ _ := by simpa [countOk] using count
    exact tankTable_writes _ (by rwa [unpackTable_length]) (by rwa [unpackTable_length])
  all_goals exact .refl s

theorem paramSet_writes (s : State) (q : Param) (x : Int) : s.WritesOrKeeps (s.paramSet q x).1 := by
  unfold State.paramSet State.writeParam
  split
  · exact .refl s
  · next free =>
    split
    · exact .refl s
    · dsimp only
      split
      · exact .refl s
      · refine .inr ⟨by simpa using free, ?_⟩
        rw [(State.ownerActs_frame _ q).2.2.2.1]
        exact .param q x

theorem answerParamSet_writes (p : List Byte) (s : State) : s.WritesOrKeeps (answerParamSet p s).1 := by
  unfold answerParamSet
  repeat' split
  · exact .refl s
  · exact paramSet_writes s _ _
  · exact .refl s

/-- Only GATE, LOCKOUT_SET, TANK_TABLE, TANK_SET and PARAM_SET write the working configuration, and none of them while
the store is busy. -/
theorem answerKind_writes (kind : Byte) (p : List Byte) (s : State) : s.WritesOrKeeps (answerKind kind p s).1 := by
  generalize h : answerKind kind p = answer
  unfold answerKind at h
  split at h <;> subst h
  case h_3 => exact answerGate_writes p s
  case h_5 => exact answerLockoutSet_writes p s
  case h_18 => exact answerTankTable_writes p s
  case h_19 => exact answerTankSet_writes p s
  case h_22 => exact answerParamSet_writes p s
  all_goals exact .inl (by simp [answerUnknown])

theorem eventOf_config {c : Instr} {f : State → State} (h : eventOf c = some f) (s : State) :
    (f s).config = s.config := by
  cases c <;> cases h <;> simp

/-! ### The loading of the store (R166, R167) -/

theorem loadParam_inRange {c : WorkingConfig} (h : c.InRange) (p : Param) (x : Int) : (loadParam c p x).InRange :=
  (WorkingConfig.Write.param p x).inRange h

theorem loadParams_inRange {c : WorkingConfig} (h : c.InRange) (ps : List Param) (ws : List (BitVec 32)) :
    (loadParams c ps ws).InRange :=
  foldl_keeps WorkingConfig.InRange _ _ c h fun _ p hb => loadParam_inRange hb p.1 p.2.toInt

/-- Report-on-change settings are single bits, all in range. -/
theorem reportOnChange_inRange {c : WorkingConfig} (h : c.InRange) (bits : PerLine Bool) :
    { c with inputs := { c.inputs with reportOnChange := bits } }.InRange := by
  obtain ⟨params, entries, tanks, gates⟩ := h
  refine ⟨fun p => ?_, entries, tanks, gates⟩
  cases p
  case reportOnChange l => cases h : bits.get l <;> simp [WorkingConfig.param, h, bit] <;> rfl
  all_goals exact params _

theorem loadEntries_inRange {c d : WorkingConfig} (h : c.InRange) (ws : List (BitVec 32))
    (loaded : loadEntries c ws = some d) : d.InRange := by
  refine foldl_keeps (fun acc : Option WorkingConfig => ∀ d, acc = some d → d.InRange) _ EntryIx.all (some c)
    (fun d e => by cases e; exact h) (fun acc i kept d e => ?_) d loaded
  obtain ⟨b, hb, e⟩ := Option.bind_eq_some_iff.1 e
  have hb := kept b hb
  split at e
  · cases e
  · cases e
    exact (WorkingConfig.Write.entry i none nofun).inRange hb
  · next entry read =>
    cases e
    obtain ⟨armed, effects⟩ := readEntry_present read
    refine (WorkingConfig.Write.entry i (some (clampEntry entry)) fun x hx => ?_).inRange hb
    cases hx
    exact clampEntry_inRange armed effects

theorem loadTank_consistent {t : TankIx} {ws : List (BitVec 32)} {x : TankSettings} (h : loadTank t ws = some x) :
    tankConsistent t x = true := by
  unfold loadTank at h
  dsimp only at h
  split at h
  · split at h
    · next consistent =>
      cases h
      exact consistent
    · cases h
  · cases h

theorem setTank_inRange {c : WorkingConfig} (h : c.InRange) {t : TankIx} {ws : List (BitVec 32)} {x : TankSettings}
    (loaded : loadTank t ws = some x) : (c.setTank t x).InRange :=
  (WorkingConfig.Write.tank t x fun _ => loadTank_consistent loaded).inRange h

/-- A section is copied in clamped, and a record that is not consistent not at all (R166, R167). -/
theorem loadSection_inRange {c d : WorkingConfig} (h : c.InRange) (sec : Section) (ws : List (BitVec 32))
    (loaded : loadSection c sec ws = some d) : d.InRange := by
  cases sec <;> simp only [loadSection, Option.map_eq_some_iff, Option.some.injEq] at loaded
  case header =>
    subst loaded
    exact h
  case governor | sequencer =>
    subst loaded
    exact loadParams_inRange h _ ws
  case inputs =>
    subst loaded
    exact reportOnChange_inRange (loadParams_inRange h _ ws) _
  case interlock =>
    obtain ⟨b, entries, rfl⟩ := loaded
    exact loadParam_inRange (loadParam_inRange (loadParam_inRange (loadEntries_inRange h ws entries) _ _) _ _) _ _
  case tank0 =>
    obtain ⟨x, tank, rfl⟩ := loaded
    exact loadParam_inRange (loadParam_inRange (setTank_inRange h tank) _ _) _ _
  case tank1 | tank2 =>
    obtain ⟨x, tank, rfl⟩ := loaded
    exact setTank_inRange h tank
  case reports =>
    subst loaded
    exact (WorkingConfig.Write.gates _ (by simp)).inRange h

theorem readSection_inRange (cells : List (Nat × StoreWord)) {l : Loading} (sec : Section) (h : l.config.InRange) :
    (l.readSection cells sec).config.InRange := by
  unfold Loading.readSection
  extract_lets verdicts m
  have words : m.config.InRange :=
    foldl_keeps (fun k : Loading => k.config.InRange) _ _ l h fun k p hk => by
      unfold Loading.readWord
      split <;> exact hk
  split
  · exact words
  · extract_lets first last
    split
    · exact words
    · split
      · exact words
      · next c loaded =>
        split <;> exact loadSection_inRange words sec _ loaded

theorem defaultConfig_inRange : defaultConfig.InRange := by
  refine ⟨fun p => ?_, fun i e he => ?_, fun t => ?_, rfl⟩
  · cases p
    case filterCount l => cases l <;> rfl
    case reportOnChange l => cases l <;> rfl
    all_goals rfl
  · simp [defaultConfig] at he
  · cases t <;> decide

/-- Whatever the store holds, what is loaded is in range. -/
theorem loadStore_inRange (cells : List (Nat × StoreWord)) : (loadStore cells).config.InRange :=
  foldl_keeps (fun l : Loading => l.config.InRange) _ _ _ defaultConfig_inRange fun _ sec h =>
    readSection_inRange cells sec h

/-! ### Every step -/

/-- Settles O19: a request makes at most one write that keeps the range (`answerKind_writes`), and what start-up loads is
in range (`loadStore_inRange`). -/
theorem configurationStaysInRange : Obligations.ConfigurationStaysInRange := by
  intro s t h e
  refine step_keeps (P := fun s : State => s.config.InRange) (fun _ _ h => h) (fun c s t h e => ?_) h e
  refine exec_keeps (P := fun s : State => s.config.InRange) (fun _ _ _ h => h)
    (fun _ _ _ => loadStore_inRange _) (fun kind p s h => ?_) (fun f ef s h => ?_) h e
  · rcases answerKind_writes kind p s with kept | ⟨-, written⟩
    · rwa [kept]
    · exact written.inRange h
  · rwa [eventOf_config ef]

/-! ### A busy store -/

/-- The configuration is that one, and the store is busy. -/
def State.BusyWith (c : WorkingConfig) (s : State) : Prop := s.config = c ∧ s.storeBusy = true

/-- While the store is busy no request writes the configuration, and none ends the commit or the write-back (R162, R166,
R170). -/
theorem answerKind_busy {c : WorkingConfig} {s : State} (kind : Byte) (p : List Byte) (h : s.BusyWith c) :
    (answerKind kind p s).1.BusyWith c := by
  obtain ⟨config, busy⟩ := h
  have kept : (answerKind kind p s).1.config = s.config := by
    rcases answerKind_writes kind p s with kept | ⟨free, -⟩
    · exact kept
    · simp [busy] at free
  have store : (answerKind kind p s).1.store = s.store := by
    generalize h : answerKind kind p = answer
    unfold answerKind at h
    split at h <;> subst h
    case h_24 =>
      unfold answerCommit
      split <;> simp [busy]
    all_goals simp [answerUnknown]
  refine ⟨kept.trans config, ?_⟩
  unfold State.storeBusy at busy ⊢
  rwa [store]

theorem takeFrame_busy {c : WorkingConfig} {s : State} (kind tag : Byte) (p : List Byte) (h : s.BusyWith c) :
    (s.takeFrame kind tag p).BusyWith c :=
  onFrame_keeps (P := State.BusyWith c) (fun _ _ _ h => h) kind tag (fun _ => answerKind_busy kind p) h

theorem byteArrives_busy {c : WorkingConfig} {s : State} (b : Byte) (h : s.BusyWith c) : (s.byteArrives b).BusyWith c := by
  unfold State.byteArrives
  split
  · exact receive_keeps (P := State.BusyWith c) (fun _ _ h => h) (fun _ _ _ _ => takeFrame_busy _ _ _) _ _ h
  · exact h

/-- Without an accepted RESTART the end of a frame begins no start-up (R154). -/
theorem transmitEnds_config {s : State} (h : s.link.restarting = false) : s.transmitEnds.config = s.config := by
  unfold State.transmitEnds
  split
  · rfl
  · simp [LinkPort.endFrame, h]

/-- Settles O24: the requests that write the configuration are refused (`answerKind_busy`), and nothing but a start-up
writes it otherwise. -/
theorem busyStoreKeepsTheConfiguration : Obligations.BusyStoreKeepsTheConfiguration := by
  intro c s t busy running noStart e
  have start : s.BusyWith s.config := ⟨rfl, busy⟩
  rcases event : eventOf c with _ | f
  · rcases frame : frameOf c with _ | ⟨kind, tag, p⟩
    · cases c
      case powerOn found => exact absurd rfl (noStart found).1
      case resetLine found => exact absurd rfl (noStart found).2
      case byteArrival b =>
        cases e
        simpa using (byteArrives_busy b start).1
      case frameDiscarded b =>
        cases e
        simp only [State.kick_frame, State.frameDiscards]
        split
        · exact (byteArrives_busy b start).1
        · rfl
      case frameGapTimeout =>
        cases e
        simp [State.gapTimeout]
      case transmitFrameEnd =>
        cases e
        simpa using transmitEnds_config running
      all_goals simp [eventOf, frameOf] at event frame
    · cases (exec_frame frame s).symm.trans e
      exact (takeFrame_busy kind tag p start).1
  · cases (exec_event event s).symm.trans e
    simpa using eventOf_config event s

end Sys2Proof.Machine

/-! # The matrix but for the horn -/

namespace Sys2Proof.Machine

/-- The matrix but for the horn: what neither a cause nor a change of source can move (R40). -/
def Matrix.butHorn (m : Matrix) : Matrix := { m with horn := false, muted := false, tankHorn := false }

/-- Two matrices that are the same but for the horn have all else the same. -/
theorem Matrix.fields_of_butHorn {m k : Matrix} (h : m.butHorn = k.butHorn) :
    m.mode = k.mode ∧ m.locks = k.locks ∧ m.permits = k.permits ∧ m.cap = k.cap ∧ m.driveInhibit = k.driveInhibit ∧
    m.throttleMode = k.throttleMode ∧ m.roll = k.roll ∧ m.overspeed = k.overspeed ∧
    m.overspeedTimer = k.overspeedTimer := by
  simpa [Matrix.butHorn] using h

@[simp] theorem State.judgeHorn_butHorn (s : State) : s.judgeHorn.matrix.butHorn = s.matrix.butHorn := rfl

@[simp] theorem State.hornArises_butHorn (s : State) : s.hornArises.matrix.butHorn = s.matrix.butHorn := rfl

@[simp] theorem State.raiseCause_butHorn (s : State) (c : Cause) (v : List Byte) :
    (s.raiseCause c v).matrix.butHorn = s.matrix.butHorn := by
  simp only [State.raiseCause]
  repeat' split
  all_goals simp

@[simp] theorem State.judgePressureSensor_butHorn (s : State) :
    s.judgePressureSensor.matrix.butHorn = s.matrix.butHorn := by
  simp only [State.judgePressureSensor]
  repeat' split
  all_goals simp

@[simp] theorem State.raise_butHorn (s : State) (c : Cause) (v : List Byte) :
    (s.raise c v).matrix.butHorn = s.matrix.butHorn := by
  simp only [State.raise]
  repeat' split
  all_goals simp

@[simp] theorem State.judgeOverheat_butHorn (s : State) : s.judgeOverheat.matrix.butHorn = s.matrix.butHorn := by
  simp only [State.judgeOverheat]
  repeat' split
  all_goals simp

@[simp] theorem State.judgeTankEmpty_butHorn (s : State) :
    s.judgeTankEmpty.matrix.butHorn = s.matrix.butHorn := by
  simp only [State.judgeTankEmpty]
  repeat' split
  all_goals simp

@[simp] theorem State.governorOff_butHorn (s : State) : s.governorOff.matrix.butHorn = s.matrix.butHorn := by
  simp only [State.governorOff]
  simp

@[simp] theorem State.governorHold_butHorn (s : State) : s.governorHold.matrix.butHorn = s.matrix.butHorn := by
  simp only [State.governorHold]
  simp

@[simp] theorem State.governorEngage_butHorn (s : State) :
    s.governorEngage.matrix.butHorn = s.matrix.butHorn := by
  simp only [State.governorEngage]
  repeat' split
  all_goals simp

@[simp] theorem State.discardProtection_butHorn (s : State) :
    s.discardProtection.matrix.butHorn = s.matrix.butHorn := by
  simp only [State.discardProtection]
  simp

@[simp] theorem State.returnToOperator_butHorn (s : State) :
    s.returnToOperator.matrix.butHorn = s.matrix.butHorn := by
  simp only [State.returnToOperator]
  simp

@[simp] theorem State.handSource_butHorn (s : State) : s.handSource.matrix.butHorn = s.matrix.butHorn := by
  simp only [State.handSource]
  repeat' split
  all_goals simp

@[simp] theorem State.changeSource_butHorn (s : State) (w : WaterSource) :
    (s.changeSource w).matrix.butHorn = s.matrix.butHorn := by
  simp only [State.changeSource]
  repeat' split
  all_goals simp

@[simp] theorem State.completeChangeover_butHorn (s : State) (c : Changeover) :
    (s.completeChangeover c).matrix.butHorn = s.matrix.butHorn := by
  simp only [State.completeChangeover]
  simp

@[simp] theorem State.judgeChangeover_butHorn (s : State) :
    s.judgeChangeover.matrix.butHorn = s.matrix.butHorn := by
  simp only [State.judgeChangeover]
  repeat' split
  all_goals simp

@[simp] theorem State.pressureSample_butHorn (s : State) (c0 c1 : Code) :
    (s.pressureSample c0 c1).matrix.butHorn = s.matrix.butHorn := by
  simp only [State.pressureSample]
  repeat' split
  all_goals simp

@[simp] theorem State.judgeCavitation_butHorn (s : State) :
    s.judgeCavitation.matrix.butHorn = s.matrix.butHorn := by
  simp only [State.judgeCavitation]
  repeat' split
  all_goals simp

@[simp] theorem State.judgePrimeLost_butHorn (s : State) :
    s.judgePrimeLost.matrix.butHorn = s.matrix.butHorn := by
  simp only [State.judgePrimeLost]
  repeat' split
  all_goals simp

@[simp] theorem State.judgeOverLimit_butHorn (s : State) (m : GovMode) :
    (s.judgeOverLimit m).matrix.butHorn = s.matrix.butHorn := by
  simp only [State.judgeOverLimit]
  repeat' split
  all_goals simp

@[simp] theorem State.overpressureReturns_butHorn (s : State) :
    s.overpressureReturns.matrix.butHorn = s.matrix.butHorn := by
  simp only [State.overpressureReturns]
  repeat' split
  all_goals simp

@[simp] theorem State.judgeReturn_butHorn (s : State) : s.judgeReturn.matrix.butHorn = s.matrix.butHorn := by
  simp only [State.judgeReturn]
  repeat' split
  all_goals simp

@[simp] theorem State.protectionTests_butHorn (s : State) (m : GovMode) :
    (s.protectionTests m).matrix.butHorn = s.matrix.butHorn := by
  simp only [State.protectionTests]
  simp

@[simp] theorem State.governorUpdate_butHorn (s : State) :
    s.governorUpdate.matrix.butHorn = s.matrix.butHorn := by
  simp only [State.governorUpdate]
  repeat' split
  all_goals simp

@[simp] theorem State.govern_butHorn (s : State) (m : GovMode) (x : Int) :
    (s.govern m x).matrix.butHorn = s.matrix.butHorn := by
  simp only [State.govern]
  repeat' split
  all_goals simp

@[simp] theorem State.governRequest_butHorn (s : State) (m : GovMode) (x : Int) :
    (s.governRequest m x).1.matrix.butHorn = s.matrix.butHorn := by
  simp only [State.governRequest]
  repeat' split
  all_goals simp

@[simp] theorem State.silence_butHorn (s : State) : s.silence.matrix.butHorn = s.matrix.butHorn := by
  unfold State.silence
  split <;> rfl

@[simp] theorem State.sourceEngaged_butHorn (s : State) (w : WaterSource) :
    (s.sourceEngaged w).1.matrix.butHorn = s.matrix.butHorn := by
  simp only [State.sourceEngaged]
  repeat' split
  all_goals simp

@[simp] theorem State.sourceRequest_butHorn (s : State) (w : WaterSource) :
    (s.sourceRequest w).1.matrix.butHorn = s.matrix.butHorn := by
  simp only [State.sourceRequest]
  repeat' split
  all_goals simp

@[simp] theorem answerGovern_butHorn (s : State) (p : List Byte) :
    (answerGovern p s).1.matrix.butHorn = s.matrix.butHorn := by
  unfold answerGovern
  repeat' split
  all_goals simp

@[simp] theorem answerResume_butHorn (s : State) (p : List Byte) :
    (answerResume p s).1.matrix.butHorn = s.matrix.butHorn := by
  unfold answerResume
  repeat' split
  all_goals simp

@[simp] theorem answerSource_butHorn (s : State) (p : List Byte) :
    (answerSource p s).1.matrix.butHorn = s.matrix.butHorn := by
  unfold answerSource
  repeat' split
  all_goals simp

@[simp] theorem answerSilence_butHorn (s : State) (p : List Byte) :
    (answerSilence p s).1.matrix.butHorn = s.matrix.butHorn := by
  unfold answerSilence
  repeat' split
  all_goals simp

end Sys2Proof.Machine

/-! # What the matrix's judgement gives, through every operation that ends with it (R18, R21, R30) -/

namespace Sys2Proof.Machine

/-! ### Outputs and inputs of the matrix -/

/-- The mode, what is driven from it and the permits stand as they did, and roll overspeed is not newly raised. -/
def State.SameOutputs (s t : State) : Prop :=
  t.matrix.mode = s.matrix.mode ∧ t.matrix.throttleMode = s.matrix.throttleMode ∧
  t.matrix.permits = s.matrix.permits ∧ t.matrix.driveInhibit = s.matrix.driveInhibit ∧
  (t.matrix.overspeed = true → s.matrix.overspeed = true)

theorem State.SameOutputs.of_matrix {s t : State} (h : t.matrix = s.matrix) : s.SameOutputs t := by
  simp [State.SameOutputs, h]

theorem State.SameOutputs.of_butHorn {s t : State} (h : t.matrix.butHorn = s.matrix.butHorn) : s.SameOutputs t := by
  obtain ⟨mode, -, permits, -, inhibit, throttle, -, overspeed, -⟩ := Matrix.fields_of_butHorn h
  exact ⟨mode, throttle, permits, inhibit, overspeed ▸ id⟩

/-- The matrix stands as it did but for the horn, and so does all that a permit is worked from (R22 to R25). -/
def State.Quiet (s t : State) : Prop :=
  t.matrix.butHorn = s.matrix.butHorn ∧ (∀ l, (t.image.lines.get l).state = (s.image.lines.get l).state) ∧
  t.image.v = s.image.v ∧ t.image.n = s.image.n ∧ t.config.idleRpm = s.config.idleRpm ∧
  t.config.entries = s.config.entries ∧ t.seq.path = s.seq.path ∧ t.seq.oShiftPump = s.seq.oShiftPump ∧
  t.seq.oShiftRoad = s.seq.oShiftRoad

theorem State.Quiet.of_horn {s t : State} (matrix : t.matrix.butHorn = s.matrix.butHorn) (image : t.image = s.image)
    (config : t.config = s.config) (seq : t.seq = s.seq) : s.Quiet t := by
  simp [State.Quiet, matrix, image, config, seq]

theorem State.Quiet.refl (s : State) : s.Quiet s := .of_horn rfl rfl rfl rfl

theorem moveLock_outputs (s : State) (i : EntryIx) (e : LockoutEntry) (n : LockState) : s.SameOutputs (s.moveLock i e n) := by
  unfold State.moveLock
  dsimp only
  split
  · exact .of_matrix rfl
  · simp only [State.SameOutputs, State.submitAll_frame]
    split <;> exact ⟨rfl, rfl, rfl, rfl, id⟩

/-- A gate can only clear roll overspeed (R28). -/
theorem judgeOverspeed_outputs (s : State) : s.SameOutputs s.judgeOverspeed := by
  simp only [State.judgeOverspeed, State.clearOverspeed]
  split
  · split <;> simp [State.SameOutputs]
  · exact ⟨rfl, rfl, rfl, rfl, id⟩

/-- `P` is a law of the matrix that neither the horn nor a lockout entry's move breaks, and `Q` the law that the
recomputation of the permits gives from it. Where they are the same, no judgement breaks the law. -/
structure Rejudged (P Q : State → Prop) : Prop where
  weaken : ∀ {s}, Q s → P s
  horn : ∀ {s t}, t.matrix.butHorn = s.matrix.butHorn → P s → P t
  lock : ∀ {s} i e n, P s → P (s.moveLock i e n)
  quiet : ∀ {s t}, s.Quiet t → Q s → Q t
  recompute : ∀ {s}, P s → Q s.recomputePermits

/-- Such a law that speaks of the matrix's outputs alone, and that a change of mode keeps. -/
structure Judged (P Q : State → Prop) : Prop extends Rejudged P Q where
  outputs : ∀ {s t}, s.SameOutputs t → P s → P t
  mode : ∀ {s} m, P s → P (s.setMode m)

/-- The law that no change of the outputs breaks is not broken by the horn or a lockout entry's move. -/
theorem Judged.of_outputs {P Q : State → Prop} (weaken : ∀ {s}, Q s → P s) (outputs : ∀ {s t}, s.SameOutputs t → P s → P t)
    (quiet : ∀ {s t}, s.Quiet t → Q s → Q t) (recompute : ∀ {s}, P s → Q s.recomputePermits)
    (mode : ∀ {s} m, P s → P (s.setMode m)) : Judged P Q :=
  { weaken, outputs, quiet, recompute, mode
    horn := fun same => outputs (.of_butHorn same)
    lock := fun i e n => outputs (moveLock_outputs _ i e n) }

/-- From the weaker law alone the weaker law follows. -/
theorem Judged.weak {P Q : State → Prop} (h : Judged P Q) : Judged P P :=
  .of_outputs id h.outputs (fun quiet => h.horn quiet.1) (fun hs => h.weaken (h.recompute hs)) h.mode

section Rejudged

variable {P Q : State → Prop} (h : Rejudged P Q) {s : State}
include h

/-! ### The matrix and the tanks -/

theorem Rejudged.matrixRecompute (hs : P s) : Q s.matrixRecompute :=
  h.quiet (s := s.recomputePermits) (.of_horn rfl rfl rfl rfl) (h.recompute hs)

theorem Rejudged.judgeLock (i : EntryIx) (hs : P s) : P (s.judgeLock i) := by
  unfold State.judgeLock
  split
  · exact hs
  · exact h.lock i _ _ hs

theorem Rejudged.judgeLocks (sel : LockCond → Bool) (hs : P s) : P (s.judgeLocks sel) := by
  refine foldl_keeps P _ _ s hs fun t i ht => ?_
  repeat' split
  · exact ht
  · exact h.judgeLock i ht
  · exact ht

theorem Rejudged.matrixJudge (sel : LockCond → Bool) (hs : P s) : Q (s.matrixJudge sel) :=
  h.matrixRecompute (h.judgeLocks sel hs)

theorem Rejudged.handTank (t : TankIx) (b : TankRun) (hs : Q s) : Q (s.handTank t b) := by
  have abandoned : Q (if t = .t0 ∧ b.state = .sensed ∧ ((s.tanks.get t).state = .blind ∨ (s.tanks.get t).state = .travel)
      then s.abandonFill .abandoned else s) := by
    split
    · exact h.quiet (.of_horn (by simp) (by simp) (by simp) (by simp)) hs
    · exact hs
  have judged (u : State) (hu : Q u) :
      Q (if (s.tanks.get t).band = b.band ∧ (s.tanks.get t).basis = b.basis then u else u.matrixJudge (onTank t)) := by
    split
    · exact hu
    · exact h.matrixJudge _ (h.weaken hu)
  have emptied (u : State) (hu : Q u) : Q (if t = .t0 ∧ (s.tanks.get t).band ≠ b.band then u.judgeTankEmpty else u) := by
    split
    · exact h.quiet (.of_horn (by simp) (by simp) (by simp) (by simp)) hu
    · exact hu
  exact emptied _ (judged _ abandoned)

theorem Rejudged.tanksAtRoadGate (was : Bool) (hs : Q s) : Q (s.tanksAtRoadGate was) := by
  have set (t : State) (i : TankIx) (r : TankRun) (ht : Q t) : Q (t.setTank i r) :=
    h.quiet (.of_horn (by simp) (by simp) (by simp) (by simp)) ht
  have travel (t : State) (i : TankIx) (ht : Q t) : Q (t.enterTravel i) := by
    unfold State.enterTravel
    dsimp only
    split
    · exact h.handTank _ _ (set t i _ ht)
    · exact set t i _ ht
    · exact set t i _ ht
    all_goals exact ht
  have settle (t : State) (i : TankIx) (ht : Q t) : Q (t.enterSettling i) :=
    h.quiet (.of_horn (by simp) (by simp) (by simp) (by simp)) ht
  unfold State.tanksAtRoadGate
  repeat' split
  · exact hs
  · exact foldl_keeps Q _ _ s hs travel
  · exact foldl_keeps Q _ _ s hs settle
  · exact hs

end Rejudged

section Judged

variable {P Q : State → Prop} (h : Judged P Q) {s : State}
include h

theorem Judged.enterMode (m : AppMode) (hs : P s) : Q (s.enterMode m) := by
  unfold State.enterMode
  split
  · exact h.matrixRecompute hs
  · exact h.matrixJudge _ (h.outputs (.of_matrix (by simp)) (h.mode m hs))

theorem Judged.matrixTake (hs : P s) : Q s.matrixTake := h.enterMode _ hs

/-! ### The sequencer: every operation ends with the matrix taking the state it leaves (R18) -/

theorem Judged.setSeq (q : Sequencer) (hs : P s) : P (s.setSeq q) := h.outputs (.of_matrix (by simp)) hs

theorem Judged.enterIdle (hs : P s) : Q s.enterIdle :=
  h.matrixTake (h.horn (by simp) hs)

theorem Judged.enterHeldTimeout (hs : P s) : Q s.enterHeldTimeout :=
  h.matrixTake (h.horn (by simp) hs)

theorem Judged.judgeRoadShift (hs : Q s) : Q s.judgeRoadShift := by
  have recomputed (q : Sequencer) : Q ({ s with seq := q }).matrixRecompute :=
    h.matrixRecompute (h.outputs (s := s) (.of_matrix rfl) (h.weaken hs))
  unfold State.judgeRoadShift
  repeat' split
  · exact hs
  · exact recomputed _
  · exact recomputed _
  · exact hs
  · exact hs

theorem Judged.enterReleasing (hs : P s) : Q s.enterReleasing := by
  have taken (q : Sequencer) : Q (s.setSeq q).matrixTake := h.matrixTake (h.setSeq q hs)
  have clutch (t : State) (ht : Q t) : Q (if t.lineClear .d4 then t.enterIdle else t) := by
    split
    · exact h.enterIdle (h.weaken ht)
    · exact ht
  have split (t : State) (ht : Q t) : Q (if t.lineClear .d3 then t.enterIdle else t.judgeRoadShift) := by
    split
    · exact h.enterIdle (h.weaken ht)
    · exact h.judgeRoadShift ht
  unfold State.enterReleasing
  split
  · exact clutch _ (taken _)
  · exact split _ (taken _)
  · exact split _ (taken _)

theorem Judged.judgeIdlingDown (hs : Q s) : Q s.judgeIdlingDown := by
  unfold State.judgeIdlingDown
  split
  · exact h.enterReleasing (h.weaken hs)
  · exact hs

theorem Judged.enterIdlingDown (r : SeqReason) (hs : P s) : Q (s.enterIdlingDown r) :=
  h.judgeIdlingDown (h.matrixTake (h.horn (by simp) hs))

theorem Judged.faultToIdlingDown (f : SeqFault) (r : SeqReason) (hs : P s) : Q (s.faultToIdlingDown f r) :=
  h.enterIdlingDown r (h.outputs (.of_matrix (by simp)) hs)

theorem Judged.enterShifting (hs : P s) : Q s.enterShifting := h.matrixTake (h.setSeq _ hs)

theorem Judged.enterClutching (hs : P s) : Q s.enterClutching := h.matrixTake (h.setSeq _ hs)

theorem Judged.enterAwaitConfirm (hs : P s) : Q s.enterAwaitConfirm := h.matrixTake (h.setSeq _ hs)

theorem Judged.enterAwaitRange (hs : P s) : Q s.enterAwaitRange := by
  have passed (t : State) (ht : Q t) : Q (if t.lineSet .d2 then t.enterAwaitConfirm else t) := by
    split
    · exact h.enterAwaitConfirm (h.weaken ht)
    · exact ht
  exact passed _ (h.matrixTake (h.setSeq _ hs))

theorem Judged.enterEngaged (hs : P s) : Q s.enterEngaged := h.matrixTake (h.horn (by simp) hs)

theorem Judged.enterHeldFeedback (hs : P s) : Q s.enterHeldFeedback := h.matrixTake (h.horn (by simp) hs)

theorem Judged.seqLineChange (l : Line) (hs : Q s) : Q (s.seqLineChange l) := by
  have hp := h.weaken hs
  rcases s.seqLineChange_cases l with e | ⟨-, e⟩ | ⟨-, e⟩ | ⟨-, e⟩ | ⟨-, e⟩ | ⟨-, e | e⟩ <;> rw [e]
  · exact hs
  · exact h.enterAwaitRange hp
  · exact h.enterAwaitConfirm hp
  · exact h.faultToIdlingDown _ _ hp
  · exact h.enterHeldFeedback hp
  · exact h.enterIdle hp
  · exact h.judgeRoadShift hs

theorem Judged.seqEngineGate (hs : Q s) : Q s.seqEngineGate := by
  unfold State.seqEngineGate
  split
  · exact h.judgeIdlingDown hs
  · exact h.judgeRoadShift hs
  all_goals exact hs

theorem Judged.seqRoadGate (made : Bool) (hs : Q s) : Q (s.seqRoadGate made) := by
  have fault : Q (if made then s.faultToIdlingDown .motion .motion else s) := by
    split
    · exact h.faultToIdlingDown _ _ (h.weaken hs)
    · exact hs
  unfold State.seqRoadGate
  split
  · exact fault
  · exact fault
  · exact h.judgeRoadShift hs
  all_goals exact hs

theorem Judged.judgeComplete (hs : Q s) : Q s.judgeComplete := by
  rcases judgeComplete_cases s with ⟨-, e⟩ | ⟨-, -, e⟩ <;> rw [e]
  · exact hs
  · have roll : s.SameOutputs s.completed.startDecision.judgeRoll := by
      simp [State.SameOutputs, State.judgeRoll]
    exact h.enterMode _ (h.outputs roll (h.weaken hs))

/-! ### The events -/

theorem Judged.engineGateEnd (hs : P s) : Q s.engineGateEnd := by
  rw [engineGateEnd_eq]
  exact h.judgeComplete (h.matrixJudge _ (h.weak.seqEngineGate (h.outputs (.of_matrix (by simp)) hs)))

theorem Judged.roadGateEnd (hs : P s) : Q s.roadGateEnd := by
  have limits : P s.roadGated.judgeRoll.judgeOverspeed :=
    h.outputs (judgeOverspeed_outputs _) (h.outputs (by simp [State.SameOutputs, State.judgeRoll]) hs)
  rw [roadGateEnd_eq]
  exact h.judgeComplete (h.tanksAtRoadGate _ (h.matrixJudge _ (h.weak.seqRoadGate _ limits)))

theorem Judged.flowGateEnd (m : Meter) (hs : Q s) : Q (s.flowGateEnd m) :=
  h.judgeComplete (h.quiet (s := s) ⟨rfl, fun _ => rfl, rfl, rfl, rfl, rfl, rfl, rfl, rfl⟩ hs)

/-- A line sample without changes is judged by what it leaves of the lines; any other by the matrix. -/
theorem Judged.lineSample (raw : BitVec 12) (hs : P s)
    (unchanged : s.changedLines raw = [] → Q (s.linesSampled raw [])) : Q (s.lineSample raw) := by
  rw [lineSample_eq]
  refine h.judgeComplete ?_
  unfold State.linesChanged
  split
  · next none =>
    have none := List.isEmpty_iff.1 none
    rw [none]
    exact unchanged none
  · have sampled : P (s.linesSampled raw (s.changedLines raw)) :=
      h.outputs (.of_matrix (by simp [State.linesSampled])) hs
    exact h.matrixJudge _ (foldl_keeps P _ _ _ sampled fun _ l ht => h.weak.seqLineChange l ht)

theorem Judged.windowExpiry (st : SeqState) (w : StepWindow) (f : SeqFault) (hs : Q s) : Q (s.windowExpiry st w f) := by
  unfold State.windowExpiry
  split
  · exact h.faultToIdlingDown _ _ (h.weaken hs)
  · exact hs

theorem Judged.releaseExpiry (hs : Q s) : Q s.releaseExpiry := by
  unfold State.releaseExpiry
  split
  · exact h.enterHeldTimeout (h.weaken hs)
  · exact hs

theorem Judged.temperatureSample (c : Code) (hs : Q s) : Q (s.temperatureSample c) := by
  unfold State.temperatureSample
  dsimp only
  split
  · exact h.quiet (by simp [State.Quiet]) hs
  · exact h.matrixJudge _ (h.horn (by simp) (h.weaken hs))

theorem Judged.lockDelayExpiry (i : EntryIx) (hs : Q s) : Q (s.lockDelayExpiry i) := by
  unfold State.lockDelayExpiry
  repeat' split
  · exact hs
  · exact h.matrixRecompute (h.lock i _ _ (h.weaken hs))
  · exact hs

theorem Judged.tankUpdate (t : TankIx) (hs : Q s) : Q (s.tankUpdate t) := by
  have still {u v : State} (matrix : v.matrix = u.matrix) (image : v.image = u.image) (config : v.config = u.config)
      (seq : v.seq = u.seq) (hu : Q u) : Q v := h.quiet (.of_horn (by rw [matrix]) image config seq) hu
  unfold State.tankUpdate
  extract_lets r s1 s2 s3
  split
  · exact hs
  · have settled : Q s1 := still (by simp [s1]) (by simp [s1]) (by simp [s1]) (by simp [s1]) hs
    have risen : Q s2 := by
      unfold s2
      split
      · exact still (by simp) (by simp) (by simp) (by simp) settled
      · exact settled
    have handed : Q s3 := h.handTank t r risen
    split
    · exact still (by simp) (by simp) (by simp) (by simp) handed
    · exact handed

theorem Judged.settleExpiry (t : TankIx) (hs : Q s) : Q (s.settleExpiry t) := by
  unfold State.settleExpiry
  dsimp only
  repeat' split
  · exact h.handTank _ _ (h.quiet (.of_horn (by simp) (by simp) (by simp) (by simp)) hs)
  · exact h.quiet (.of_horn (by simp) (by simp) (by simp) (by simp)) hs
  · exact hs

/-- What every event of the apparatus, the store or a timer keeps, with what the roll overspeed timer and a line sample
without changes are shown to keep. -/
theorem Judged.event {c : Instr} {f : State → State} (e : eventOf c = some f) (hs : Q s)
    (expiry : Q s.rollOverspeedExpiry) (unchanged : ∀ raw, s.changedLines raw = [] → Q (s.linesSampled raw [])) :
    Q (f s) := by
  have hp := h.weaken hs
  cases c <;> cases e
  case engineSpeedGateEnd => exact h.engineGateEnd hp
  case roadSpeedGateEnd => exact h.roadGateEnd hp
  case flowGateEnd m => exact h.flowGateEnd m hs
  case lineSample raw => exact h.lineSample raw hp (unchanged raw)
  case rollOverspeedExpiry => exact expiry
  case shiftWindowExpiry | rangeWindowExpiry | clutchWindowExpiry | confirmWindowExpiry =>
    exact h.windowExpiry _ _ _ hs
  case releaseWindowExpiry => exact h.releaseExpiry hs
  case temperatureSample c => exact h.temperatureSample c hs
  case lockoutDelayExpiry i => exact h.lockDelayExpiry i hs
  case tankUpdate t => exact h.tankUpdate t hs
  case settleTimerExpiry t => exact h.settleExpiry t hs
  case idleDownWindowExpiry =>
    refine h.quiet ?_ hs
    unfold State.idleDownExpiry
    split
    · simp [State.Quiet, State.stopStepTimer]
    · exact .refl s
  case neutralWaitExpiry =>
    refine h.quiet ?_ hs
    unfold State.neutralExpiry
    split
    · simp [State.Quiet, State.stopStepTimer]
    · exact .refl s
  case pulseArrival p => exact h.quiet (s := s) ⟨rfl, fun _ => rfl, rfl, rfl, rfl, rfl, rfl, rfl, rfl⟩ hs
  all_goals exact h.quiet (by simp [State.Quiet]) hs

end Judged

end Sys2Proof.Machine

/-! # What the matrix's judgement gives, through every request -/

namespace Sys2Proof.Machine

/-- A parameter that no permit is worked from leaves what they are worked from (R23). -/
theorem setParam_quiet (s : State) {p : Param} (x : Int) (h : p ≠ .idleRpm) :
    s.Quiet { s with config := s.config.setParam p x } := by
  have idle : (s.config.setParam p x).idleRpm = s.config.idleRpm := by
    simpa [WorkingConfig.param] using setParam_param_ne s.config x (Ne.symm h)
  exact ⟨rfl, fun _ => rfl, rfl, rfl, idle, (setParam_frame _ _ _).1, rfl, rfl, rfl⟩

theorem clearLatches_quiet (s : State) : s.Quiet s.clearLatches :=
  ⟨rfl, fun l => by simp [State.clearLatches], rfl, rfl, rfl, rfl, rfl, rfl, rfl⟩

section Judged

variable {P Q : State → Prop} (h : Judged P Q) {s : State}
include h

/-! ### The matrix's own requests -/

theorem Judged.writeEntry (i : EntryIx) (new : Option LockoutEntry) (hs : P s) : Q (s.writeEntry i new) := by
  have replaced (t : State) (ht : P t) : P { t with
      config := { t.config with entries := t.config.entries.set i new }
      matrix := { t.matrix with locks := t.matrix.locks.set i { state := .clear, timer := none } } } :=
    h.outputs (s := t) ⟨rfl, rfl, rfl, rfl, id⟩ ht
  have judged (t : State) (ht : P t) : Q (t.judgeLock i).matrixRecompute :=
    h.matrixRecompute (h.judgeLock i ht)
  unfold State.writeEntry
  split
  · exact judged _ (replaced _ hs)
  · exact judged _ (replaced _ (h.lock i _ _ hs))

theorem Judged.clearLatch (i : EntryIx) (hs : P s) : P (s.clearLatch i) := by
  unfold State.clearLatch
  repeat' split
  · exact hs
  · exact h.lock i _ _ hs
  · exact hs

theorem Judged.lockoutSet (i : EntryIx) (e : Option LockoutEntry) (hs : Q s) : Q (s.lockoutSet i e).1 := by
  unfold State.lockoutSet
  repeat' split
  · exact hs
  · exact hs
  · exact h.writeEntry i _ (h.weaken hs)

theorem Judged.answerLockoutSet (p : List Byte) (hs : Q s) : Q (answerLockoutSet p s).1 := by
  unfold Machine.answerLockoutSet
  repeat' split
  · exact hs
  · exact hs
  · exact h.lockoutSet _ _ hs
  · exact h.lockoutSet _ _ hs
  · exact hs

theorem Judged.latchClearOne (i : EntryIx) (hs : Q s) : Q (s.latchClearOne i).1 := by
  unfold State.latchClearOne
  split
  · exact hs
  · exact h.matrixRecompute (h.judgeLock i (h.clearLatch i (h.weaken hs)))
  all_goals exact hs

theorem Judged.latchClearAll (hs : Q s) : Q s.latchClearAll.1 := by
  have cleared := foldl_keeps P State.clearLatch s.latchedEntries s (h.weaken hs) fun t i ht =>
    h.clearLatch i ht
  exact h.matrixRecompute (foldl_keeps P State.judgeLock s.latchedEntries _ cleared fun t i ht =>
    h.judgeLock i ht)

theorem Judged.answerLatchClear (p : List Byte) (hs : Q s) : Q (answerLatchClear p s).1 := by
  unfold Machine.answerLatchClear
  repeat' split
  · exact h.latchClearAll hs
  · exact hs
  · exact hs
  · exact h.latchClearOne _ hs
  · exact hs

/-! ### The sequencer's -/

theorem Judged.engage (roll : Bool) (hs : Q s) : Q (s.engage roll).1 := by
  unfold State.engage
  repeat' split
  · exact hs
  · exact h.enterClutching (h.weaken hs)
  · exact h.enterShifting (h.weaken hs)
  · exact hs

theorem Judged.answerEngage (p : List Byte) (hs : Q s) : Q (answerEngage p s).1 := by
  unfold Machine.answerEngage
  repeat' split
  · exact h.engage false hs
  · exact h.engage true hs
  · exact hs
  · exact hs

theorem Judged.confirmSource (hs : Q s) : Q s.confirmSource.1 := by
  unfold State.confirmSource
  split
  · exact hs
  · exact h.enterEngaged (h.weaken hs)

theorem Judged.answerConfirm (p : List Byte) (hs : Q s) : Q (answerConfirm p s).1 := by
  unfold Machine.answerConfirm
  split
  · split
    · exact h.confirmSource hs
    · split
      · exact h.confirmSource hs
      · exact hs
    all_goals exact hs
  · exact hs

theorem Judged.answerDisengage (p : List Byte) (hs : Q s) : Q (answerDisengage p s).1 := by
  have down (t : State) (ht : P t) : Q ((t.enterIdlingDown .disengage, Answer.ok) : State × Answer).1 := by
    dsimp only
    exact h.enterIdlingDown _ ht
  unfold Machine.answerDisengage
  split
  · split
    · exact hs
    · exact hs
    · exact hs
    · exact down _ (h.outputs (.of_matrix (by simp)) (h.weaken hs))
    all_goals exact down _ (h.weaken hs)
  · exact hs

/-! ### The tank unit's, and PARAM_SET -/

theorem Judged.configureTank (t : TankIx) (c : TankSettings) (hs : Q s) : Q (s.configureTank t c) := by
  have set : Q ({ s with config := s.config.setTank t c }) :=
    h.quiet (s := s) ⟨rfl, fun _ => rfl, rfl, rfl, rfl, rfl, rfl, rfl, rfl⟩ hs
  unfold State.configureTank State.restartTank
  dsimp only
  split
  · exact h.handTank _ _ (h.quiet (.of_horn (by simp) (by simp) (by simp) (by simp)) set)
  · exact h.handTank _ _ (h.quiet (.of_horn (by simp) (by simp) (by simp) (by simp)) set)

theorem Judged.tankSet (t : TankIx) (c : TankSettings) (hs : Q s) : Q (s.tankSet t c).1 := by
  unfold State.tankSet
  dsimp only
  repeat' split
  case h_2 => exact h.configureTank _ _ hs
  all_goals exact hs

theorem Judged.answerTankSet (p : List Byte) (hs : Q s) : Q (answerTankSet p s).1 := by
  unfold Machine.answerTankSet
  repeat' split
  · exact hs
  · exact hs
  · exact h.tankSet _ _ hs
  · exact hs

theorem Judged.tankTable (t : TankIx) (table : List Breakpoint) (hs : Q s) : Q (s.tankTable t table).1 := by
  unfold State.tankTable
  repeat' split
  case h_2 => exact h.configureTank _ _ hs
  all_goals exact hs

theorem Judged.answerTankTable (p : List Byte) (hs : Q s) : Q (answerTankTable p s).1 := by
  unfold Machine.answerTankTable
  repeat' split
  case h_2.isFalse => exact h.tankTable _ _ hs
  all_goals exact hs

theorem Judged.ceilingChanged (hs : P s) : Q s.ceilingChanged :=
  h.matrixRecompute (h.outputs (s := s) ⟨rfl, rfl, rfl, rfl, id⟩ hs)

/-- idle_rpm and the roll limits go to the matrix; no other parameter's owner moves what a permit is worked from. -/
theorem Judged.writeParam (p : Param) (x : Int) (hs : Q s) : Q (s.writeParam p x) := by
  have written : P { s with config := s.config.setParam p x } := h.outputs (s := s) (.of_matrix rfl) (h.weaken hs)
  have set (other : p ≠ .idleRpm) : Q { s with config := s.config.setParam p x } := h.quiet (setParam_quiet s x other) hs
  unfold State.writeParam
  split
  · exact hs
  · cases p
    case idleRpm | rollCap => exact h.matrixRecompute written
    case rollCeiling => exact h.ceilingChanged written
    case tempCut | tempReliefOn | pSetMax | rpmSetMax =>
      exact h.quiet (.of_horn (by simp [State.ownerActs]) (by simp [State.ownerActs]) (by simp) (by simp)) (set (by simp))
    case kDis | kFill =>
      have dropped (t : State) (m : Meter) : t.Quiet (t.dropRemainder m) :=
        ⟨rfl, fun _ => rfl, rfl, rfl, rfl, rfl, rfl, rfl, rfl⟩
      exact h.quiet (dropped _ _) (set (by simp))
    all_goals exact set (by simp)

theorem Judged.answerParamSet (p : List Byte) (hs : Q s) : Q (answerParamSet p s).1 := by
  unfold Machine.answerParamSet State.paramSet
  repeat' split
  case h_2.isFalse.isFalse => exact h.writeParam _ _ hs
  all_goals exact hs

/-! ### Every request -/

theorem Judged.answerKind (kind : Byte) (p : List Byte) (hs : Q s) : Q (answerKind kind p s).1 := by
  generalize e : Machine.answerKind kind p = answer
  unfold Machine.answerKind at e
  split at e <;> subst e
  case h_3 =>
    unfold answerGate
    repeat' split
    case isFalse.isFalse => exact h.quiet (s := s) ⟨rfl, fun _ => rfl, rfl, rfl, rfl, rfl, rfl, rfl, rfl⟩ hs
    all_goals exact hs
  case h_4 =>
    unfold answerInputs
    repeat' split
    case isFalse => exact h.quiet (clearLatches_quiet s) hs
    all_goals exact hs
  case h_5 => exact h.answerLockoutSet p hs
  case h_7 => exact h.answerLatchClear p hs
  case h_9 => exact h.answerEngage p hs
  case h_10 => exact h.answerConfirm p hs
  case h_11 => exact h.answerDisengage p hs
  case h_18 => exact h.answerTankTable p hs
  case h_19 => exact h.answerTankSet p hs
  case h_22 => exact h.answerParamSet p hs
  all_goals exact h.quiet (.of_horn (by simp [answerUnknown]) (by simp [answerUnknown]) (by simp [answerUnknown])
    (by simp [answerUnknown])) hs

end Judged

end Sys2Proof.Machine

/-! # Permits, drive inhibit and throttle mode, kept by every step (R20 to R25) -/

namespace Sys2Proof.Machine

/-! ### The throttle mode (R20) -/

/-- No judgement breaks the law of the throttle mode: only the mode that is set moves it. -/
theorem throttleMode_judged : Judged State.ThrottleModeLaw State.ThrottleModeLaw := by
  have outputs {s t : State} (same : s.SameOutputs t) (h : s.ThrottleModeLaw) : t.ThrottleModeLaw := by
    obtain ⟨mode, throttle, -⟩ := same
    rwa [State.ThrottleModeLaw, mode, throttle]
  refine .of_outputs id outputs (fun quiet => outputs (.of_butHorn quiet.1)) ?_ (by simp [State.ThrottleModeLaw])
  intro s h
  simpa [State.ThrottleModeLaw] using h

theorem exec_throttleMode {c : Instr} {s t : State} (h : s.ThrottleModeLaw) (e : exec c s = .next t) :
    t.ThrottleModeLaw := by
  refine exec_keeps (P := State.ThrottleModeLaw) (fun _ _ _ h => h) (fun _ _ _ => rfl)
    (fun kind p s h => throttleMode_judged.answerKind kind p h) (fun f ef s h => ?_) h e
  refine throttleMode_judged.event ef h ?_ fun raw _ => throttleMode_judged.outputs (.of_matrix ?_) h
  · simpa [State.ThrottleModeLaw] using h
  · simp [State.linesSampled]

/-! ### The permits and the drive inhibit (R21 to R25) -/

/-- O_DRIVE_INHIBIT is asserted while DRIVE is withheld (R22). -/
def State.InhibitLaw (s : State) : Prop := s.matrix.driveInhibit = !s.matrix.permits.drive

theorem recomputePermit_inhibit {s : State} (p : Permit) (h : s.InhibitLaw) : (s.recomputePermit p).InhibitLaw := by
  unfold State.recomputePermit
  dsimp only
  split
  · exact h
  · simp only [State.InhibitLaw, State.submit_frame]
    cases p
    case drive => rfl
    all_goals exact h

theorem recomputePermits_inhibit {s : State} (h : s.InhibitLaw) : s.recomputePermits.InhibitLaw := by
  have folded := foldl_keeps State.InhibitLaw State.recomputePermit Permit.all s h fun _ p ht => recomputePermit_inhibit p ht
  unfold State.recomputePermits State.InhibitLaw
  dsimp only
  split <;> simpa [State.InhibitLaw] using folded

/-- A permit is worked from what a quiet change leaves (R22 to R25). -/
theorem permitHeld_of_quiet {s t : State} (p : Permit) (h : s.Quiet t) : t.permitHeld p = s.permitHeld p := by
  obtain ⟨matrix, lines, v, n, idleRpm, entries, path, pump, road⟩ := h
  obtain ⟨mode, locks, -⟩ := Matrix.fields_of_butHorn matrix
  have effects (k : Nat) : t.effectApplies k = s.effectApplies k := by
    funext i
    simp only [State.effectApplies, State.lockHolds, entries, locks]
  have lowest (q : Permit) : t.lowestLockout q = s.lowestLockout q := by
    unfold State.lowestLockout
    rw [effects]
  have idle : t.engineIdle = s.engineIdle := by
    unfold State.engineIdle State.engageLimit
    rw [n, idleRpm]
  cases p <;> simp only [State.permitHeld, State.permitFails, State.lineSet, State.lineClear, State.moving, idle,
    lowest, lines, v, mode, path, pump, road]

/-- In START every permit is withheld (R21 to R25). -/
theorem permitHeld_of_start {s : State} (p : Permit) (h : s.matrix.mode = .start) : s.permitHeld p = false := by
  cases p <;> simp [State.permitHeld, State.permitFails, fails, h]

theorem setMode_permits (s : State) (m : AppMode) :
    (s.setMode m).matrix.permits = s.matrix.permits ∧ (s.setMode m).matrix.driveInhibit = s.matrix.driveInhibit := by
  unfold State.setMode State.clearOverspeed
  dsimp only
  repeat' split
  all_goals simp

/-- The recomputation makes every permit stand as its conditions say, and drives the inhibit from DRIVE (R21, R22). -/
theorem permit_judged : Judged State.InhibitLaw State.PermitLaw := by
  refine .of_outputs (fun h => h.2) ?_ ?_ (fun h => ⟨fun p => ?_, recomputePermits_inhibit h⟩) ?_
  · rintro s t ⟨-, -, permits, inhibit, -⟩ h
    rwa [State.InhibitLaw, permits, inhibit]
  · intro s t quiet ⟨permits, inhibit⟩
    obtain ⟨-, -, same, -, driven, -⟩ := Matrix.fields_of_butHorn quiet.1
    refine ⟨fun p => ?_, by rwa [same, driven]⟩
    rw [same, permitHeld_of_quiet p quiet]
    exact permits p
  · rw [recomputePermits_permits]
    exact (permitHeld_congr p (by simp) (by simp) (by simp) (by simp) (by simp)).symm
  · intro s m h
    obtain ⟨permits, inhibit⟩ := setMode_permits s m
    rwa [State.InhibitLaw, permits, inhibit]

/-- A line that has settled, and that the sample does not change, reads as it did (R12, R14). -/
theorem sample_state_of_unchanged {s : State} {raw : BitVec 12} (none : s.changedLines raw = []) {l : Line}
    (settled : (s.image.lines.get l).state ≠ .unsettled) :
    ((s.sampleLines raw).get l).state = (s.image.lines.get l).state := by
  have unchanged := List.filter_eq_nil_iff.1 none l l.mem_all
  simp only [lineChanged, Bool.and_eq_true, bne_iff_ne, ne_eq, not_and, not_not] at unchanged
  exact (unchanged settled).symm

/-- A line sample without changes leaves the permits: in START all are withheld whatever the lines read, and later every
line has settled (R14, R16, R19). -/
theorem linesSampled_permits {s : State} {raw : BitVec 12} (phase : s.PhaseLaw) (h : s.PermitLaw)
    (none : s.changedLines raw = []) : (s.linesSampled raw []).PermitLaw := by
  by_cases complete : s.image.complete = true
  · refine permit_judged.quiet ?_ h
    have settled (l : Line) := sample_state_of_unchanged none ((phase.2 complete).2 l)
    simp [State.Quiet, State.linesSampled, settled]
  · have start := (phase.1 (by simpa using complete)).1
    obtain ⟨permits, inhibit⟩ := h
    have matrix : (s.linesSampled raw []).matrix = s.matrix := by simp [State.linesSampled]
    refine ⟨fun p => ?_, by rwa [matrix]⟩
    rw [matrix, permits p, permitHeld_of_start p start, permitHeld_of_start p (by rwa [matrix])]

theorem startUp_permits (s : State) (found : List (Nat × StoreWord)) : (s.startUp found).PermitLaw := by
  refine ⟨fun p => ?_, rfl⟩
  rw [permitHeld_of_start p rfl]
  cases p <;> rfl

theorem exec_permits {c : Instr} {s t : State} (phase : s.PhaseLaw) (h : s.PermitLaw) (e : exec c s = .next t) :
    t.PermitLaw := by
  refine (exec_keeps (P := fun s => s.PhaseLaw ∧ s.PermitLaw) (fun _ _ _ h => h)
    (fun s found _ => ⟨startUp_phase s found, startUp_permits s found⟩)
    (fun kind p _ h => ⟨(answerKind_laws kind p h.1).1, permit_judged.answerKind kind p h.2⟩)
    (fun f ef s h => ⟨(eventOf_laws ef h.1).1, ?_⟩) ⟨phase, h⟩ e).2
  obtain ⟨phase, h⟩ := h
  refine permit_judged.event ef h ?_ fun raw => linesSampled_permits phase h
  unfold State.rollOverspeedExpiry
  split
  · exact h
  · exact permit_judged.quiet (s := { s with matrix := { s.matrix with overspeed := true, overspeedTimer := none } })
      (.of_horn (by simp) (by simp) (by simp) (by simp)) h

/-- Settles O12: the permits are judged at the end of every operation that moves what they are worked from
(`permit_judged`), and the throttle mode is set with the mode alone (`throttleMode_judged`). -/
theorem permitAndThrottleModeLawsAreKept : Obligations.PermitAndThrottleModeLawsAreKept := by
  refine ⟨fun s t phase h e => ?_, fun s t h e => ?_⟩
  · exact (step_keeps (P := fun s => s.PhaseLaw ∧ s.PermitLaw) (fun _ _ h => h)
      (fun _ _ _ h e => ⟨exec_phase h.1 e, exec_permits h.1 h.2 e⟩) ⟨phase, h⟩ e).2
  · exact step_keeps (P := State.ThrottleModeLaw) (fun _ _ h => h) (fun _ _ _ => exec_throttleMode) h e

end Sys2Proof.Machine

/-! # Lockout entries judged one by one (R31 to R33) -/

namespace Sys2Proof.Machine

@[simp] theorem State.matrixRecompute_locks (s : State) : s.matrixRecompute.matrix.locks = s.matrix.locks := by
  simp [State.matrixRecompute]

/-- A move to the state it is in already leaves an entry. -/
theorem moveLock_of_eq {s : State} {i : EntryIx} {n : LockState} (e : LockoutEntry)
    (h : n = (s.matrix.locks.get i).state) : s.moveLock i e n = s := if_pos h

/-- A move to another state takes it, with a delay timer in PENDING alone (R31, R32). -/
theorem moveLock_locks {s : State} {i : EntryIx} {n : LockState} (e : LockoutEntry)
    (h : n ≠ (s.matrix.locks.get i).state) : (s.moveLock i e n).matrix.locks =
      s.matrix.locks.set i ⟨n, if n = .pending then some ⟨s.clock, e.delay * 100⟩ else none⟩ := by
  unfold State.moveLock
  dsimp only
  rw [if_neg h]
  simp only [State.submitAll_frame]
  split <;> rfl

/-- The runtime contents of an entry after it has been judged. -/
def State.judgedRun (s : State) (i : EntryIx) : LockRun :=
  match s.config.entries.get i with
  | none => s.matrix.locks.get i
  | some e =>
    let n := lockNext e (s.armed e) (s.lockCondition e.cond) (s.matrix.locks.get i).state
    if n = (s.matrix.locks.get i).state then s.matrix.locks.get i
    else ⟨n, if n = .pending then some ⟨s.clock, e.delay * 100⟩ else none⟩

theorem judgeLock_get (s : State) (j i : EntryIx) :
    (s.judgeLock j).matrix.locks.get i = if i = j then s.judgedRun j else s.matrix.locks.get i := by
  unfold State.judgeLock State.judgedRun
  rcases s.config.entries.get j with _ | e <;> dsimp only
  · by_cases h : i = j <;> simp [h]
  · by_cases same : lockNext e (s.armed e) (s.lockCondition e.cond) (s.matrix.locks.get j).state =
        (s.matrix.locks.get j).state
    · rw [moveLock_of_eq e same, if_pos same]
      by_cases h : i = j <;> simp [h]
    · rw [moveLock_locks e same, if_neg same, PerEntry.get_set]

/-- An entry is judged on its own record and contents, the clock, the mode, the image and the tanks. -/
theorem judgedRun_congr {s t : State} {i : EntryIx} (own : t.matrix.locks.get i = s.matrix.locks.get i)
    (config : t.config = s.config) (clock : t.clock = s.clock) (mode : t.matrix.mode = s.matrix.mode)
    (image : t.image = s.image) (tanks : t.tanks = s.tanks) : t.judgedRun i = s.judgedRun i := by
  simp only [State.judgedRun, own, config, clock, armed_congr _ mode, lockCondition_congr _ image tanks]

/-- The runtime contents that an entry judged from CLEAR comes to (R31). -/
def State.runFromClear (s : State) (e : LockoutEntry) : LockRun :=
  if s.armed e = true ∧ s.lockCondition e.cond = true then
    if e.delay = 0 then ⟨.tripped, none⟩ else ⟨.pending, some ⟨s.clock, e.delay * 100⟩⟩
  else ⟨.clear, none⟩

theorem judgedRun_of_clear {s : State} {i : EntryIx} {e : LockoutEntry} (entry : s.config.entries.get i = some e)
    (clear : s.matrix.locks.get i = ⟨.clear, none⟩) : s.judgedRun i = s.runFromClear e := by
  simp only [State.judgedRun, State.runFromClear, entry, clear, lockNext, Bool.and_eq_true]
  split_ifs <;> simp_all

theorem runFromClear_congr {s t : State} (e : LockoutEntry) (clock : t.clock = s.clock)
    (mode : t.matrix.mode = s.matrix.mode) (image : t.image = s.image) (tanks : t.tanks = s.tanks) :
    t.runFromClear e = s.runFromClear e := by
  simp only [State.runFromClear, clock, armed_congr _ mode, lockCondition_congr _ image tanks]

/-- The three cases of R31, for contents that are what the judgement from CLEAR gives. -/
theorem runFromClear_cases {s : State} {e : LockoutEntry} {r : LockRun} (h : r = s.runFromClear e) :
    if s.armed e = true ∧ s.lockCondition e.cond = true then
      if e.delay = 0 then r = ⟨.tripped, none⟩ else r = ⟨.pending, some ⟨s.clock, e.delay * 100⟩⟩
    else r = ⟨.clear, none⟩ := by
  unfold State.runFromClear at h
  split_ifs at h ⊢ <;> exact h

end Sys2Proof.Machine

/-! # LOCKOUT_SET (R31, R36, R155, R156) -/

namespace Sys2Proof.Machine

/-- The state as a request's owner finds it: no partial frame is left in the receiver (R148). -/
def State.framed (s : State) : State := { s with link := { s.link with rx := [] } }

/-- LOCKOUT_SET leaves what its owner made, and its reply. -/
theorem exec_lockoutSet {tag : Byte} {p : List Byte} {s : State} (listening : s.listening = true) :
    exec (.lockoutSet tag p) s = .next ({ (answerLockoutSet p s.framed).1 with link := s.link }.answered 0x10 tag
      (answerLockoutSet p s.framed).2) := by
  have e : exec (.lockoutSet tag p) s = .next (s.onFrame 0x10 tag (answerLockoutSet p)) := rfl
  rw [e, onFrame_answered _ _ _ listening (by simp)]
  rfl

@[simp] theorem State.writeEntry_config (s : State) (i : EntryIx) (new : Option LockoutEntry) :
    (s.writeEntry i new).config = { s.config with entries := s.config.entries.set i new } := by
  simp only [State.writeEntry]
  split <;> simp

/-- What a written entry comes to: CLEAR, or what it is judged to from there (R31, R36). -/
def State.runAfterWrite (s : State) : Option LockoutEntry → LockRun
  | none => ⟨.clear, none⟩
  | some e => s.runFromClear e

/-- The state with the entry that is to be replaced in CLEAR (R36). -/
def State.oldCleared (s : State) (i : EntryIx) : State :=
  match s.config.entries.get i with
  | none => s
  | some old => s.moveLock i old .clear

/-- The state with the entry replaced, not yet judged (R36). -/
def State.putEntry (s : State) (i : EntryIx) (new : Option LockoutEntry) : State :=
  { s with
    config := { s.config with entries := s.config.entries.set i new }
    matrix := { s.matrix with locks := s.matrix.locks.set i { state := .clear, timer := none } } }

theorem writeEntry_eq (s : State) (i : EntryIx) (new : Option LockoutEntry) :
    s.writeEntry i new = (((s.oldCleared i).putEntry i new).judgeLock i).matrixRecompute := rfl

theorem oldCleared_frame (s : State) (i : EntryIx) :
    (s.oldCleared i).clock = s.clock ∧ (s.oldCleared i).matrix.mode = s.matrix.mode ∧
    (s.oldCleared i).image = s.image ∧ (s.oldCleared i).tanks = s.tanks := by
  unfold State.oldCleared
  split <;> simp

theorem oldCleared_others (s : State) {i j : EntryIx} (h : j ≠ i) :
    (s.oldCleared i).matrix.locks.get j = s.matrix.locks.get j := by
  unfold State.oldCleared
  split
  · rfl
  · next old _ =>
    by_cases clear : LockState.clear = (s.matrix.locks.get i).state
    · rw [moveLock_of_eq old clear]
    · rw [moveLock_locks old clear, PerEntry.get_set_ne _ _ h]

theorem writeEntry_get (s : State) (i : EntryIx) (new : Option LockoutEntry) (j : EntryIx) :
    (s.writeEntry i new).matrix.locks.get j = if j = i then s.runAfterWrite new else s.matrix.locks.get j := by
  have clear : ((s.oldCleared i).putEntry i new).matrix.locks.get i = ⟨.clear, none⟩ := PerEntry.get_set_self _ _ _
  have entry : ((s.oldCleared i).putEntry i new).config.entries.get i = new := PerEntry.get_set_self _ _ _
  obtain ⟨clock, mode, image, tanks⟩ := oldCleared_frame s i
  rw [writeEntry_eq, State.matrixRecompute_locks, judgeLock_get]
  split
  · cases new with
    | none => simp [State.judgedRun, entry, clear, State.runAfterWrite]
    | some e =>
      rw [judgedRun_of_clear entry clear]
      exact runFromClear_congr (t := (s.oldCleared i).putEntry i (some e)) e clock mode image tanks
  · next h => exact (PerEntry.get_set_ne _ _ h).trans (oldCleared_others s h)

/-- In ROAD an entry is armed by its bit 0 (R29, R155). -/
theorem armed_of_road {s : State} (e : LockoutEntry) (road : s.matrix.mode = .road) :
    s.armed e = e.armed.getLsbD 0 := by
  simp only [State.armed, road]
  rfl

theorem notAtRest_iff {s : State} : s.notAtRest = true ↔ s.matrix.mode ≠ .road ∨ 5 ≤ s.image.v := by
  simp [State.notAtRest, State.moving]

/-- The outcome of LOCKOUT_SET with an entry that is in order, by the checks of R36. -/
theorem lockoutSet_written {tag : Byte} {s : State} {i : EntryIx} {sent : Option LockoutEntry}
    {outcome : StepOutcome} (e : outcome = .next ({ (s.framed.lockoutSet i sent).1 with link := s.link }.answered 0x10 tag
      (s.framed.lockoutSet i sent).2)) :
    if s.storeBusy = true then outcome = .next (s.answered 0x10 tag (.refused .storeBusy 0 0 0))
    else if s.matrix.mode ≠ .road ∨ 5 ≤ s.image.v then outcome = .next (s.answered 0x10 tag s.wrongState)
    else ∃ u : State,
      outcome = .next (u.answered 0x10 tag (.done (decide (sent.map clampEntry ≠ sent)) false [])) ∧
      u = { s with
        config := { s.config with entries := s.config.entries.set i (sent.map clampEntry) }, matrix := u.matrix
        gov := u.gov, supply := u.supply, reports := u.reports } ∧
      (∀ j, j ≠ i → u.matrix.locks.get j = s.matrix.locks.get j) ∧
      match sent.map clampEntry with
      | none => u.matrix.locks.get i = ⟨.clear, none⟩
      | some e =>
        if e.armed.getLsbD 0 = true ∧ s.lockCondition e.cond = true then
          if e.delay = 0 then u.matrix.locks.get i = ⟨.tripped, none⟩
          else u.matrix.locks.get i = ⟨.pending, some ⟨s.clock, e.delay * 100⟩⟩
        else u.matrix.locks.get i = ⟨.clear, none⟩ := by
  have framedBusy : s.framed.storeBusy = s.storeBusy := rfl
  have framedRest : s.framed.notAtRest = s.notAtRest := rfl
  rw [e]
  unfold State.lockoutSet
  rw [framedBusy, framedRest]
  by_cases busy : s.storeBusy = true
  · rw [if_pos busy, if_pos busy]
    rfl
  rw [if_neg busy, if_neg busy]
  by_cases rest : s.notAtRest = true
  · rw [if_pos rest, if_pos (notAtRest_iff.1 rest)]
    rfl
  have atRest := notAtRest_iff.not.1 rest
  rw [if_neg rest, if_neg atRest]
  have road : s.matrix.mode = .road := by simpa using (not_or.1 atRest).1
  refine ⟨{ s.framed.writeEntry i (sent.map clampEntry) with link := s.link }, rfl, ?_, fun j h => ?_, ?_⟩
  · ext1 <;> simp [State.framed]
  · exact (writeEntry_get _ _ _ _).trans (if_neg h)
  · have own := (writeEntry_get s.framed i (sent.map clampEntry) i).trans (if_pos rfl)
    split
    · next none => exact own.trans (by rw [none]; rfl)
    · next e some =>
      rw [← armed_of_road e road]
      exact runFromClear_cases (own.trans (by rw [some]; rfl))

/-- Settles O46: the checks before the write by the request's bytes, the others and the write by `lockoutSet_written`. -/
theorem lockoutSetWritesAndJudgesTheEntry : Obligations.LockoutSetWritesAndJudgesTheEntry := by
  intro tag index b1 b2 b3 b4 b5 b6 b7 b8 b9 s listening
  have e := exec_lockoutSet (tag := tag) (p := [index, b1, b2, b3, b4, b5, b6, b7, b8, b9]) listening
  unfold answerLockoutSet at e
  dsimp only
  rcases entry : entryOfNo index.toNat with _ | i <;> simp only [entry] at e ⊢
  · rw [e, State.reads, unknownItem_byte]
    rfl
  · rcases read : readEntry b1 b2 b3 b4 b5 b6 b7 b8 b9 with p | _ | x <;> simp only [read] at e ⊢
    · rw [e]
      rfl
    · exact lockoutSet_written e
    · exact lockoutSet_written e

end Sys2Proof.Machine

/-! # LATCH_CLEAR and SILENCE (R31, R38, R39, R41) -/

namespace Sys2Proof.Machine

/-! ### A latch cleared (R38) -/

/-- The runtime contents of an entry after its latch is cleared: CLEAR where it was LATCHED (R38). -/
def State.clearedRun (s : State) (i : EntryIx) : LockRun :=
  if (s.config.entries.get i).isSome ∧ (s.matrix.locks.get i).state = .latched then ⟨.clear, none⟩
  else s.matrix.locks.get i

theorem clearLatch_get (s : State) (j i : EntryIx) :
    (s.clearLatch j).matrix.locks.get i = if i = j then s.clearedRun j else s.matrix.locks.get i := by
  have kept : s.matrix.locks.get i = if i = j then s.matrix.locks.get j else s.matrix.locks.get i := by
    by_cases h : i = j <;> simp [h]
  unfold State.clearLatch State.clearedRun
  rcases s.config.entries.get j with _ | e
  · simpa using kept
  · by_cases latched : (s.matrix.locks.get j).state = .latched
    · have moves : LockState.clear ≠ (s.matrix.locks.get j).state := by simp [latched]
      simp [latched, moveLock_locks e moves, PerEntry.get_set]
    · simpa [latched] using kept

theorem clearedRun_congr {s t : State} {i : EntryIx} (own : t.matrix.locks.get i = s.matrix.locks.get i)
    (config : t.config = s.config) : t.clearedRun i = s.clearedRun i := by
  simp only [State.clearedRun, own, config]

/-! ### One entry (R38) -/

/-- LATCH_CLEAR leaves what its owner made, and its reply. -/
theorem exec_latchClear {tag : Byte} {p : List Byte} {s : State} (listening : s.listening = true) :
    exec (.latchClear tag p) s = .next ({ (answerLatchClear p s.framed).1 with link := s.link }.answered 0x12 tag
      (answerLatchClear p s.framed).2) := by
  have e : exec (.latchClear tag p) s = .next (s.onFrame 0x12 tag (answerLatchClear p)) := rfl
  rw [e, onFrame_answered _ _ _ listening (by simp)]
  rfl

/-- The answer to LATCH_CLEAR of an entry that is present (R38). -/
theorem answerLatchClear_one {s : State} {index : Byte} {i : EntryIx} {e : LockoutEntry}
    (named : entryOfNo index.toNat = some i) (entry : s.config.entries.get i = some e) :
    answerLatchClear [index] s = s.latchClearOne i := by
  have one : index ≠ 255#8 := by
    rintro rfl
    cases named
  simp [answerLatchClear, one, named, entry]

/-- The answer to LATCH_CLEAR of an index that names no present entry (R38). -/
theorem answerLatchClear_unknown {s : State} {index : Byte} (one : index ≠ 255)
    (absent : ∀ i e, entryOfNo index.toNat = some i → s.config.entries.get i ≠ some e) :
    answerLatchClear [index] s = s.reads (.refused .unknownItem 0 index 0) := by
  have unknown := unknownItem_byte index
  have one : index ≠ 255#8 := one
  simp only [answerLatchClear]
  rw [if_neg one]
  rcases named : entryOfNo index.toNat with _ | i <;> dsimp only
  · rw [unknown]
  · have none : (s.config.entries.get i).isNone = true := by
      rcases entry : s.config.entries.get i with _ | e
      · rfl
      · exact absurd entry (absent i e named)
    rw [if_pos none, unknown]

/-- A LATCHED entry cleared and judged from CLEAR (R31, R38; log 25). -/
theorem latchClearOne_get {s : State} {i : EntryIx} {e : LockoutEntry} (entry : s.config.entries.get i = some e)
    (latched : (s.matrix.locks.get i).state = .latched) (j : EntryIx) :
    (s.latchClearOne i).1.matrix.locks.get j = if j = i then s.runFromClear e else s.matrix.locks.get j := by
  have clear : s.clearedRun i = ⟨.clear, none⟩ := if_pos ⟨by simp [entry], latched⟩
  have kept : (s.clearLatch i).config.entries.get i = some e := by simpa using entry
  simp only [State.latchClearOne, latched, State.matrixRecompute_locks, judgeLock_get]
  split
  · rw [judgedRun_of_clear kept (by rw [clearLatch_get, if_pos rfl, clear]),
      runFromClear_congr (s := s) e (by simp) (by simp) (by simp) (by simp)]
  · next h => rw [clearLatch_get, if_neg h]

/-- What LATCH_CLEAR leaves differs in the matrix, the governor, the supply and the queue alone. -/
theorem answerLatchClear_parts {p : List Byte} {s u : State}
    (h : u = { (answerLatchClear p s.framed).1 with link := s.link }) :
    u = { s with matrix := u.matrix, gov := u.gov, supply := u.supply, reports := u.reports } := by
  subst h
  ext1 <;> simp [State.framed]

/-! ### All entries (R39) -/

theorem mem_latchedEntries {s : State} {i : EntryIx} : i ∈ s.latchedEntries ↔
    (s.config.entries.get i).isSome ∧ (s.matrix.locks.get i).state = .latched := by
  simp [State.latchedEntries, EntryIx.mem_all]

theorem mem_heldLatches {s : State} {i : EntryIx} : i ∈ s.heldLatches ↔
    ∃ e, s.config.entries.get i = some e ∧ e.latching = true ∧ (s.matrix.locks.get i).state = .tripped := by
  rcases entry : s.config.entries.get i with _ | e <;> simp [State.heldLatches, EntryIx.mem_all, entry]

theorem latchedEntries_nodup (s : State) : s.latchedEntries.Nodup :=
  List.Nodup.filter _ (by decide : EntryIx.all.Nodup)

/-- The state with every LATCHED entry in CLEAR, not yet judged (R39). -/
def State.latchesCleared (s : State) : State := s.latchedEntries.foldl State.clearLatch s

theorem latchesCleared_frame (s : State) :
    s.latchesCleared.config = s.config ∧ s.latchesCleared.clock = s.clock ∧ s.latchesCleared.matrix.mode = s.matrix.mode ∧
    s.latchesCleared.image = s.image ∧ s.latchesCleared.tanks = s.tanks :=
  foldl_keeps (fun t : State => t.config = s.config ∧ t.clock = s.clock ∧ t.matrix.mode = s.matrix.mode ∧
    t.image = s.image ∧ t.tanks = s.tanks) State.clearLatch s.latchedEntries s ⟨rfl, rfl, rfl, rfl, rfl⟩
    fun t i h => by simpa using h

theorem latchesCleared_get (s : State) (i : EntryIx) :
    s.latchesCleared.matrix.locks.get i = if i ∈ s.latchedEntries then ⟨.clear, none⟩ else s.matrix.locks.get i := by
  have folded := foldl_own (own := fun (s : State) i => s.matrix.locks.get i) clearLatch_get
    (fun s j i h => clearedRun_congr (by rw [clearLatch_get, if_neg h]) (by simp)) _ (latchedEntries_nodup s) s i
  refine folded.trans ?_
  split
  · next h => exact if_pos (mem_latchedEntries.1 h)
  · rfl

/-- With ALL every LATCHED entry is cleared and judged from CLEAR, and no other moves (R31, R39). -/
theorem latchClearAll_get (s : State) (i : EntryIx) : s.latchClearAll.1.matrix.locks.get i =
    if i ∈ s.latchedEntries then s.latchesCleared.judgedRun i else s.matrix.locks.get i := by
  have folded := foldl_own (own := fun (s : State) i => s.matrix.locks.get i) judgeLock_get
    (fun s j i h => judgedRun_congr (by rw [judgeLock_get, if_neg h]) (by simp) (by simp) (by simp) (by simp) (by simp))
    _ (latchedEntries_nodup s) s.latchesCleared i
  have all : s.latchClearAll.1 = (s.latchedEntries.foldl State.judgeLock s.latchesCleared).matrixRecompute := rfl
  rw [all, State.matrixRecompute_locks]
  refine folded.trans ?_
  split
  · rfl
  · next h => rw [latchesCleared_get, if_neg h]

theorem latchClearAll_latched {s : State} {i : EntryIx} {e : LockoutEntry} (entry : s.config.entries.get i = some e)
    (latched : (s.matrix.locks.get i).state = .latched) : s.latchClearAll.1.matrix.locks.get i = s.runFromClear e := by
  have member : i ∈ s.latchedEntries := mem_latchedEntries.2 ⟨by simp [entry], latched⟩
  obtain ⟨config, clock, mode, image, tanks⟩ := latchesCleared_frame s
  rw [latchClearAll_get, if_pos member, judgedRun_of_clear (by rwa [config]) (by rw [latchesCleared_get, if_pos member]),
    runFromClear_congr e clock mode image tanks]

theorem latchClearAll_other {s : State} {i : EntryIx}
    (other : s.config.entries.get i = none ∨ (s.matrix.locks.get i).state ≠ .latched) :
    s.latchClearAll.1.matrix.locks.get i = s.matrix.locks.get i := by
  have member : i ∉ s.latchedEntries := by
    rw [mem_latchedEntries]
    rintro ⟨present, latched⟩
    rcases other with absent | other
    · simp [absent] at present
    · exact other latched
  rw [latchClearAll_get, if_neg member]

theorem entryNo_injective : Function.Injective entryNo := by
  intro i j h
  cases i <;> cases j <;> simp_all [entryNo]

theorem entryNo_lt (i : EntryIx) : entryNo i < 16 := by cases i <;> decide

/-- The set that the refusal of LATCH_CLEAR with ALL lists (R39, R155). -/
theorem heldLatches_testBit (s : State) (i : EntryIx) :
    (natOfBytes (u16 (bitSet (s.heldLatches.map entryNo)))).testBit (entryNo i) = true ↔ i ∈ s.heldLatches := by
  rw [natOfBytes_u16, show 65536 = 2 ^ 16 from rfl, Nat.testBit_mod_two_pow, bitSet_testBit]
  simp [entryNo_lt, List.mem_map_of_injective entryNo_injective]

/-! ### SILENCE (R41) -/

/-- With the horn as its law says, muting it turns it off and moves nothing else (R40, R41). -/
theorem silence_of_hornLaw {s : State} (h : s.HornLaw) : s.silence =
    if s.hornCondition = true then { s with matrix := { s.matrix with muted := true, horn := false } } else s := by
  obtain ⟨-, -, tank⟩ := h
  unfold State.silence
  split
  · next sounds =>
    have sounds : ({ s with matrix := { s.matrix with muted := true } } : State).hornCondition = true := sounds
    have tank : s.matrix.tankHorn = ({ s with matrix := { s.matrix with muted := true } } : State).tankHornCondition := tank
    simp [State.judgeHorn, sounds, ← tank]
  · rfl

/-- SILENCE leaves what its owner made, and its reply. -/
theorem exec_silence {tag : Byte} {s : State} (listening : s.listening = true) :
    exec (.silence tag []) s = .next (s.silence.answered 0x13 tag (.done false false [])) := by
  have e : exec (.silence tag []) s = .next (s.onFrame 0x13 tag (answerSilence [])) := rfl
  rw [e, onFrame_answered _ _ _ listening (by simp)]
  unfold answerSilence State.silence
  have same : ({ s with link := { s.link with rx := [] } } : State).hornCondition = s.hornCondition := rfl
  dsimp only
  rw [same]
  split <;> rfl

/-- Settles O47: one entry by its runtime state, ALL by `latchClearAll_latched` and `latchClearAll_other`, and the horn
by `silence_of_hornLaw`. -/
theorem latchClearAndSilence : Obligations.LatchClearAndSilence := by
  refine ⟨fun tag index s listening => ?_, fun tag s listening horn => ?_⟩
  · intro cleared framed
    have e := exec_latchClear (tag := tag) (p := [index]) listening
    refine ⟨fun i x named entry => ?_, fun one absent => ?_, ?_⟩
    · have one : answerLatchClear [index] s.framed = s.framed.latchClearOne i := answerLatchClear_one named entry
      have parts := answerLatchClear_parts (p := [index]) (s := s) rfl
      rw [one] at e parts
      rcases state : (s.matrix.locks.get i).state <;> dsimp only
      case latched =>
        have get := latchClearOne_get (s := s.framed) entry state
        have answer : (s.framed.latchClearOne i).2 = .done false false [] := by
          have state : (s.framed.matrix.locks.get i).state = .latched := state
          simp only [State.latchClearOne, state]
          rfl
        rw [answer] at e
        exact ⟨_, e, parts, runFromClear_cases (s := s) ((get i).trans (if_pos rfl)),
          fun j h => (get j).trans (if_neg h)⟩
      all_goals
        have state : (s.framed.matrix.locks.get i).state = _ := state
        simp only [State.latchClearOne, state] at e
        exact e
    · rw [answerLatchClear_unknown (s := s.framed) one absent] at e
      exact e
    · rintro rfl
      refine ⟨_, _, e, answerLatchClear_parts rfl, fun i => ?_, fun clear => ?_, fun held => ?_⟩
      · split
        · next absent => exact latchClearAll_other (s := s.framed) (.inl absent)
        · next x entry =>
          split
          · next latched => exact runFromClear_cases (s := s) (latchClearAll_latched (s := s.framed) entry latched)
          · next other => exact latchClearAll_other (s := s.framed) (.inr other)
      · have empty : s.heldLatches = [] := List.eq_nil_iff_forall_not_mem.2 fun i h => clear i (mem_heldLatches.1 h)
        have empty : s.framed.heldLatches.isEmpty = true := List.isEmpty_iff.2 empty
        exact if_pos empty
      · obtain ⟨i, hi⟩ := held
        have some : ¬s.framed.heldLatches.isEmpty = true := fun h =>
          List.ne_nil_of_mem (mem_heldLatches.2 hi) (List.isEmpty_iff.1 h)
        exact ⟨_, _, if_neg some, fun j => (heldLatches_testBit s j).trans mem_heldLatches⟩
  · rw [exec_silence listening, silence_of_hornLaw horn]

end Sys2Proof.Machine

/-! # The overspeed timer at a road gate, and the two expiries of the matrix (R21, R27, R28, R32, R33, R40, R41, R93) -/

namespace Sys2Proof.Machine

/-! ### What the judgement leaves of the overspeed watch (R28) -/

/-- The roll overspeed condition and its timer stand as they did. -/
def State.SameWatch (s t : State) : Prop :=
  t.matrix.overspeed = s.matrix.overspeed ∧ t.matrix.overspeedTimer = s.matrix.overspeedTimer

theorem State.SameWatch.trans {s t u : State} (h : s.SameWatch t) (h' : t.SameWatch u) : s.SameWatch u :=
  ⟨h'.1.trans h.1, h'.2.trans h.2⟩

theorem State.SameWatch.of_butHorn {s t : State} (h : t.matrix.butHorn = s.matrix.butHorn) : s.SameWatch t := by
  obtain ⟨-, -, -, -, -, -, -, overspeed, timer⟩ := Matrix.fields_of_butHorn h
  exact ⟨overspeed, timer⟩

/-- The recomputation of a permit moves the permits and the drive inhibit alone (R21, R22). -/
theorem recomputePermit_moves (s : State) (p : Permit) : (s.recomputePermit p).matrix = { s.matrix with
    permits := (s.recomputePermit p).matrix.permits, driveInhibit := (s.recomputePermit p).matrix.driveInhibit } := by
  unfold State.recomputePermit
  dsimp only
  split
  · rfl
  · split <;> rfl

/-- That of all permits moves the cap besides (R27). -/
theorem recomputePermits_moves (s : State) : s.recomputePermits.matrix = { s.matrix with
    permits := s.recomputePermits.matrix.permits, driveInhibit := s.recomputePermits.matrix.driveInhibit
    cap := s.recomputePermits.matrix.cap } := by
  have folded := foldl_keeps (fun t : State => t.matrix =
    { s.matrix with permits := t.matrix.permits, driveInhibit := t.matrix.driveInhibit })
    State.recomputePermit Permit.all s rfl fun t p h => by
      rw [recomputePermit_moves, h]
  have capped (t : State) (h : t.matrix =
      { s.matrix with permits := t.matrix.permits, driveInhibit := t.matrix.driveInhibit }) :
      t.recomputeCap.matrix = { s.matrix with permits := t.recomputeCap.matrix.permits
                                              driveInhibit := t.recomputeCap.matrix.driveInhibit
                                              cap := t.recomputeCap.matrix.cap } := by
    unfold State.recomputeCap
    dsimp only
    split
    · rw [h]
    · simp only [State.cutDemand_frame]
      rw [h]
  unfold State.recomputePermits
  refine capped _ ?_
  split
  · simpa using folded
  · exact folded

theorem recomputePermits_watch (s : State) : s.SameWatch s.recomputePermits := by
  rw [State.SameWatch, recomputePermits_moves]
  exact ⟨rfl, rfl⟩

/-- A lockout entry's move moves the entries and the mute alone (R33, R41). -/
theorem moveLock_moves (s : State) (i : EntryIx) (e : LockoutEntry) (n : LockState) : (s.moveLock i e n).matrix =
    { s.matrix with locks := (s.moveLock i e n).matrix.locks, muted := (s.moveLock i e n).matrix.muted } := by
  unfold State.moveLock
  dsimp only
  split
  · rfl
  · simp only [State.submitAll_frame]
    split <;> rfl

theorem moveLock_watch (s : State) (i : EntryIx) (e : LockoutEntry) (n : LockState) : s.SameWatch (s.moveLock i e n) := by
  rw [State.SameWatch, moveLock_moves]
  exact ⟨rfl, rfl⟩

/-- In the mode that stays, no judgement moves the watch. -/
theorem watch_rejudged (s : State) : Rejudged s.SameWatch s.SameWatch where
  weaken := id
  horn := fun same h => h.trans (.of_butHorn same)
  lock := fun i e n h => h.trans (moveLock_watch _ i e n)
  quiet := fun quiet h => h.trans (.of_butHorn quiet.1)
  recompute := fun h => h.trans (recomputePermits_watch _)

/-- Roll overspeed is not raised (R28). -/
def State.Calm (s : State) : Prop := s.matrix.overspeed = false

/-- Nothing but the expiry of its timer raises roll overspeed (R28). -/
theorem calm_judged : Judged State.Calm State.Calm := by
  have outputs {s t : State} (same : s.SameOutputs t) (h : s.Calm) : t.Calm := by
    obtain ⟨-, -, -, -, raised⟩ := same
    exact Bool.eq_false_iff.2 fun ht => Bool.eq_false_iff.1 h (raised ht)
  refine .of_outputs id outputs (fun quiet => outputs (.of_butHorn quiet.1)) (fun {s} h => ?_) (fun {s} m h => ?_)
  · exact (recomputePermits_watch s).1.trans h
  · unfold State.setMode State.clearOverspeed
    dsimp only
    repeat' split
    all_goals first | exact h | rfl

/-! ### The watch at a road gate (R28) -/

/-- The timer of the watch after a gate in that mode, on v against the ceiling (R28). -/
def State.watchNext (s : State) : Option Timer :=
  match s.matrix.overspeedTimer with
  | some t => if s.image.v ≤ s.config.rollCeiling + 20 then none else some t
  | none =>
    if s.matrix.overspeed = false ∧ s.config.rollCeiling + 20 < s.image.v then some ⟨s.clock, 5000⟩ else none

theorem judgeOverspeed_overspeed (s : State) : s.judgeOverspeed.matrix.overspeed =
    if s.image.v ≤ s.config.rollCeiling then false else s.matrix.overspeed := by
  simp only [State.judgeOverspeed, State.clearOverspeed]
  split
  · split
    · simp
    · next h => simpa using h
  · rfl

/-- In PUMP_AND_ROLL a gate starts, stops or leaves the timer (R28); one that clears the condition starts none. -/
theorem judgeOverspeed_timer {s : State} (roll : s.matrix.mode = .pumpAndRoll) :
    s.judgeOverspeed.matrix.overspeedTimer = s.watchNext := by
  have cleared : s.clearOverspeed.matrix.overspeedTimer = s.matrix.overspeedTimer := by
    unfold State.clearOverspeed
    split <;> rfl
  simp only [State.judgeOverspeed, State.watchNext]
  by_cases slow : s.image.v ≤ s.config.rollCeiling
  · have below : ¬s.config.rollCeiling + 20 < s.image.v := by omega
    cases timer : s.matrix.overspeedTimer <;> simp [slow, cleared, timer, below]
  · cases timer : s.matrix.overspeedTimer <;> simp [slow, timer, roll, State.startTimer]

/-- The state after a gate's speed is taken and the roll limits are judged on it (R9, R26, R28). -/
def State.roadWatched (s : State) : State := s.roadGated.judgeRoll.judgeOverspeed

theorem roadGateEnd_watched (s : State) : s.roadGateEnd = (((s.roadWatched.seqRoadGate (s.roadGated.moving && !s.moving)).matrixJudge
    onRoadSpeed).tanksAtRoadGate s.moving).judgeComplete := rfl

/-- A gate that leaves the condition clear ends with it clear (R28). -/
theorem roadGateEnd_calm {s : State} (h : s.roadWatched.Calm) : s.roadGateEnd.matrix.overspeed = false := by
  rw [roadGateEnd_watched]
  exact calm_judged.judgeComplete (calm_judged.tanksAtRoadGate _ (calm_judged.matrixJudge _ (calm_judged.seqRoadGate _ h)))

/-- PUMP_AND_ROLL is the mode of ENGAGED alone (R18). -/
theorem engaged_of_pumpAndRoll {st : SeqState} {path : DrivePath} (h : modeOf st path = .pumpAndRoll) : st = .engaged := by
  cases st <;> cases path <;> first | rfl | cases h

/-- ENGAGED takes no notice of a gate's speed (R18). -/
theorem seqRoadGate_of_engaged {s : State} (engaged : s.seq.state = .engaged) (made : Bool) : s.seqRoadGate made = s := by
  unfold State.seqRoadGate
  rw [engaged]

/-- In PUMP_AND_ROLL the sequencer and completeness leave what the limits were judged to (R28). -/
theorem roadGateEnd_watch {s : State} (phase : s.PhaseLaw) (roll : s.matrix.mode = .pumpAndRoll) :
    s.roadWatched.SameWatch s.roadGateEnd := by
  have complete := phase.complete_of_mode (by simp [roll])
  have engaged : s.roadWatched.seq.state = .engaged := by
    simpa [State.roadWatched] using engaged_of_pumpAndRoll ((phase.modeLaw complete).symm.trans roll)
  rw [roadGateEnd_watched, seqRoadGate_of_engaged engaged, judgeComplete_of_not (.inl (by simpa [State.roadWatched] using complete))]
  have kept := watch_rejudged s.roadWatched
  exact kept.tanksAtRoadGate _ (kept.matrixJudge _ ⟨rfl, rfl⟩)

/-! ### The expiry of a delay timer (R21, R27, R32, R33, R93) -/

/-- An entry that is TRIPPED or LATCHED withholds every permit it names (R21, R33). -/
theorem permitHeld_of_lockout {s : State} {i : EntryIx} {e : LockoutEntry} (entry : s.config.entries.get i = some e)
    (holds : s.lockHolds i = true) {p : Permit} (named : e.effects.getLsbD (permitCode p) = true) :
    s.permitHeld p = false := by
  have applies : s.effectApplies (effectBit p) i = true := by simp [State.effectApplies, entry, holds, effectBit, named]
  have found : (s.lowestLockout p).isSome = true := by
    simpa [State.lowestLockout, EntryIx.mem_all] using ⟨i, applies⟩
  cases p <;> simp [State.permitHeld, State.permitFails, fails, found]

@[simp] theorem matrixRecompute_permits (s : State) (p : Permit) :
    s.matrixRecompute.matrix.permits.get p = s.permitHeld p := by
  simp [State.matrixRecompute, recomputePermits_permits]

/-- The recomputation ends with the cap of R27 and a demand that it bounds (R27, R81, R93). -/
theorem recomputePermits_cap (s : State) :
    s.recomputePermits.matrix.cap = s.recomputePermits.throttleCap ∧
    (s.gov.demand ≤ s.matrix.cap → s.recomputePermits.gov.demand ≤ s.recomputePermits.matrix.cap) := by
  have capped (t : State) (gov : t.gov = s.gov) (cap : t.matrix.cap = s.matrix.cap) :
      t.recomputeCap.matrix.cap = t.recomputeCap.throttleCap ∧
      (s.gov.demand ≤ s.matrix.cap → t.recomputeCap.gov.demand ≤ t.recomputeCap.matrix.cap) := by
    constructor
    · rw [recomputeCap_cap]
      simp [State.throttleCap]
    · intro bound
      rw [recomputeCap_cap]
      unfold State.recomputeCap
      dsimp only
      split
      · next same => rwa [same, gov, cap]
      · unfold State.cutDemand
        dsimp only
        split
        · exact le_rfl
        · next low => exact Nat.not_lt.1 low
  unfold State.recomputePermits
  simp only [Permit.all, List.foldl]
  split
  · exact capped _ (by simp) (by simp)
  · exact capped _ (by simp) (by simp)

/-- With a horn condition that holds and no mute, the horn sounds (R40). -/
theorem judgeHorn_sounds {s : State} (condition : s.hornCondition = true) (unmuted : s.matrix.muted = false) :
    s.judgeHorn.matrix.horn = true ∧ s.judgeHorn.matrix.muted = false := by
  simp [State.judgeHorn, condition, unmuted]

/-- An entry with HORN that trips ends the mute (R41). -/
theorem moveLock_tripped_unmuted {s : State} {i : EntryIx} {e : LockoutEntry}
    (moves : LockState.tripped ≠ (s.matrix.locks.get i).state) (horn : e.effects.getLsbD hornBit = true) :
    (s.moveLock i e .tripped).matrix.muted = false := by
  unfold State.moveLock
  dsimp only
  rw [if_neg moves, if_pos ⟨rfl, horn⟩, (State.submitAll_frame _ _).2.2.2.2.2.1]

/-- The expiry of a running delay timer trips its entry, and the permits, the cap and the horn follow (R32, R33). -/
theorem lockDelayExpiry_eq {s : State} {i : EntryIx} {e : LockoutEntry} (entry : s.config.entries.get i = some e)
    (pending : (s.matrix.locks.get i).state = .pending) :
    s.lockDelayExpiry i = (s.moveLock i e .tripped).matrixRecompute := by
  simp [State.lockDelayExpiry, entry, pending]

theorem lockDelayExpiry_idle {s : State} {i : EntryIx}
    (idle : s.config.entries.get i = none ∨ (s.matrix.locks.get i).state ≠ .pending) : s.lockDelayExpiry i = s := by
  unfold State.lockDelayExpiry
  split
  · rfl
  · next entry =>
    rcases idle with absent | other
    · rw [entry] at absent
      cases absent
    · exact if_neg other

/-- The outcome of the expiry of a running delay timer, part by part. -/
theorem lockDelayExpiry_tripped {s : State} {i : EntryIx} {e : LockoutEntry} (entry : s.config.entries.get i = some e)
    (pending : (s.matrix.locks.get i).state = .pending) :
    let u := s.lockDelayExpiry i
    u.matrix.locks = s.matrix.locks.set i ⟨.tripped, none⟩ ∧
    (∀ p, e.effects.getLsbD (permitCode p) = true → u.matrix.permits.get p = false) ∧
    (e.effects.getLsbD 4 = true → u.matrix.horn = true ∧ u.matrix.muted = false) ∧
    (u.matrix.permits.get .throttle = false → u.matrix.cap = 0 ∧ (s.gov.demand ≤ s.matrix.cap → u.gov.demand = 0)) := by
  have moves : LockState.tripped ≠ (s.matrix.locks.get i).state := by simp [pending]
  have locks : (s.moveLock i e .tripped).matrix.locks = s.matrix.locks.set i ⟨.tripped, none⟩ := moveLock_locks e moves
  have kept : (s.moveLock i e .tripped).config.entries.get i = some e := by simpa using entry
  have holds : (s.moveLock i e .tripped).lockHolds i = true := by simp [State.lockHolds, locks]
  rw [lockDelayExpiry_eq entry pending]
  intro u
  refine ⟨by simp [u, locks], fun p named => ?_, fun horn => ?_, fun withheld => ?_⟩
  · rw [matrixRecompute_permits]
    exact permitHeld_of_lockout kept holds named
  · refine judgeHorn_sounds ?_ ?_
    · have applies : (s.moveLock i e .tripped).recomputePermits.effectApplies hornBit i = true := by
        have holds : (s.moveLock i e .tripped).recomputePermits.lockHolds i = true := by simpa [State.lockHolds] using holds
        have horn : e.effects.getLsbD hornBit = true := horn
        simp [State.effectApplies, entry, holds, horn]
      have sounds := List.any_eq_true.2 ⟨i, i.mem_all, applies⟩
      simp [State.hornCondition, sounds]
    · rw [recomputePermits_moves]
      exact moveLock_tripped_unmuted moves horn
  · obtain ⟨cap, bounded⟩ := recomputePermits_cap (s.moveLock i e .tripped)
    have zero : u.matrix.cap = 0 := by
      refine cap.trans ?_
      have withheld : (s.moveLock i e .tripped).recomputePermits.matrix.permits.throttle = false := withheld
      simp [State.throttleCap, withheld]
    refine ⟨zero, fun bound => Nat.le_zero.1 (zero ▸ bounded ?_)⟩
    rw [moveLock_moves]
    simpa using bound

/-! ### The expiry of the overspeed timer (R28, R40, R41) -/

theorem rollOverspeedExpiry_stopped {s : State} (stopped : s.matrix.overspeedTimer = none) :
    s.rollOverspeedExpiry = s := by
  simp [State.rollOverspeedExpiry, stopped]

/-- Roll overspeed raised is a horn condition newly arising: the horn sounds, with no mute (R28, R40, R41). -/
theorem rollOverspeedExpiry_running {s : State} {t : Timer} (running : s.matrix.overspeedTimer = some t) :
    s.rollOverspeedExpiry = { s with
      matrix := { s.matrix with
        overspeed := true, overspeedTimer := none, muted := false, horn := true, tankHorn := s.tankHornCondition }
      reports := s.reports.submit (protReport .rollOverspeed .raised (u16 s.image.v)) } := by
  have sounds (u : State) (h : u.matrix.overspeed = true) : u.hornCondition = true := by simp [State.hornCondition, h]
  simp only [State.rollOverspeedExpiry, running, State.hornArises, State.judgeHorn]
  rw [sounds _ rfl]
  simp [State.submit]
  rfl

/-- Settles O45: the gate by what the limits are judged to (`judgeOverspeed_overspeed`, `judgeOverspeed_timer`) and what
the rest of the gate leaves of it, the expiries by their equations. -/
theorem interlockTimersExpire : Obligations.InterlockTimersExpire := by
  refine ⟨fun s phase => ⟨s.roadGateEnd, rfl, ?_⟩, fun s => ⟨fun stopped => ?_, fun t running => ?_⟩, fun i s =>
    ⟨fun idle => ?_, fun e entry pending => ?_⟩⟩
  · have speed : s.roadGated.judgeRoll.image.v = min 1500 (s.image.gateCount.f1 * 72000 / s.config.inputs.ppk) :=
      clampNat_zero _ _
    have overspeed := judgeOverspeed_overspeed s.roadGated.judgeRoll
    rw [speed] at overspeed
    refine ⟨fun calm => roadGateEnd_calm (overspeed.trans ?_), fun roll => ?_⟩
    · split
      · rfl
      · next fast => exact calm.resolve_left fast
    · obtain ⟨condition, timer⟩ := roadGateEnd_watch phase roll
      refine ⟨fun fast => ?_, ?_⟩
      · rw [condition]
        exact overspeed.trans (if_neg (Nat.not_le.2 fast))
      · rw [timer]
        refine (judgeOverspeed_timer (s := s.roadGated.judgeRoll) roll).trans ?_
        rw [State.watchNext, speed]
        rfl
  · rw [exec_event (f := State.rollOverspeedExpiry) rfl, rollOverspeedExpiry_stopped stopped]
  · rw [exec_event (f := State.rollOverspeedExpiry) rfl, rollOverspeedExpiry_running running]
  · rw [exec_event (f := (·.lockDelayExpiry i)) rfl, lockDelayExpiry_idle idle]
  · obtain ⟨locks, permits, horn, cap⟩ := lockDelayExpiry_tripped entry pending
    exact ⟨s.lockDelayExpiry i, rfl, by ext1 <;> simp, locks, by simp, permits, horn, cap⟩

end Sys2Proof.Machine


/-! # The shift solenoids, through every operation of the sequencer (R48, R51, R62) -/

namespace Sys2Proof.Machine

/-! ### The law on a record -/

/-- The law speaks of the sequencer's record and of v alone. -/
theorem State.SolenoidLaw.of_same {s t : State} (h : s.SolenoidLaw) (seq : t.seq = s.seq) (v : t.image.v = s.image.v) :
    t.SolenoidLaw := by
  unfold State.SolenoidLaw at h ⊢
  rwa [seq, v]

theorem State.SolenoidLaw.of_off {s : State} (pump : s.seq.oShiftPump = false) (road : s.seq.oShiftRoad = false) :
    s.SolenoidLaw := by simp [State.SolenoidLaw, pump, road]

theorem State.SolenoidLaw.pump_off {s : State} (h : s.SolenoidLaw) (hs : s.seq.state ≠ .shifting) :
    s.seq.oShiftPump = false := by
  by_contra on
  exact hs (h.1 (by simpa using on)).2.1

theorem State.SolenoidLaw.road_off {s : State} (h : s.SolenoidLaw) (hs : s.seq.state ≠ .releasing) :
    s.seq.oShiftRoad = false := by
  by_contra on
  exact hs (h.2 (by simpa using on)).1

/-! ### The road shift (R48, R62) -/

/-- In RELEASING on the split path the road shift is kept or let go, or begun or not, by its conditions (R62). -/
theorem judgeRoadShift_seq_releasing {s : State} (hs : s.seq.state = .releasing) (hp : s.seq.path = .split) :
    s.judgeRoadShift.seq =
      if s.seq.oShiftRoad then
        (if s.roadShiftConditions then s.seq else { s.seq with oShiftRoad := false, stepTimer := none })
      else if s.lineSet .d3 && s.roadShiftConditions then
        { s.seq with oShiftRoad := true, stepTimer := s.stepTimer .release }
      else s.seq := by
  unfold State.judgeRoadShift
  rw [if_pos ⟨hs, hp⟩]
  repeat' split
  all_goals simp

/-- Elsewhere there is none. -/
theorem judgeRoadShift_of_not {s : State} (h : ¬(s.seq.state = .releasing ∧ s.seq.path = .split)) :
    s.judgeRoadShift = s := if_neg h

theorem speed_of_roadShiftConditions {s : State} (h : s.roadShiftConditions = true) : s.image.v < 5 := by
  simp only [State.roadShiftConditions, State.moving, Bool.and_eq_true, Bool.not_eq_true', decide_eq_false_iff_not] at h
  omega

/-- After the judgement O_SHIFT_ROAD is energized only while the truck is stopped, whatever v was before it. -/
theorem judgeRoadShift_solenoids {s : State} (pump : s.seq.oShiftPump = false)
    (road : s.seq.oShiftRoad = true → s.seq.state = .releasing ∧ s.seq.path = .split) :
    s.judgeRoadShift.SolenoidLaw := by
  by_cases releasing : s.seq.state = .releasing ∧ s.seq.path = .split
  · obtain ⟨hs, hp⟩ := releasing
    have seq := judgeRoadShift_seq_releasing hs hp
    have v : s.judgeRoadShift.image = s.image := by simp
    unfold State.SolenoidLaw
    rw [seq, v]
    by_cases ready : s.roadShiftConditions = true
    · have stopped := speed_of_roadShiftConditions ready
      split_ifs <;> simp [pump, hs, hp, stopped]
    · rw [Bool.not_eq_true] at ready
      split_ifs with on <;> simp_all
  · rw [judgeRoadShift_of_not releasing]
    refine .of_off pump ?_
    by_contra on
    exact releasing (road (by simpa using on))

/-! ### The sequencer's operations -/

theorem enterIdle_solenoids (s : State) : s.enterIdle.SolenoidLaw :=
  .of_off (by simp [startSequencer]) (by simp [startSequencer])

theorem enterReleasing_solenoids {s : State} (pump : s.seq.oShiftPump = false) (road : s.seq.oShiftRoad = false) :
    s.enterReleasing.SolenoidLaw := by
  have clutch : s.enterReleasingClutch.SolenoidLaw := by
    have seq := s.enterReleasingClutch_seq
    split at seq
    · exact .of_off (by simp [seq, startSequencer]) (by simp [seq, startSequencer])
    · exact .of_off (by simp [seq, pump]) (by simp [seq, road])
  have ended (t : State) (pump : t.seq.oShiftPump = false) (road : t.seq.oShiftRoad = false) :
      (if t.lineClear .d3 then t.enterIdle else t.judgeRoadShift).SolenoidLaw := by
    split
    · exact enterIdle_solenoids t
    · exact judgeRoadShift_solenoids pump (by simp [road])
  have split : s.enterReleasingSplit.SolenoidLaw := ended _ (by simpa using pump) (by simpa using road)
  unfold State.enterReleasing
  split
  · exact clutch
  · exact split
  · exact split

/-- Entering IDLING_DOWN de-energizes both, and the release that may follow begins from there (R60). -/
theorem enterIdlingDown_solenoids (s : State) (r : SeqReason) : (s.enterIdlingDown r).SolenoidLaw := by
  have judged (t : State) (pump : t.seq.oShiftPump = false) (road : t.seq.oShiftRoad = false) :
      t.judgeIdlingDown.SolenoidLaw := by
    unfold State.judgeIdlingDown
    split
    · exact enterReleasing_solenoids pump road
    · exact .of_off pump road
  exact judged _ (by simp) (by simp)

theorem faultToIdlingDown_solenoids (s : State) (f : SeqFault) (r : SeqReason) :
    (s.faultToIdlingDown f r).SolenoidLaw := enterIdlingDown_solenoids _ r

theorem enterAwaitRange_solenoids {s : State} (road : s.seq.oShiftRoad = false) : s.enterAwaitRange.SolenoidLaw := by
  have passed (t : State) (pump : t.seq.oShiftPump = false) (road : t.seq.oShiftRoad = false) :
      (if t.lineSet .d2 then t.enterAwaitConfirm else t).SolenoidLaw := by
    split
    · exact .of_off (by simpa using pump) (by simpa using road)
    · exact .of_off pump road
  exact passed _ (by simp) (by simpa using road)

theorem seqLineChange_solenoids {s : State} (l : Line) (h : s.SolenoidLaw) : (s.seqLineChange l).SolenoidLaw := by
  have off (state : s.seq.state ≠ .shifting ∧ s.seq.state ≠ .releasing) :
      s.seq.oShiftPump = false ∧ s.seq.oShiftRoad = false := ⟨h.pump_off state.1, h.road_off state.2⟩
  rcases s.seqLineChange_cases l with e | ⟨hs, e⟩ | ⟨hs, e⟩ | ⟨-, e⟩ | ⟨hs, e⟩ | ⟨hs, e | e⟩ <;> rw [e]
  · exact h
  · exact enterAwaitRange_solenoids (h.road_off (by simp [hs]))
  · obtain ⟨pump, road⟩ := off (by rcases hs with hs | hs <;> simp [hs])
    exact .of_off (by simpa using pump) (by simpa using road)
  · exact faultToIdlingDown_solenoids s _ _
  · obtain ⟨pump, road⟩ := off (by simp [hs])
    exact .of_off (by simpa using pump) (by simpa using road)
  · exact enterIdle_solenoids s
  · exact judgeRoadShift_solenoids (h.pump_off (by simp [hs])) fun on => ⟨(h.2 on).1, (h.2 on).2.1⟩

/-! ### The events -/

theorem judgeComplete_solenoids {s : State} (phase : s.PhaseLaw) (h : s.SolenoidLaw) : s.judgeComplete.SolenoidLaw := by
  rcases judgeComplete_cases s with ⟨-, e⟩ | ⟨hc, -, e⟩ <;> rw [e]
  · exact h
  · have idle := (phase.1 hc).2
    have pump := h.pump_off (by simp [idle])
    have road := h.road_off (by simp [idle])
    refine .of_off ?_ ?_ <;> simp only [State.leaveStart_frame, State.startDecision_seq] <;> split <;> simp [pump, road]

theorem seqEngineGate_solenoids {s : State} (h : s.SolenoidLaw) : s.seqEngineGate.SolenoidLaw := by
  unfold State.seqEngineGate
  split
  · next hs =>
    unfold State.judgeIdlingDown
    split
    · exact enterReleasing_solenoids (h.pump_off (by simp [hs])) (h.road_off (by simp [hs]))
    · exact h
  · next hs => exact judgeRoadShift_solenoids (h.pump_off (by simp [hs])) fun on => ⟨(h.2 on).1, (h.2 on).2.1⟩
  all_goals exact h

/-- At the end of an F1 gate the record still fits the v before it; what the sequencer makes of it fits the new v:
motion ends SHIFTING, and the road shift is judged anew (R51, R62). -/
theorem seqRoadGate_solenoids {s t : State} (h : s.SolenoidLaw) (seq : t.seq = s.seq) :
    (t.seqRoadGate (t.moving && !s.moving)).SolenoidLaw := by
  have off (state : t.seq.state ≠ .shifting ∧ t.seq.state ≠ .releasing) : t.SolenoidLaw := by
    rw [seq] at state
    exact .of_off (by rw [seq]; exact h.pump_off state.1) (by rw [seq]; exact h.road_off state.2)
  have still (hs : t.seq.state = .shifting) (stays : ¬(t.moving && !s.moving) = true) : t.SolenoidLaw := by
    rw [seq] at hs
    have road := h.road_off (by simp [hs])
    refine ⟨fun on => ?_, fun on => by simp [seq, road] at on⟩
    have stopped : s.image.v < 5 := (h.1 (by rwa [seq] at on)).2.2
    have slow : t.image.v < 5 := by
      simp only [State.moving, Bool.and_eq_true, decide_eq_true_eq, Bool.not_eq_true', decide_eq_false_iff_not] at stays
      omega
    rw [seq]
    exact ⟨road, hs, slow⟩
  unfold State.seqRoadGate
  split
  · next hs =>
    split
    · exact faultToIdlingDown_solenoids t _ _
    · next stays => exact still hs stays
  · next hs =>
    split
    · exact faultToIdlingDown_solenoids t _ _
    · exact off (by simp [hs])
  · next hs =>
    refine judgeRoadShift_solenoids ?_ fun on => ?_
    · rw [seq] at hs ⊢
      exact h.pump_off (by simp [hs])
    · rw [seq] at on ⊢
      exact ⟨(h.2 on).1, (h.2 on).2.1⟩
  all_goals next hs => exact off (by simp [hs])

theorem engineGateEnd_solenoids {s : State} (phase : s.PhaseLaw) (h : s.SolenoidLaw) : s.engineGateEnd.SolenoidLaw := by
  have gated : s.engineGated.SolenoidLaw := h
  rw [engineGateEnd_eq]
  exact judgeComplete_solenoids (matrixJudge_phase _ (seqEngineGate_phase (engineGated_phase phase)))
    ((seqEngineGate_solenoids gated).of_same (by simp) (by simp))

theorem roadGateEnd_solenoids {s : State} (phase : s.PhaseLaw) (h : s.SolenoidLaw) : s.roadGateEnd.SolenoidLaw := by
  have gate := seqRoadGate_solenoids (t := s.roadGated.judgeRoll.judgeOverspeed) h (by simp)
  have moving : s.roadGated.judgeRoll.judgeOverspeed.moving = s.roadGated.moving := by simp [State.moving]
  rw [moving] at gate
  rw [roadGateEnd_eq]
  exact judgeComplete_solenoids (tanksAtRoadGate_phase _ (matrixJudge_phase _
    (seqRoadGate_phase _ ((roadGated_samePhase s).phaseLaw phase)))) (gate.of_same (by simp) (by simp))

theorem lineSample_solenoids {s : State} (raw : BitVec 12) (phase : s.PhaseLaw) (h : s.SolenoidLaw) :
    (s.lineSample raw).SolenoidLaw := by
  have sampled : (s.linesSampled raw (s.changedLines raw)).SolenoidLaw := h.of_same (by simp) (by simp)
  rw [lineSample_eq]
  refine judgeComplete_solenoids (linesChanged_phase _ (linesSampled_phase raw _ phase)) ?_
  unfold State.linesChanged
  split
  · exact sampled
  · have folded := foldl_keeps State.SolenoidLaw State.seqLineChange (s.changedLines raw) _ sampled
      fun _ l ht => seqLineChange_solenoids l ht
    exact folded.of_same (by simp) (by simp)

theorem windowExpiry_solenoids {s : State} (st : SeqState) (w : StepWindow) (f : SeqFault) (h : s.SolenoidLaw) :
    (s.windowExpiry st w f).SolenoidLaw := by
  unfold State.windowExpiry
  split
  · exact faultToIdlingDown_solenoids s _ _
  · exact h

theorem releaseExpiry_solenoids {s : State} (h : s.SolenoidLaw) : s.releaseExpiry.SolenoidLaw := by
  unfold State.releaseExpiry
  split
  · next hs =>
    have pump := h.pump_off (by simp [hs.1])
    exact .of_off (by simpa using pump) (by simp)
  · exact h

/-- Of the events only the end of an F1 gate moves v (R9). -/
theorem eventOf_speed {c : Instr} {f : State → State} (e : eventOf c = some f) :
    f = State.roadGateEnd ∨ ∀ s : State, (f s).image.v = s.image.v := by
  cases c <;> cases e
  case roadSpeedGateEnd => exact .inl rfl
  case engineSpeedGateEnd => exact .inr fun s => by simp [State.engineGated, InputImage.endGate]
  case flowGateEnd m => exact .inr fun s => by simp [flowGateEnd_eq, State.flowGated, InputImage.endGate]
  all_goals exact .inr fun s => by simp [State.pulse]

theorem eventOf_solenoids {c : Instr} {f : State → State} (e : eventOf c = some f) {s : State} (phase : s.PhaseLaw)
    (h : s.SolenoidLaw) : (f s).SolenoidLaw := by
  rcases eventOf_speed e with rfl | speed
  · exact roadGateEnd_solenoids phase h
  rcases eventOf_cases e with same | rfl | rfl | ⟨m, rfl⟩ | ⟨raw, rfl⟩ | ⟨st, w, fault, -, rfl⟩ | rfl | rfl | rfl
  · exact h.of_same (same s).2.2.2 (speed s)
  · exact engineGateEnd_solenoids phase h
  · exact roadGateEnd_solenoids phase h
  · exact judgeComplete_solenoids (State.SamePhase.phaseLaw (.of_image rfl rfl rfl rfl) phase) (h.of_same (s := s) rfl rfl)
  · exact lineSample_solenoids raw phase h
  · exact windowExpiry_solenoids st w fault h
  · unfold State.idleDownExpiry
    split
    · exact h
    · exact h
  · unfold State.neutralExpiry
    split
    · exact h
    · exact h
  · exact releaseExpiry_solenoids h

/-! ### The requests, and every step -/

/-- ENGAGE energizes O_SHIFT_PUMP only while the truck is stopped: MOVING is among its conditions (R45, R46). -/
theorem engage_solenoids {s : State} (roll : Bool) (h : s.SolenoidLaw) : (s.engage roll).1.SolenoidLaw := by
  unfold State.engage
  split
  · exact h
  · next idle =>
    have idle : s.seq.state = .idle := by simpa using idle
    have pump := h.pump_off (by simp [idle])
    have road := h.road_off (by simp [idle])
    split
    · next permitted =>
      have stopped : s.image.v < 5 := by
        by_contra fast
        have moving : s.moving = true := decide_eq_true (Nat.not_lt.1 fast)
        simp [State.engageFails, State.permitFails, fails, moving] at permitted
      cases roll
      · simp [State.SolenoidLaw, road, stopped]
      · exact .of_off (by simpa using pump) (by simpa using road)
    · exact h

theorem answerEngage_solenoids {s : State} (p : List Byte) (h : s.SolenoidLaw) : (answerEngage p s).1.SolenoidLaw := by
  unfold answerEngage
  repeat' split
  · exact engage_solenoids _ h
  · exact engage_solenoids _ h
  · exact h
  · exact h

theorem answerConfirm_solenoids {s : State} (p : List Byte) (h : s.SolenoidLaw) :
    (answerConfirm p s).1.SolenoidLaw := by
  have confirmed (hs : s.seq.state ≠ .shifting ∧ s.seq.state ≠ .releasing) : s.confirmSource.1.SolenoidLaw := by
    unfold State.confirmSource
    split
    · exact h
    · exact .of_off (by simpa using h.pump_off hs.1) (by simpa using h.road_off hs.2)
  unfold answerConfirm
  split
  · split
    · next hs => exact confirmed (by simp [hs])
    · next hs =>
      split
      · exact confirmed (by simp [hs])
      · exact h
    all_goals exact h
  · exact h

/-- Of the requests only PARAM_SET and INPUTS write the image, and neither moves v. -/
theorem answerKind_speed (kind : Byte) (p : List Byte) (s : State) :
    (answerKind kind p s).1.image.v = s.image.v := by
  have acted (t : State) (q : Param) : (t.ownerActs q).image.v = t.image.v := by
    cases q <;> simp [State.ownerActs, State.dropRemainder]
  have written (q : Param) (x : Int) : (s.paramSet q x).1.image.v = s.image.v := by
    simp only [State.paramSet, State.writeParam]
    repeat' split
    all_goals simp [acted]
  have inputs : (answerInputs p s).1.image.v = s.image.v := by
    unfold answerInputs
    repeat' split
    all_goals rfl
  have param : (answerParamSet p s).1.image.v = s.image.v := by
    unfold answerParamSet
    repeat' split
    all_goals first | exact written _ _ | rfl
  generalize e : answerKind kind p = answer
  unfold answerKind at e
  split at e <;> subst e
  case h_4 => exact inputs
  case h_22 => exact param
  all_goals simp [answerUnknown]

theorem answerKind_solenoids {s : State} (kind : Byte) (p : List Byte) (h : s.SolenoidLaw) :
    (answerKind kind p s).1.SolenoidLaw := by
  rcases answerKind_cases kind p with e | e | e | same
  · rw [e]
    exact answerEngage_solenoids p h
  · rw [e]
    exact answerConfirm_solenoids p h
  · rw [e]
    rcases answerDisengage_cases s p with e | ⟨-, t, -, e⟩ <;> rw [e]
    · exact h
    · exact enterIdlingDown_solenoids t _
  · exact h.of_same (same s).2.2.2 (answerKind_speed kind p s)

theorem exec_solenoids {c : Instr} {s t : State} (phase : s.PhaseLaw) (h : s.SolenoidLaw) (e : exec c s = .next t) :
    t.SolenoidLaw :=
  (exec_keeps (P := fun s => s.PhaseLaw ∧ s.SolenoidLaw) (fun _ _ _ h => h)
    (fun s found _ => ⟨startUp_phase s found, .of_off rfl rfl⟩)
    (fun kind p _ h => ⟨(answerKind_laws kind p h.1).1, answerKind_solenoids kind p h.2⟩)
    (fun _ ef _ h => ⟨(eventOf_laws ef h.1).1, eventOf_solenoids ef h.1 h.2⟩) ⟨phase, h⟩ e).2

/-- Settles O10: the law is an invariant of every command, the end of an F1 gate by `seqRoadGate_solenoids`. -/
theorem solenoidLawIsKept : Obligations.SolenoidLawIsKept := by
  intro s t phase h e
  exact (step_keeps (P := fun s => s.PhaseLaw ∧ s.SolenoidLaw) (fun _ _ h => h)
    (fun _ _ _ h e => ⟨exec_phase h.1 e, exec_solenoids h.1 h.2 e⟩) ⟨phase, h⟩ e).2

end Sys2Proof.Machine

/-! # O_CLUTCH de-energized, and the engage limit moved in the same step (R59, R148) -/

namespace Sys2Proof.Machine

/-- The frames of DISENGAGE and of PARAM_SET, idle_rpm to 500. -/
def disengageThenIdleRpm : List Byte := frameBytes 0x22 1 [] ++ frameBytes 0x50 2 [4, 1, 1, 244]

/-- A part in HELD on the clutch path after its feedback was lost (R56), the engine at 800 rpm with idle_rpm 700. Its
receiver holds a frame of which the check byte alone is missing, with the two frames as its body; the waiting byte is not
that check. -/
def heldWithFrames : State :=
  { State.reset with
    pending := [.byteArrival 0]
    image := { startImage with
      lines := PerLine.const { startLine with state := .low }, n := 800, complete := true }
    matrix := { startMatrix with mode := .faultHold }
    seq := { startSequencer with state := .held, path := .clutch, reason := some .feedback, oClutch := true }
    link := { startLink .fourWire with rx := startByte :: 14 :: disengageThenIdleRpm } }

/-- What the byte leaves of it. -/
def heldReleased : State := (State.byteArrives { heldWithFrames with pending := [] } 0).kick

/-- The bad check makes the receiver look through the bytes again (R148). It takes DISENGAGE first, which releases the
clutch at 800 rpm, within the limit of 850, and ends in ROAD; there idle_rpm may be set, and 800 is above the limit
of 650. -/
theorem heldReleased_above_limit :
    heldReleased.seq.oClutch = false ∧ heldReleased.image.complete = true ∧
    heldReleased.image.n = 800 ∧ heldReleased.config.idleRpm = 500 := by decide +kernel

/-- Refutes O11: the step of `heldWithFrames` de-energizes O_CLUTCH and ends with N above the engage limit, because one
byte can bring two requests (R148) and the second may lower idle_rpm. -/
theorem not_driveIsReleasedOnlyAtIdle : ¬ Obligations.DriveIsReleasedOnlyAtIdle := by
  intro h
  have phase : heldWithFrames.PhaseLaw :=
    ⟨fun hc => Bool.noConfusion hc, fun _ => ⟨rfl, fun l => by simp [heldWithFrames]⟩⟩
  have path : heldWithFrames.PathLaw := by simp [State.PathLaw, heldWithFrames]
  have demand : heldWithFrames.DemandLaw := ⟨rfl, Nat.le_refl 0, fun _ => rfl⟩
  obtain ⟨released, complete, n, idleRpm⟩ := heldReleased_above_limit
  rcases h heldWithFrames heldReleased phase path demand rfl (.inl ⟨rfl, released⟩) with image | ⟨-, limit⟩
  · rw [image] at complete
    exact Bool.noConfusion complete
  · rw [n, idleRpm] at limit
    omega

end Sys2Proof.Machine

/-! # What the matrix makes of the governor and the tank unit (R27, R93, R114, R143, R145) -/

namespace Sys2Proof.Machine

/-- All that the matrix can do to the governor and the tank unit as it judges or takes a mode: the demand cut to a lower
cap, a running primer stopped, a fill or a changeover ended. -/
structure State.Eased (s t : State) : Prop where
  demand : t.gov.demand ≤ s.gov.demand
  primer : t.gov.primer = none ∨ t.gov.primer = s.gov.primer
  rest : t.gov = { s.gov with
    demand := t.gov.demand, capCut := t.gov.capCut, primer := t.gov.primer, primerElapsed := t.gov.primerElapsed }
  fill : t.supply.fill = none ∨ t.supply.fill = s.supply.fill
  changeover : t.supply.changeover = none ∨ t.supply.changeover = s.supply.changeover

namespace State.Eased

theorem of_same {s t : State} (gov : t.gov = s.gov) (supply : t.supply = s.supply) : s.Eased t :=
  ⟨by rw [gov], .inr (by rw [gov]), by rw [gov], .inr (by rw [supply]), .inr (by rw [supply])⟩

theorem trans {s t u : State} (h : s.Eased t) (k : t.Eased u) : s.Eased u where
  demand := k.demand.trans h.demand
  primer := k.primer.elim .inl fun e => e ▸ h.primer
  rest := by
    have e := k.rest
    rw [h.rest] at e
    exact e
  fill := k.fill.elim .inl fun e => e ▸ h.fill
  changeover := k.changeover.elim .inl fun e => e ▸ h.changeover

theorem of_left {s t u : State} (h : t.Eased u) (gov : t.gov = s.gov) (supply : t.supply = s.supply) : s.Eased u :=
  (of_same gov supply).trans h

/-- The operator's request and the effective mode, the integrator, the ring and the protection record stay. -/
theorem kept {s t : State} (h : s.Eased t) :
    t.gov.opMode = s.gov.opMode ∧ t.gov.opTarget = s.gov.opTarget ∧ t.gov.effMode = s.gov.effMode ∧
    t.gov.integrator = s.gov.integrator ∧ t.gov.ring = s.gov.ring ∧ t.gov.saved = s.gov.saved ∧
    t.gov.causes = s.gov.causes := by
  rw [h.rest]
  simp only [and_self]

end State.Eased

theorem abandonFill_eased (s : State) (st : ReportState) : s.Eased (s.abandonFill st) := by
  unfold State.abandonFill
  split
  · exact .of_same rfl rfl
  · exact ⟨by simp, by simp, by simp, by simp, by simp⟩

theorem cutDemand_eased (s : State) (cap : Nat) : s.Eased (s.cutDemand cap) := by
  unfold State.cutDemand
  split
  · next lower => exact ⟨lower.le, .inr rfl, rfl, .inr rfl, .inr rfl⟩
  · exact .of_same rfl rfl

theorem recomputeCap_eased (s : State) : s.Eased s.recomputeCap := by
  unfold State.recomputeCap
  dsimp only
  split
  · exact .of_same rfl rfl
  · exact (cutDemand_eased _ _).of_left rfl rfl

theorem recomputePermits_eased (s : State) : s.Eased s.recomputePermits := by
  have judged : s.Eased (Permit.all.foldl State.recomputePermit s) :=
    .of_same (by simp [Permit.all]) (by simp [Permit.all])
  refine judged.trans (.trans ?_ (recomputeCap_eased _))
  split
  · exact abandonFill_eased _ _
  · exact .of_same rfl rfl

theorem matrixJudge_eased (s : State) (sel : LockCond → Bool) : s.Eased (s.matrixJudge sel) :=
  ((recomputePermits_eased (s.judgeLocks sel)).of_left (by simp) (by simp)).trans
    (.of_same (by simp [State.matrixJudge]) (by simp [State.matrixJudge]))

theorem matrixRecompute_eased (s : State) : s.Eased s.matrixRecompute :=
  (recomputePermits_eased s).trans (.of_same (by simp [State.matrixRecompute]) (by simp [State.matrixRecompute]))

/-- The primer stopped moves its own record alone (R113). -/
theorem stopPrimer_gov (s : State) :
    ∃ elapsed, s.stopPrimer.gov = { s.gov with primer := none, primerElapsed := elapsed } := by
  unfold State.stopPrimer
  split
  · next idle => exact ⟨s.gov.primerElapsed, by rw [← idle]⟩
  · exact ⟨_, rfl⟩

theorem stopPrimer_eased (s : State) : s.Eased s.stopPrimer := by
  obtain ⟨elapsed, gov⟩ := stopPrimer_gov s
  exact ⟨by simp [gov], by simp [gov], by simp [gov], by simp, by simp⟩

theorem dropChangeover_eased (s : State) : s.Eased s.dropChangeover := ⟨le_rfl, .inr rfl, rfl, .inr rfl, .inl rfl⟩

theorem judgeValve_eased (s : State) : s.Eased s.judgeValve := ⟨le_rfl, .inr rfl, rfl, .inr rfl, .inr rfl⟩

theorem handMode_eased (s : State) : s.Eased s.handMode := by
  have stopped : s.Eased (if s.matrix.mode = .stationaryPump then s else s.stopPrimer) := by
    split
    · exact .of_same rfl rfl
    · exact stopPrimer_eased s
  have handed (t : State) :
      t.Eased (if s.matrix.mode = .stationaryPump ∨ s.matrix.mode = .faultHold then t else t.dropChangeover) := by
    split
    · exact .of_same rfl rfl
    · exact dropChangeover_eased t
  exact stopped.trans ((handed _).trans (judgeValve_eased _))

theorem enterMode_eased (s : State) (m : AppMode) : s.Eased (s.enterMode m) := by
  unfold State.enterMode
  split
  · exact matrixRecompute_eased s
  · exact ((handMode_eased (s.setMode m)).trans (matrixJudge_eased _ _)).of_left (by simp) (by simp)

theorem matrixTake_eased (s : State) : s.Eased s.matrixTake := enterMode_eased s _

theorem judgeRoadShift_eased (s : State) : s.Eased s.judgeRoadShift := by
  unfold State.judgeRoadShift
  repeat' split
  · exact .of_same rfl rfl
  · exact (matrixRecompute_eased _).of_left rfl rfl
  · exact (matrixRecompute_eased _).of_left rfl rfl
  · exact .of_same rfl rfl
  · exact .of_same rfl rfl

end Sys2Proof.Machine

/-! # The operator's request and the demand, through the protection's operations (R78 to R80, R96 to R111) -/

namespace Sys2Proof.Machine

/-! ### What a raising, an absence and an end leave -/

@[simp] theorem State.takeEffective_operator (s : State) (m : GovMode) (x : Int) :
    (s.takeEffective m x).gov.opMode = s.gov.opMode ∧ (s.takeEffective m x).gov.opTarget = s.gov.opTarget ∧
    (s.takeEffective m x).gov.demand = s.gov.demand := by
  unfold State.takeEffective State.bumpless State.effectiveRest
  repeat' split
  all_goals simp

@[simp] theorem State.takeGoverning_operator (s : State) :
    s.takeGoverning.gov.opMode = s.gov.opMode ∧ s.takeGoverning.gov.opTarget = s.gov.opTarget ∧
    s.takeGoverning.gov.demand = s.gov.demand := by
  unfold State.takeGoverning
  split <;> simp

@[simp] theorem State.settleRaised_operator (s : State) (c : Cause) :
    (s.settleRaised c).gov.opMode = s.gov.opMode ∧ (s.settleRaised c).gov.opTarget = s.gov.opTarget ∧
    (s.settleRaised c).gov.demand = s.gov.demand := by
  unfold State.settleRaised
  split <;> simp

@[simp] theorem Governor.runsAtRaising_kept (g : Governor) (c : Cause) :
    (g.runsAtRaising c).opMode = g.opMode ∧ (g.runsAtRaising c).opTarget = g.opTarget ∧
    (g.runsAtRaising c).demand = g.demand ∧ (g.runsAtRaising c).effMode = g.effMode := by
  cases c <;> simp [Governor.runsAtRaising]

@[simp] theorem State.raiseCause_operator (s : State) (c : Cause) (v : List Byte) :
    (s.raiseCause c v).gov.opMode = s.gov.opMode ∧ (s.raiseCause c v).gov.opTarget = s.gov.opTarget ∧
    (s.raiseCause c v).gov.demand = s.gov.demand := by
  unfold State.raiseCause
  dsimp only
  split_ifs <;> simp

/-- A cause's absence moves the record of causes alone. -/
theorem State.causeAbsent_gov (s : State) (c : Cause) (v : List Byte) :
    (s.causeAbsent c v).gov = { s.gov with causes := (s.causeAbsent c v).gov.causes } := by
  unfold State.causeAbsent
  dsimp only
  split <;> simp

@[simp] theorem State.causeAbsent_kept (s : State) (c : Cause) (v : List Byte) :
    (s.causeAbsent c v).gov.opMode = s.gov.opMode ∧ (s.causeAbsent c v).gov.opTarget = s.gov.opTarget ∧
    (s.causeAbsent c v).gov.demand = s.gov.demand ∧ (s.causeAbsent c v).gov.effMode = s.gov.effMode := by
  rw [State.causeAbsent_gov]
  simp only [and_self]

@[simp] theorem State.judgePressureSensor_operator (s : State) :
    s.judgePressureSensor.gov.opMode = s.gov.opMode ∧ s.judgePressureSensor.gov.opTarget = s.gov.opTarget ∧
    s.judgePressureSensor.gov.demand = s.gov.demand := by
  unfold State.judgePressureSensor
  repeat' split
  all_goals simp

@[simp] theorem State.raise_operator (s : State) (c : Cause) (v : List Byte) :
    (s.raise c v).gov.opMode = s.gov.opMode ∧ (s.raise c v).gov.opTarget = s.gov.opTarget ∧
    (s.raise c v).gov.demand = s.gov.demand := by
  unfold State.raise
  dsimp only
  split <;> simp

@[simp] theorem State.judgeOverheat_operator (s : State) :
    s.judgeOverheat.gov.opMode = s.gov.opMode ∧ s.judgeOverheat.gov.opTarget = s.gov.opTarget ∧
    s.judgeOverheat.gov.demand = s.gov.demand := by
  unfold State.judgeOverheat
  split
  · simp
  · dsimp only
    split_ifs <;> simp

@[simp] theorem State.judgeTankEmpty_operator (s : State) :
    s.judgeTankEmpty.gov.opMode = s.gov.opMode ∧ s.judgeTankEmpty.gov.opTarget = s.gov.opTarget ∧
    s.judgeTankEmpty.gov.demand = s.gov.demand := by
  unfold State.judgeTankEmpty
  dsimp only
  split <;> simp

/-! ### The judgement of A0 while no pressure is governed (R107) -/

/-- With neither mode by pressure, judging A0 can only find its cause absent. -/
theorem judgePressureSensor_of_resting {s : State} (op : s.gov.opMode.byPressure = false)
    (eff : s.gov.effMode.byPressure = false) :
    s.judgePressureSensor.gov = { s.gov with causes := s.judgePressureSensor.gov.causes } := by
  unfold State.judgePressureSensor
  split
  · exact State.causeAbsent_gov ..
  · simp [op, eff]

@[simp] theorem State.effectiveRest_kept (s : State) (m : GovMode) :
    (s.effectiveRest m).gov.opMode = s.gov.opMode ∧ (s.effectiveRest m).gov.effMode = m ∧
    (s.effectiveRest m).gov.opTarget = s.gov.opTarget ∧ (s.effectiveRest m).gov.demand = s.gov.demand ∧
    (s.effectiveRest m).gov.integrator = s.gov.integrator := by
  unfold State.effectiveRest
  split <;> simp

/-- The governor OFF: the operator's mode OFF and the throttle let go (R80). -/
theorem governorOff_gov (s : State) :
    s.governorOff.gov.opMode = .off ∧ s.governorOff.gov.demand = 0 ∧ s.governorOff.gov.integrator = 0 := by
  unfold State.governorOff
  rw [judgePressureSensor_of_resting (by simp [GovMode.byPressure]) (by simp [GovMode.byPressure])]
  simp

/-- The governor takes the hold: the operator's mode IDLE, the throttle let go and the ring empty (R79). -/
theorem governorHold_gov (s : State) :
    s.governorHold.gov.opMode = .idle ∧ s.governorHold.gov.demand = 0 ∧ s.governorHold.gov.integrator = 0 ∧
    s.governorHold.gov.ring = [] := by
  unfold State.governorHold
  rw [judgePressureSensor_of_resting (by simp [GovMode.byPressure]) (by simp [GovMode.byPressure])]
  simp

/-! ### The governor engaged (R78) -/

/-- Both modes IDLE. -/
def State.RestsIdle (s : State) : Prop := s.gov.opMode = .idle ∧ s.gov.effMode = .idle

theorem judgePressureSensor_restsIdle {s : State} (h : s.RestsIdle) : s.judgePressureSensor.RestsIdle := by
  obtain ⟨op, eff⟩ := h
  have gov := judgePressureSensor_of_resting (s := s) (by simp [op, GovMode.byPressure])
    (by simp [eff, GovMode.byPressure])
  exact ⟨by rw [gov]; exact op, by rw [gov]; exact eff⟩

/-- A raising whose action is effective mode IDLE leaves an idle governor idle (R98). -/
theorem raiseCause_restsIdle {s : State} {c : Cause} (v : List Byte) (action : causeMode c = .idle) (h : s.RestsIdle) :
    (s.raiseCause c v).RestsIdle := by
  refine ⟨by simpa using h.1, ?_⟩
  have eff := h.2
  have settled (t : State) (ht : t.gov.effMode = .idle) : (t.settleRaised c).gov.effMode = .idle := by
    unfold State.settleRaised
    split
    · simp [action, State.takeEffective, GovMode.working]
    · exact ht
  unfold State.raiseCause
  dsimp only
  split_ifs
  · exact eff
  · exact eff
  · simpa using eff
  · exact settled _ (by simpa using eff)
  · exact settled _ (by simpa using eff)

theorem raise_restsIdle {s : State} {c : Cause} (v : List Byte) (action : causeMode c = .idle) (h : s.RestsIdle) :
    (s.raise c v).RestsIdle := by
  have raised := raiseCause_restsIdle v action h
  have same : (s.raiseCause c v).gov.effMode = s.gov.effMode := raised.2.trans h.2.symm
  simpa [State.raise, same] using raised

theorem causeAbsent_restsIdle {s : State} (c : Cause) (v : List Byte) (h : s.RestsIdle) :
    (s.causeAbsent c v).RestsIdle := by
  simpa [State.RestsIdle] using h

theorem judgeOverheat_restsIdle {s : State} (h : s.RestsIdle) : s.judgeOverheat.RestsIdle := by
  unfold State.judgeOverheat
  split
  · exact h
  · dsimp only
    split_ifs
    · exact raise_restsIdle _ rfl h
    · exact causeAbsent_restsIdle _ _ h
    · exact h

theorem judgeTankEmpty_restsIdle {s : State} (h : s.RestsIdle) : s.judgeTankEmpty.RestsIdle := by
  unfold State.judgeTankEmpty
  dsimp only
  split
  · exact raise_restsIdle _ rfl h
  · exact causeAbsent_restsIdle _ _ h

/-- As the sequencer enters ENGAGED the operator's mode is IDLE and his target stays (R78). -/
theorem governorEngage_operator (s : State) :
    s.governorEngage.gov.opMode = .idle ∧ s.governorEngage.gov.opTarget = s.gov.opTarget := by
  unfold State.governorEngage
  dsimp only
  split <;> simp

theorem governingCause_of_noCauses {g : Governor} (h : g.noCauses = true) : g.governingCause = none := by
  have off (c : Cause) : (g.causes.get c).active = false := by
    cases c <;> simp_all [Governor.noCauses, Cause.all]
  simp [Governor.governingCause, off]

/-- Where no cause is active the effective mode is IDLE too, and the causes judged as OFF is left keep it (R78, R103,
R106, R107). -/
theorem governorEngage_restsIdle {s : State} (none : s.gov.noCauses = true) : s.governorEngage.RestsIdle := by
  have taken (t : State) (op : t.gov.opMode = .idle) (ht : t.gov.noCauses = true) : t.takeGoverning.RestsIdle := by
    simp [State.RestsIdle, State.takeGoverning, governingCause_of_noCauses ht, op, State.takeEffective, GovMode.working]
  unfold State.governorEngage
  dsimp only
  split
  · exact judgePressureSensor_restsIdle (judgeTankEmpty_restsIdle (judgeOverheat_restsIdle (taken _ rfl none)))
  · exact judgePressureSensor_restsIdle (taken _ rfl none)

/-! ### The protection record discarded (R111) -/

@[simp] theorem State.allCausesLeave_kept (s : State) : s.allCausesLeave.gov.opMode = s.gov.opMode ∧
    s.allCausesLeave.gov.demand = s.gov.demand ∧ s.allCausesLeave.gov.integrator = s.gov.integrator := by
  unfold State.allCausesLeave
  refine foldl_keeps (fun t : State => t.gov.opMode = s.gov.opMode ∧ t.gov.demand = s.gov.demand ∧
    t.gov.integrator = s.gov.integrator) _ _ s ⟨rfl, rfl, rfl⟩ fun t c h => ?_
  unfold State.causeLeaves
  split
  · simpa using h
  · exact h

/-- Nothing is left of the protection record, and the throttle and the operator's mode stay (R111). -/
theorem discardProtection_gov (s : State) :
    s.discardProtection.gov.saved = none ∧ s.discardProtection.gov.primer = none ∧
    s.discardProtection.gov.causes = PerCause.const noCause ∧ s.discardProtection.gov.opMode = s.gov.opMode ∧
    s.discardProtection.gov.demand = s.gov.demand ∧ s.discardProtection.gov.integrator = s.gov.integrator := by
  unfold State.discardProtection
  dsimp only
  generalize record : ({ s.allCausesLeave with gov := _ } : State) = t
  obtain ⟨elapsed, gov⟩ := stopPrimer_gov t.judgeHorn
  rw [gov, ← record]
  simp

end Sys2Proof.Machine

/-! # How an engagement ends (R60 to R62) -/

namespace Sys2Proof.Machine

/-- The operator's mode OFF and nothing left of the throttle (R80). -/
def State.GovernorIsOff (s : State) : Prop := s.gov.opMode = .off ∧ s.gov.demand = 0 ∧ s.gov.integrator = 0

theorem State.Eased.governorIsOff {s t : State} (h : s.Eased t) (off : s.GovernorIsOff) : t.GovernorIsOff := by
  obtain ⟨op, demand, integrator⟩ := off
  obtain ⟨sameOp, -, -, sameIntegrator, -⟩ := h.kept
  exact ⟨sameOp.trans op, Nat.le_zero.mp (demand ▸ h.demand), sameIntegrator.trans integrator⟩

theorem setSeq_eased (s : State) (q : Sequencer) : s.Eased (s.setSeq q) := .of_same (by simp) (by simp)

/-- The supply's end moves the governor nowhere, and the matrix that follows eases it (R64). -/
theorem enterIdle_governorIsOff {s : State} (off : s.GovernorIsOff) : s.enterIdle.GovernorIsOff := by
  unfold State.enterIdle
  refine (matrixTake_eased _).governorIsOff ?_
  simpa [State.GovernorIsOff, State.endSupply, discardProtection_gov] using off

/-- The release keeps the governor OFF, IDLE entered at once included. -/
theorem enterReleasing_governorIsOff {s : State} (off : s.GovernorIsOff) : s.enterReleasing.GovernorIsOff := by
  have taken (q : Sequencer) : (s.setSeq q).matrixTake.GovernorIsOff :=
    ((setSeq_eased s q).trans (matrixTake_eased _)).governorIsOff off
  have clutch (t : State) (ht : t.GovernorIsOff) : (if t.lineClear .d4 then t.enterIdle else t).GovernorIsOff := by
    split
    · exact enterIdle_governorIsOff ht
    · exact ht
  have split (t : State) (ht : t.GovernorIsOff) :
      (if t.lineClear .d3 then t.enterIdle else t.judgeRoadShift).GovernorIsOff := by
    split
    · exact enterIdle_governorIsOff ht
    · exact (judgeRoadShift_eased t).governorIsOff ht
  unfold State.enterReleasing
  split
  · exact clutch _ (taken _)
  · exact split _ (taken _)
  · exact split _ (taken _)

/-- Where an engagement ends the governor is OFF, whatever follows at once (R60, R80). -/
theorem enterIdlingDown_governorIsOff (s : State) (r : SeqReason) : (s.enterIdlingDown r).GovernorIsOff := by
  have judged (t : State) (ht : t.GovernorIsOff) : t.judgeIdlingDown.GovernorIsOff := by
    unfold State.judgeIdlingDown
    split
    · exact enterReleasing_governorIsOff ht
    · exact ht
  exact judged _ ((matrixTake_eased _).governorIsOff (governorOff_gov _))

/-- The drive reads released on the path that is driven (R61, R62). -/
def State.ReadsReleased (s : State) : Prop :=
  (s.seq.path = .clutch ∧ s.lineClear .d4 = true) ∨ (s.seq.path = .split ∧ s.lineClear .d3 = true)

/-- The record in IDLING_DOWN (R60). -/
def State.idlingDownSeq (s : State) (r : SeqReason) : Sequencer :=
  { s.seq with state := .idlingDown, reason := some r, stepTimer := s.stepTimer .idleDown
               oShiftPump := false, oShiftRoad := false }

/-- What the end of an engagement with that reason makes of the record: IDLING_DOWN, or with the engine at idle the
release that follows at once, IDLE where the drive reads released already (R60 to R62). -/
def State.EngagementEnds (s : State) (r : SeqReason) (q : Sequencer) : Prop :=
  q.oShiftPump = false ∧
  (s.config.idleRpm + 150 < s.image.n → q = s.idlingDownSeq r) ∧
  (¬s.config.idleRpm + 150 < s.image.n → s.ReadsReleased → q = startSequencer) ∧
  (¬s.config.idleRpm + 150 < s.image.n → ¬s.ReadsReleased →
    q.state = .releasing ∧ q.path = s.seq.path ∧ q.reason = some r)

/-- A release that does not end at once (R61, R62). -/
theorem enterReleasing_begins {s : State} (h : ¬s.ReadsReleased) (driven : s.seq.path ≠ .none) :
    s.enterReleasing.seq.state = .releasing ∧ s.enterReleasing.seq.path = s.seq.path ∧
    s.enterReleasing.seq.reason = s.seq.reason ∧ s.enterReleasing.seq.oShiftPump = s.seq.oShiftPump := by
  unfold State.enterReleasing
  cases path : s.seq.path
  case none => exact absurd path driven
  case clutch =>
    rw [State.enterReleasingClutch_seq, if_neg fun clear => h (.inl ⟨path, clear⟩)]
    exact ⟨rfl, path, rfl, rfl⟩
  case split =>
    rcases s.enterReleasingSplit_seq with ⟨clear, -⟩ | ⟨-, shift, timer, seq⟩
    · exact absurd (.inr ⟨path, clear⟩) h
    · simp [seq, path]

/-- A drive that reads released is in IDLE at once (R61, R62, R64). -/
theorem enterReleasing_ends {s : State} (h : s.ReadsReleased) : s.enterReleasing.seq = startSequencer := by
  unfold State.enterReleasing
  rcases h with ⟨path, clear⟩ | ⟨path, clear⟩ <;> rw [path] <;> dsimp only
  · rw [State.enterReleasingClutch_seq, if_pos clear]
  · rcases s.enterReleasingSplit_seq with ⟨-, seq⟩ | ⟨other, -⟩
    · exact seq
    · simp [clear] at other

/-- An engagement on a path ends. -/
theorem enterIdlingDown_ends {s : State} (r : SeqReason) (driven : s.seq.path ≠ .none) :
    s.EngagementEnds r (s.enterIdlingDown r).seq := by
  unfold State.enterIdlingDown
  dsimp only
  generalize ht : ((s.setSeq _).governorOff).matrixTake = t
  have seq : t.seq = s.idlingDownSeq r := by
    rw [← ht]
    simp
    rfl
  have config : t.config = s.config := by simp [← ht]
  have image : t.image = s.image := by simp [← ht]
  have released : t.ReadsReleased ↔ s.ReadsReleased := by
    simp [State.ReadsReleased, State.lineClear, seq, image, State.idlingDownSeq]
  have waits : t.judgeIdlingDown = if s.image.n ≤ s.config.idleRpm + 150 then t.enterReleasing else t := by
    rw [judgeIdlingDown_of_idlingDown (by rw [seq]; rfl), config, image]
  by_cases fast : s.config.idleRpm + 150 < s.image.n
  · rw [waits, if_neg (by omega), seq]
    exact ⟨rfl, fun _ => rfl, fun idle => absurd fast idle, fun idle => absurd fast idle⟩
  rw [waits, if_pos (by omega)]
  by_cases clear : s.ReadsReleased
  · rw [enterReleasing_ends (released.mpr clear)]
    exact ⟨rfl, fun h => absurd h fast, fun _ _ => rfl, fun _ h => absurd clear h⟩
  · obtain ⟨state, path, reason, pump⟩ := enterReleasing_begins (s := t) (by rwa [released]) (by rw [seq]; exact driven)
    rw [seq] at path reason pump
    exact ⟨pump, fun h => absurd h fast, fun _ h => absurd h clear, fun _ _ => ⟨state, path, reason⟩⟩

/-- So does one that a fault ends: its report is the only difference (R49 to R53). -/
theorem faultToIdlingDown_ends {s : State} (f : SeqFault) (r : SeqReason) (driven : s.seq.path ≠ .none) :
    s.EngagementEnds r (s.faultToIdlingDown f r).seq :=
  enterIdlingDown_ends (s := s.reportFault f []) r driven

/-- The mode that an ended engagement leaves (R18). -/
theorem enterIdlingDown_mode {s : State} (r : SeqReason) (h : s.matrix.mode ≠ .start) :
    (s.enterIdlingDown r).matrix.mode = modeOf (s.enterIdlingDown r).seq.state (s.enterIdlingDown r).seq.path :=
  State.enterIdlingDown_modeLaw r h

end Sys2Proof.Machine

/-! # The windows of the sequencer (R43, R49 to R53, R60 to R63) -/

namespace Sys2Proof.Machine

theorem windowExpiry_stopped {s : State} {st : SeqState} {w : StepWindow} (f : SeqFault)
    (h : s.seq.state ≠ st ∨ s.timing w = false) : s.windowExpiry st w f = s :=
  if_neg fun ⟨state, timing⟩ => h.elim (fun other => other state) fun off => by simp [off] at timing

/-- A window that ends its state in IDLING_DOWN, running or not. -/
theorem windowExpiry_expires {s : State} {st : SeqState} {w : StepWindow} (f : SeqFault) (path : s.PathLaw)
    (engaging : st ≠ .idle) :
    (s.seq.state ≠ st ∨ s.timing w = false → s.windowExpiry st w f = s) ∧
    (s.seq.state = st → s.timing w = true → (s.windowExpiry st w f).GovernorIsOff ∧
      s.EngagementEnds .timeout (s.windowExpiry st w f).seq) := by
  refine ⟨windowExpiry_stopped f, fun state timing => ?_⟩
  rw [State.windowExpiry, if_pos ⟨state, timing⟩]
  have driven : s.seq.path ≠ .none := fun none => engaging (state ▸ path.1.mp none)
  exact ⟨enterIdlingDown_governorIsOff _ _, faultToIdlingDown_ends f .timeout driven⟩

/-- The release window's end discards the protection record and ends the tank unit's part (R61, R63, R64, R111). -/
theorem enterHeldTimeout_leaves (s : State) :
    s.enterHeldTimeout.gov.saved = none ∧ s.enterHeldTimeout.gov.primer = none ∧
    s.enterHeldTimeout.gov.causes = PerCause.const noCause ∧
    s.enterHeldTimeout.supply.changeover = none ∧ s.enterHeldTimeout.supply.fill = none := by
  unfold State.enterHeldTimeout
  dsimp only
  generalize State.setSeq _ _ = t
  have eased := matrixTake_eased t.discardProtection.endSupply
  obtain ⟨-, -, -, -, -, saved, causes⟩ := eased.kept
  have gov : t.discardProtection.endSupply.gov = t.discardProtection.gov := by simp
  obtain ⟨noSaved, noPrimer, noCauses, -⟩ := discardProtection_gov t
  refine ⟨?_, ?_, ?_, ?_, ?_⟩
  · rw [saved, gov, noSaved]
  · exact eased.primer.elim id fun e => by rw [e, gov, noPrimer]
  · rw [causes, gov, noCauses]
  · exact eased.changeover.elim id id
  · exact eased.fill.elim id id

/-- The event of a window that ends its state in IDLING_DOWN. -/
theorem exec_windowExpiry {s : State} {c : Instr} {st : SeqState} {w : StepWindow} {f : SeqFault} (path : s.PathLaw)
    (event : eventOf c = some (·.windowExpiry st w f)) (engaging : st ≠ .idle) :
    (s.seq.state ≠ st ∨ s.timing w = false → exec c s = .next s.kick) ∧
    (s.seq.state = st → s.timing w = true → ∃ u : State, exec c s = .next u.kick ∧
      u = { s with seq := u.seq, matrix := u.matrix, gov := u.gov, supply := u.supply, reports := u.reports } ∧
      u.GovernorIsOff ∧ s.EngagementEnds .timeout u.seq) := by
  obtain ⟨stopped, running⟩ := windowExpiry_expires (w := w) f path engaging
  refine ⟨fun h => ?_, fun state timing => ?_⟩
  · rw [exec_event event, stopped h]
  · obtain ⟨off, ends⟩ := running state timing
    exact ⟨_, exec_event event s, by ext1 <;> simp, off, ends⟩

/-- Settles O50: each window is the end of an engagement, a report with the timer stopped, or the entry of HELD. -/
theorem windowsExpire : Obligations.WindowsExpire := by
  intro s phase path
  refine ⟨fun c st w row => ?_, ?_, ?_, fun h => ?_, fun releasing timing => ?_⟩
  · obtain ⟨f, event, engaging⟩ : ∃ f, eventOf c = some (·.windowExpiry st w f) ∧ st ≠ .idle := by
      simp only [List.mem_cons, Prod.mk.injEq, List.not_mem_nil, or_false] at row
      rcases row with ⟨rfl, rfl, rfl⟩ | ⟨rfl, rfl, rfl⟩ | ⟨rfl, rfl, rfl⟩ | ⟨rfl, rfl, rfl⟩ <;> exact ⟨_, rfl, by simp⟩
    obtain ⟨stopped, running⟩ := exec_windowExpiry path event engaging
    refine ⟨stopped, fun state timing => ?_⟩
    obtain ⟨u, e, frame, ⟨op, demand, -⟩, pump, waits, ends, begins⟩ := running state timing
    refine ⟨u, e, frame, op, demand, pump, ?_⟩
    split_ifs with fast released
    · simp [waits fast, State.idlingDownSeq]
    · simp [ends fast released, startSequencer]
    · obtain ⟨state, -, reason⟩ := begins fast released
      exact ⟨state, reason⟩
  · rw [exec_event (f := (·.idleDownExpiry)) rfl]
    unfold State.idleDownExpiry
    split
    · next running =>
      simp [State.reportFault, State.stopStepTimer, State.submit_eq, running.1, SeqState.code, SeqFault.code]
    · rfl
  · rw [exec_event (f := (·.neutralExpiry)) rfl]
    unfold State.neutralExpiry
    split
    · next running =>
      simp [State.reportFault, State.stopStepTimer, State.submit_eq, running.1, SeqState.code, SeqFault.code]
    · rfl
  · rw [exec_event (f := (·.releaseExpiry)) rfl, State.releaseExpiry,
      if_neg fun ⟨state, timing⟩ => h.elim (fun other => other state) fun off => by simp [off] at timing]
  · have entered : s.releaseExpiry = s.enterHeldTimeout := if_pos ⟨releasing, timing⟩
    obtain ⟨saved, primer, causes, changeover, fill⟩ := enterHeldTimeout_leaves s
    have started : s.matrix.mode ≠ .start :=
      (phase.modeLaw (phase.complete_of_state (by simp [releasing]))).ne_start
    have mode : s.enterHeldTimeout.matrix.mode = .faultHold := by
      rw [State.enterHeldTimeout_modeLaw started]
      simp [modeOf]
    refine ⟨s.enterHeldTimeout, by rw [← entered]; exact exec_event rfl s, by ext1 <;> simp, by simp, mode, saved,
      primer, fun c => ?_, changeover, fill⟩
    rw [causes]
    cases c <;> rfl

end Sys2Proof.Machine

/-! # CONFIRM and DISENGAGE (R54, R55, R57, R58) -/

namespace Sys2Proof.Machine

/-! ### A request and its answer -/

/-- A request leaves what its owner made of the state, and its reply (R150). -/
theorem exec_request {c : Instr} {kind tag : Byte} {answer : State → State × Answer} {s t : State} {a : Answer}
    (frame : exec c s = .next (s.onFrame kind tag answer)) (listening : s.listening = true)
    (link : (answer s.framed).1.link = s.framed.link) (answered : answer s.framed = (t, a)) :
    exec c s = .next ({ t with link := s.link }.answered kind tag a) := by
  rw [frame, onFrame_answered kind tag answer listening link]
  change Host.Outcome.next (State.answered { (answer s.framed).1 with link := s.link } kind tag (answer s.framed).2) = _
  rw [answered]

/-! ### ENGAGED entered (R18, R20, R55, R78) -/

theorem enterMode_throttleMode {s : State} {m : AppMode} (h : m ≠ s.matrix.mode) :
    (s.enterMode m).matrix.throttleMode = throttleModeOf m := by
  simp [State.enterMode, h]

/-- Entering ENGAGED takes the mode of its path, with that mode's throttle (R18, R20, R55). -/
theorem enterEngaged_modes {s : State} (phase : s.PhaseLaw) (path : s.PathLaw)
    (awaits : s.seq.state = .awaitConfirm ∨ s.seq.state = .held) :
    s.enterEngaged.matrix.mode = (if s.seq.path = .split then .stationaryPump else .pumpAndRoll) ∧
    s.enterEngaged.matrix.throttleMode = (if s.seq.path = .split then .sole else .ceiling) := by
  have engaging : s.seq.state ≠ .idle := by rcases awaits with h | h <;> simp [h]
  have mode : s.matrix.mode = .transfer ∨ s.matrix.mode = .faultHold := by
    rw [phase.modeLaw (phase.complete_of_state engaging)]
    rcases awaits with h | h <;> simp [h, modeOf]
  have driven : s.seq.path ≠ .none := fun none => engaging (path.1.mp none)
  unfold State.enterEngaged
  dsimp only
  generalize ht : (State.setSeq _ _).governorEngage = t
  have seq : t.seq.state = .engaged ∧ t.seq.path = s.seq.path := by simp [← ht]
  have kept : t.matrix.mode = s.matrix.mode := by simp [← ht]
  unfold State.matrixTake
  have target : (if t.matrix.mode = .start then AppMode.start else modeOf t.seq.state t.seq.path) =
      if s.seq.path = .split then .stationaryPump else .pumpAndRoll := by
    rw [kept, if_neg (by rcases mode with h | h <;> simp [h]), seq.1, seq.2]
    cases p : s.seq.path <;> simp_all [modeOf]
  have moves : (if s.seq.path = .split then AppMode.stationaryPump else .pumpAndRoll) ≠ t.matrix.mode := by
    rw [kept]
    rcases mode with h | h <;> rw [h] <;> split <;> simp
  rw [target, enterMode_throttleMode moves, State.enterMode_mode]
  refine ⟨rfl, ?_⟩
  split <;> rfl

/-- Entering ENGAGED puts the governor in IDLE with the operator's target as it was (R55, R78). -/
theorem enterEngaged_gov (s : State) :
    s.enterEngaged.gov.opMode = .idle ∧ s.enterEngaged.gov.opTarget = s.gov.opTarget ∧
    (s.gov.noCauses = true → s.enterEngaged.gov.effMode = .idle) := by
  unfold State.enterEngaged
  dsimp only
  generalize ht : State.setSeq _ _ = t
  have gov : t.gov = s.gov := by simp [← ht]
  obtain ⟨op, target, eff, -⟩ := (matrixTake_eased t.governorEngage).kept
  obtain ⟨idle, kept⟩ := governorEngage_operator t
  exact ⟨op.trans idle, by rw [target, kept, gov], fun none => eff.trans (governorEngage_restsIdle (gov ▸ none)).2⟩

/-! ### CONFIRM (R54) -/

theorem exec_confirm {tag : Byte} {s t : State} {a : Answer} (listening : s.listening = true)
    (answered : answerConfirm [] s.framed = (t, a)) :
    exec (.confirm tag []) s = .next ({ t with link := s.link }.answered 0x21 tag a) :=
  exec_request rfl listening (by simp) answered

/-- The lines that CONFIRM in HELD finds missing (R54). -/
theorem mem_missingFeedback {s : State} {l : Line} :
    l ∈ s.missingFeedback ↔ l ∈ feedbackLines s.seq.path ∧ s.lineSet l = false := by
  simp [State.missingFeedback]

theorem lineNo_injective : Function.Injective lineNo := by
  intro l m h
  cases l <;> cases m <;> simp_all [lineNo]

theorem missingFeedback_testBit (s : State) (l : Line) :
    (natOfBytes (u16 (bitSet (s.missingFeedback.map lineNo)))).testBit (lineNo l) = true ↔ l ∈ s.missingFeedback := by
  have low : lineNo l < 16 := by cases l <;> decide
  rw [natOfBytes_u16, show 65536 = 2 ^ 16 from rfl, Nat.testBit_mod_two_pow, bitSet_testBit]
  simp [low, List.mem_map_of_injective lineNo_injective]

/-- The set that CONDITION_PRESENT lists (R54, R155). -/
theorem missingFeedback_mem {s : State} (l : Line) :
    (natOfBytes [BitVec.ofNat 8 (bitSet (s.missingFeedback.map lineNo) / 256),
      BitVec.ofNat 8 (bitSet (s.missingFeedback.map lineNo))]).testBit (lineNo l) = true ↔
    l ∈ feedbackLines s.seq.path ∧ s.lineSet l = false := (missingFeedback_testBit s l).trans mem_missingFeedback

theorem confirmSourceFails_iff {s : State} :
    s.confirmSourceFails = true ↔ s.seq.path = .clutch ∧ ¬(s.supply.source = .tank ∧ s.supply.changeover = none) := by
  cases source : s.supply.source <;> cases changeover : s.supply.changeover <;>
    simp [State.confirmSourceFails, State.sourceReady, source, changeover]

/-- Where CONFIRM belongs to the state and no feedback is missing, the SOURCE check alone is left (R54). -/
theorem answerConfirm_source {s : State} (awaits : s.seq.state = .awaitConfirm ∨
    (s.seq.state = .held ∧ ∀ l, ¬(l ∈ feedbackLines s.seq.path ∧ s.lineSet l = false))) :
    answerConfirm [] s = s.confirmSource := by
  unfold answerConfirm
  rcases awaits with state | ⟨state, none⟩ <;> simp only [state]
  rw [if_pos]
  exact List.isEmpty_iff.mpr (List.eq_nil_iff_forall_not_mem.mpr fun l h => none l (mem_missingFeedback.mp h))

/-! ### DISENGAGE (R57, R58) -/

theorem exec_disengage {tag : Byte} {s t : State} {a : Answer} (listening : s.listening = true)
    (answered : answerDisengage [] s.framed = (t, a)) :
    exec (.disengage tag []) s = .next ({ t with link := s.link }.answered 0x22 tag a) :=
  exec_request rfl listening (by simp) answered

/-- FEEDBACK_LOST CLEARED, which a HELD may report first, changes nothing of what ends (R57). -/
theorem clearFeedbackLost_ends {s : State} (r : SeqReason) (driven : s.seq.path ≠ .none) :
    s.EngagementEnds r (s.clearFeedbackLost.enterIdlingDown r).seq := by
  unfold State.clearFeedbackLost
  split
  · exact enterIdlingDown_ends (s := s.submit _) r driven
  · exact enterIdlingDown_ends r driven

/-- DISENGAGE ends any engagement that does not end already (R57, R58). -/
theorem answerDisengage_ends {s : State} (phase : s.PhaseLaw) (path : s.PathLaw)
    (busy : s.seq.state ≠ .idle ∧ s.seq.state ≠ .idlingDown ∧ s.seq.state ≠ .releasing) :
    ∃ u, answerDisengage [] s = (u, .ok) ∧ u.GovernorIsOff ∧ s.EngagementEnds .disengage u.seq ∧
      u.matrix.mode = modeOf u.seq.state u.seq.path := by
  obtain ⟨engaging, waiting, releasing⟩ := busy
  have driven : s.seq.path ≠ .none := fun none => engaging (path.1.mp none)
  have started : s.matrix.mode ≠ .start := (phase.modeLaw (phase.complete_of_state engaging)).ne_start
  by_cases held : s.seq.state = .held
  · refine ⟨s.clearFeedbackLost.enterIdlingDown .disengage, by simp [answerDisengage, held],
      enterIdlingDown_governorIsOff _ _, clearFeedbackLost_ends _ driven,
      enterIdlingDown_mode _ (by simpa using started)⟩
  · refine ⟨s.enterIdlingDown .disengage, ?_, enterIdlingDown_governorIsOff _ _, enterIdlingDown_ends _ driven,
      enterIdlingDown_mode _ started⟩
    unfold answerDisengage
    cases state : s.seq.state <;> simp_all

/-- So it is answered DONE, and leaves the end of the engagement (R57, R58). -/
theorem exec_disengage_ends {tag : Byte} {s : State} (listening : s.listening = true) (phase : s.PhaseLaw)
    (path : s.PathLaw) (busy : s.seq.state ≠ .idle ∧ s.seq.state ≠ .idlingDown ∧ s.seq.state ≠ .releasing) :
    ∃ u : State, exec (.disengage tag []) s = .next (u.answered 0x22 tag (.done false false [])) ∧
      u = { s with seq := u.seq, matrix := u.matrix, gov := u.gov, supply := u.supply, reports := u.reports } ∧
      u.GovernorIsOff ∧ s.EngagementEnds .disengage u.seq ∧ u.matrix.mode = modeOf u.seq.state u.seq.path := by
  obtain ⟨t, answered, off, ends, mode⟩ := answerDisengage_ends (s := s.framed) phase path busy
  have owner : t = (answerDisengage [] s.framed).1 := by rw [answered]
  exact ⟨_, exec_disengage listening answered, by ext1 <;> simp [owner, State.framed], off, ends, mode⟩

/-- Settles O49: CONFIRM by the state and its checks in order, DISENGAGE by the end of an engagement. -/
theorem confirmEngagesAndDisengageReleases : Obligations.ConfirmEngagesAndDisengageReleases := by
  intro tag s listening phase path
  refine ⟨⟨fun other unheld => ?_, fun held missing => ?_,
    fun awaits => ⟨fun clutch unsourced => ?_, fun sourced => ?_⟩⟩, ?_⟩
  · refine exec_confirm (t := s.framed) listening ?_
    have state : s.framed.seq.state = s.seq.state := rfl
    unfold answerConfirm
    rw [state]
    cases state : s.seq.state
    case awaitConfirm => exact absurd state other
    case held => exact absurd state unheld
    all_goals rfl
  · refine ⟨_, _, exec_confirm (t := s.framed) listening ?_, missingFeedback_mem⟩
    obtain ⟨l, hl⟩ := missing
    have some : s.missingFeedback ≠ [] := List.ne_nil_of_mem (mem_missingFeedback.mpr hl)
    have state : s.framed.seq.state = .held := held
    unfold answerConfirm
    simp only [state]
    exact if_neg fun none => some (List.isEmpty_iff.mp none)
  · have fails : s.framed.confirmSourceFails = true := confirmSourceFails_iff.mpr ⟨clutch, unsourced⟩
    refine exec_confirm (t := s.framed) listening ?_
    rw [answerConfirm_source (s := s.framed) awaits, State.confirmSource, if_pos fails]
    rfl
  · have ready : ¬s.framed.confirmSourceFails = true := fun h => by
      obtain ⟨clutch, unsourced⟩ := confirmSourceFails_iff.mp h
      exact unsourced (sourced clutch)
    have entered : answerConfirm [] s.framed = (s.framed.enterEngaged, .ok) := by
      rw [answerConfirm_source (s := s.framed) awaits, State.confirmSource, if_neg ready]
    obtain ⟨mode, throttleMode⟩ := enterEngaged_modes (s := s.framed) phase path (awaits.imp_right And.left)
    obtain ⟨op, target, eff⟩ := enterEngaged_gov s.framed
    exact ⟨_, exec_confirm listening entered, by ext1 <;> simp [State.framed], by simp [State.framed], mode,
      throttleMode, op, target, eff⟩
  · have unmoved (a : Answer) (e : answerDisengage [] s.framed = (s.framed, a)) :
        exec (.disengage tag []) s = .next (s.answered 0x22 tag a) := exec_disengage (t := s.framed) listening e
    rcases state : s.seq.state <;> dsimp only
    case idle =>
      refine unmoved s.wrongState ?_
      have state : s.framed.seq.state = .idle := state
      simp only [answerDisengage, state]
      rfl
    case idlingDown | releasing =>
      refine unmoved .ok ?_
      simp [answerDisengage, State.framed, State.reads, state]
    case shifting | awaitRange | clutching | awaitConfirm | engaged | held =>
      obtain ⟨u, e, frame, ⟨op, demand, integrator⟩, ⟨pump, waits, ends, begins⟩, mode⟩ :=
        exec_disengage_ends (tag := tag) listening phase path (by simp [state])
      refine ⟨u, e, frame, op, demand, integrator, pump, ?_⟩
      split_ifs with fast released
      · simp [mode, waits fast, State.idlingDownSeq, modeOf, State.stepTimer, State.startTimer, WorkingConfig.windowMs]
      · simp [mode, ends fast released, startSequencer, modeOf]
      · obtain ⟨released, kept, reason⟩ := begins fast released
        exact ⟨released, kept, reason, by rw [mode, released]; rfl⟩

end Sys2Proof.Machine

/-! # A line sample's changes, handed to the sequencer one by one (R12, R49 to R63) -/

namespace Sys2Proof.Machine

/-! ### Folds -/

/-- A fold none of whose elements moves the state. -/
theorem foldl_of_unmoved {α β : Type} {f : β → α → β} {l : List α} {b : β} (h : ∀ x ∈ l, f b x = b) :
    l.foldl f b = b := by
  induction l with
  | nil => rfl
  | cons x xs ih =>
    rw [List.foldl_cons, h x List.mem_cons_self]
    exact ih fun y hy => h y (List.mem_cons_of_mem x hy)

/-- A fold reaches what one of its elements brings about, if the elements before it lose nothing and those after it keep
it. -/
theorem foldl_reaches {α β : Type} {P Q : β → Prop} {f : β → α → β} {l : List α} {a : α} {b : β} (mem : a ∈ l)
    (start : P b) (before : ∀ b x, x ∈ l → P b → P (f b x) ∨ Q (f b x)) (brings : ∀ b, P b → Q (f b a))
    (after : ∀ b x, x ∈ l → Q b → Q (f b x)) : Q (l.foldl f b) := by
  have kept (xs : List α) (sub : ∀ x ∈ xs, x ∈ l) (b : β) (h : Q b) : Q (xs.foldl f b) := by
    induction xs generalizing b with
    | nil => exact h
    | cons x xs ih =>
      exact ih (fun y hy => sub y (List.mem_cons_of_mem x hy)) _ (after b x (sub x List.mem_cons_self) h)
  have reached (xs : List α) (sub : ∀ x ∈ xs, x ∈ l) (here : a ∈ xs) (b : β) (h : P b) : Q (xs.foldl f b) := by
    induction xs generalizing b with
    | nil => simp at here
    | cons x xs ih =>
      have rest : ∀ y ∈ xs, y ∈ l := fun y hy => sub y (List.mem_cons_of_mem x hy)
      rw [List.foldl_cons]
      by_cases e : x = a
      · exact kept xs rest _ (e ▸ brings b h)
      · have here : a ∈ xs := by simpa [Ne.symm e] using here
        exact (before b x (sub x List.mem_cons_self) h).elim (ih rest here _) (kept xs rest _)
  exact reached l (fun _ h => h) mem b start

/-! ### The sample with the image complete -/

/-- The state in which every line is filtered and its change reported. -/
def State.sampled (s : State) (raw : BitVec 12) : State := s.linesSampled raw (s.changedLines raw)

@[simp] theorem State.sampled_frame (s : State) (raw : BitVec 12) :
    (s.sampled raw).image = { s.image with lines := s.sampleLines raw } ∧ (s.sampled raw).clock = s.clock ∧
    (s.sampled raw).config = s.config ∧ (s.sampled raw).matrix = s.matrix ∧ (s.sampled raw).seq = s.seq ∧
    (s.sampled raw).gov = s.gov ∧ (s.sampled raw).supply = s.supply ∧ (s.sampled raw).tanks = s.tanks := by
  simp [State.sampled, State.linesSampled]

/-- What the sequencer made of the changes, line by line. -/
def State.lineMoved (s : State) (raw : BitVec 12) : State :=
  (s.changedLines raw).foldl State.seqLineChange (s.sampled raw)

@[simp] theorem State.lineMoved_frame (s : State) (raw : BitVec 12) :
    (s.lineMoved raw).image = { s.image with lines := s.sampleLines raw } ∧ (s.lineMoved raw).clock = s.clock ∧
    (s.lineMoved raw).config = s.config := by
  refine foldl_keeps (fun t : State => t.image = { s.image with lines := s.sampleLines raw } ∧ t.clock = s.clock ∧
    t.config = s.config) _ _ _ (by simp) fun t l h => ?_
  simpa using h

/-- After the sequencer the matrix alone is left to judge (R12, R16). -/
theorem lineSample_moved {s : State} {raw : BitVec 12} (complete : s.image.complete = true) :
    (s.lineSample raw).seq = (s.lineMoved raw).seq ∧ (s.lineSample raw).matrix.mode = (s.lineMoved raw).matrix.mode ∧
    (s.lineMoved raw).Eased (s.lineSample raw) := by
  have judged : s.lineSample raw = (s.sampled raw).linesChanged (s.changedLines raw) := by
    rw [lineSample_eq]
    exact judgeComplete_of_not (.inl (by simpa using complete))
  rw [judged]
  unfold State.linesChanged
  split
  · next none =>
    have same : s.lineMoved raw = s.sampled raw := by rw [State.lineMoved, List.isEmpty_iff.mp none, List.foldl_nil]
    rw [same]
    exact ⟨rfl, rfl, .of_same rfl rfl⟩
  · exact ⟨by simp [State.lineMoved], by simp [State.lineMoved], matrixJudge_eased _ _⟩

/-- With every line settled the changed lines are those that read otherwise (R12, R14). -/
theorem mem_changedLines {s : State} {raw : BitVec 12} {l : Line} (settled : (s.image.lines.get l).state ≠ .unsettled) :
    l ∈ s.changedLines raw ↔ ((s.sampleLines raw).get l).state ≠ (s.image.lines.get l).state := by
  rw [ne_comm]
  simp [State.changedLines, lineChanged, settled, l.mem_all]

end Sys2Proof.Machine

/-! # Motion, and the road shift of a release (R48, R51, R62) -/

namespace Sys2Proof.Machine

/-! ### The road shift, from what it is judged on -/

/-- What judging the road shift makes of a record in RELEASING on the split path (R62). -/
def State.roadShiftNext (s : State) (q : Sequencer) : Sequencer :=
  if q.oShiftRoad then (if s.roadShiftConditions then q else { q with oShiftRoad := false, stepTimer := none })
  else if s.lineSet .d3 && s.roadShiftConditions then
    { q with oShiftRoad := true, stepTimer := s.stepTimer .release }
  else q

/-- The road shift is judged on the inputs, the clock, the configuration and the demand. -/
def State.SameView (s t : State) : Prop :=
  t.image = s.image ∧ t.clock = s.clock ∧ t.config = s.config ∧ t.gov.demand = s.gov.demand

theorem roadShiftNext_congr {s t : State} (h : s.SameView t) (q : Sequencer) :
    t.roadShiftNext q = s.roadShiftNext q := by
  obtain ⟨image, clock, config, demand⟩ := h
  unfold State.roadShiftNext State.roadShiftConditions State.lineSet State.lineClear State.moving State.engineIdle
    State.engageLimit State.stepTimer State.startTimer
  rw [image, clock, config, demand]

/-- Judged again on the same inputs it stays. -/
theorem roadShiftNext_idem (s : State) (q : Sequencer) :
    s.roadShiftNext (s.roadShiftNext q) = s.roadShiftNext q := by
  unfold State.roadShiftNext
  cases s.roadShiftConditions <;> cases s.lineSet .d3 <;> cases h : q.oShiftRoad <;> simp [h]

theorem roadShiftNext_kept (s : State) (q : Sequencer) :
    (s.roadShiftNext q).state = q.state ∧ (s.roadShiftNext q).path = q.path := by
  unfold State.roadShiftNext
  split_ifs <;> exact ⟨rfl, rfl⟩

theorem roadShiftConditions_iff (s : State) : s.roadShiftConditions = true ↔
    s.lineClear .d2 = true ∧ s.lineSet .d1 = true ∧ s.image.v < 5 ∧ s.gov.demand = 0 ∧
      s.image.n ≤ s.config.idleRpm + 150 := by
  simp [State.roadShiftConditions, State.moving, State.engineIdle, State.engageLimit, and_assoc]
  exact fun _ _ _ _ => decide_eq_true_iff

/-- A release on the split path with the demand at 0. -/
structure State.ReleasesSplit (s : State) : Prop where
  state : s.seq.state = .releasing
  path : s.seq.path = .split
  demand : s.gov.demand = 0

theorem judgeRoadShift_next {s : State} (h : s.ReleasesSplit) : s.judgeRoadShift.seq = s.roadShiftNext s.seq :=
  judgeRoadShift_seq_releasing h.state h.path

theorem State.Eased.demand_zero {s t : State} (h : s.Eased t) (zero : s.gov.demand = 0) : t.gov.demand = 0 :=
  Nat.le_zero.mp (zero ▸ h.demand)

theorem judgeRoadShift_view {s : State} (h : s.ReleasesSplit) : s.SameView s.judgeRoadShift :=
  ⟨by simp, by simp, by simp, by rw [(judgeRoadShift_eased s).demand_zero h.demand, h.demand]⟩

theorem judgeRoadShift_releasesSplit {s : State} (h : s.ReleasesSplit) : s.judgeRoadShift.ReleasesSplit := by
  obtain ⟨state, path⟩ := roadShiftNext_kept s s.seq
  exact ⟨by rw [judgeRoadShift_next h, state, h.state], by rw [judgeRoadShift_next h, path, h.path],
    (judgeRoadShift_eased s).demand_zero h.demand⟩

/-- What the matrix eases, the inputs as they stand, sees the road shift as it did. -/
theorem State.ReleasesSplit.view {s t : State} (h : s.ReleasesSplit) (image : t.image = s.image)
    (clock : t.clock = s.clock) (config : t.config = s.config) (eased : s.Eased t) : s.SameView t :=
  ⟨image, clock, config, by rw [eased.demand_zero h.demand, h.demand]⟩

/-! ### At the end of a gate -/

theorem engineGateEnd_roadShift {s : State} (h : s.ReleasesSplit) (complete : s.image.complete = true) :
    s.engineGateEnd.seq = s.engineGateEnd.roadShiftNext s.seq := by
  have gated : s.engineGated.ReleasesSplit := ⟨h.state, h.path, h.demand⟩
  have e : s.engineGateEnd = s.engineGated.judgeRoadShift.matrixJudge onEngine := by
    have judged : s.engineGated.seqEngineGate = s.engineGated.judgeRoadShift := by simp [State.seqEngineGate, h.state]
    rw [engineGateEnd_eq, judged]
    exact judgeComplete_of_not (.inl (by simpa using complete))
  have view : s.engineGated.SameView s.engineGateEnd := by
    rw [e]
    exact gated.view (by simp) (by simp) (by simp) ((judgeRoadShift_eased _).trans (matrixJudge_eased _ _))
  calc s.engineGateEnd.seq = s.engineGated.judgeRoadShift.seq := by simp [e]
    _ = s.engineGated.roadShiftNext s.seq := judgeRoadShift_next gated
    _ = s.engineGateEnd.roadShiftNext s.seq := (roadShiftNext_congr view _).symm

/-! The tanks, which an F1 gate moves last, can only cut the demand. -/

theorem handTank_demand (s : State) (t : TankIx) (before : TankRun) :
    (s.handTank t before).gov.demand ≤ s.gov.demand := by
  unfold State.handTank
  dsimp only
  have abandoned : s.Eased (if t = .t0 ∧ before.state = .sensed ∧
      ((s.tanks.get t).state = .blind ∨ (s.tanks.get t).state = .travel) then s.abandonFill .abandoned else s) := by
    split
    · exact abandonFill_eased _ _
    · exact .of_same rfl rfl
  have judged (u : State) : u.Eased (if (s.tanks.get t).band = before.band ∧ (s.tanks.get t).basis = before.basis then u
      else u.matrixJudge (onTank t)) := by
    split
    · exact .of_same rfl rfl
    · exact matrixJudge_eased _ _
  have eased := (abandoned.trans (judged _)).demand
  split
  · simpa using eased
  · exact eased

theorem enterTravel_demand (s : State) (t : TankIx) : (s.enterTravel t).gov.demand ≤ s.gov.demand := by
  unfold State.enterTravel
  dsimp only
  split
  · exact handTank_demand _ _ _
  all_goals exact le_rfl

theorem enterSettling_demand (s : State) (t : TankIx) : (s.enterSettling t).gov.demand ≤ s.gov.demand := by
  unfold State.enterSettling
  dsimp only
  split <;> exact le_rfl

theorem tanksAtRoadGate_demand (s : State) (was : Bool) : (s.tanksAtRoadGate was).gov.demand ≤ s.gov.demand := by
  have folded (f : State → TankIx → State) (eases : ∀ u t, (f u t).gov.demand ≤ u.gov.demand) :
      (TankIx.all.foldl f s).gov.demand ≤ s.gov.demand :=
    foldl_keeps (fun u : State => u.gov.demand ≤ s.gov.demand) f _ s le_rfl fun u t h => (eases u t).trans h
  unfold State.tanksAtRoadGate
  split_ifs
  · exact le_rfl
  · exact folded _ enterTravel_demand
  · exact folded _ enterSettling_demand
  · exact le_rfl

/-- The state in which the sequencer meets the end of an F1 gate: v set, and the roll limits judged (R9, R26, R28). -/
def State.roadLimited (s : State) : State := s.roadGated.judgeRoll.judgeOverspeed

@[simp] theorem State.roadLimited_frame (s : State) :
    s.roadLimited.image = s.roadGated.image ∧ s.roadLimited.clock = s.clock ∧ s.roadLimited.config = s.config ∧
    s.roadLimited.seq = s.seq ∧ s.roadLimited.gov = s.gov ∧ s.roadLimited.matrix.mode = s.matrix.mode := by
  simp [State.roadLimited]

theorem roadGateEnd_of_complete {s : State} (complete : s.image.complete = true) :
    s.roadGateEnd = ((s.roadLimited.seqRoadGate (s.roadGated.moving && !s.moving)).matrixJudge
      onRoadSpeed).tanksAtRoadGate s.moving := by
  rw [roadGateEnd_eq]
  exact judgeComplete_of_not (.inl (by simpa using complete))

theorem roadGateEnd_roadShift {s : State} (h : s.ReleasesSplit) (complete : s.image.complete = true) :
    s.roadGateEnd.seq = s.roadGateEnd.roadShiftNext s.seq := by
  have limited : s.roadLimited.ReleasesSplit :=
    ⟨by simpa using h.state, by simpa using h.path, by simpa using h.demand⟩
  have e : s.roadGateEnd = (s.roadLimited.judgeRoadShift.matrixJudge onRoadSpeed).tanksAtRoadGate s.moving := by
    rw [roadGateEnd_of_complete complete]
    simp [State.seqRoadGate, h.state]
  have demand : s.roadGateEnd.gov.demand = 0 := by
    have eased := (judgeRoadShift_eased s.roadLimited).trans (matrixJudge_eased _ onRoadSpeed)
    rw [e]
    exact Nat.le_zero.mp (eased.demand_zero limited.demand ▸ tanksAtRoadGate_demand _ _)
  have view : s.roadLimited.SameView s.roadGateEnd :=
    ⟨by simp [e], by simp, by simp, by rw [demand, limited.demand]⟩
  calc s.roadGateEnd.seq = s.roadLimited.judgeRoadShift.seq := by simp [e]
    _ = s.roadLimited.roadShiftNext s.roadLimited.seq := judgeRoadShift_next limited
    _ = s.roadGateEnd.roadShiftNext s.seq := by rw [roadShiftNext_congr view]; simp

/-! ### At a line sample -/

/-- A line of the split path's release: D1, D2 or D3. -/
def shiftLines : List Line := [.d1, .d2, .d3]

theorem seqLineChange_releasesSplit {s : State} {l : Line} (h : s.ReleasesSplit)
    (neutral : ¬(l = .d3 ∧ s.lineClear .d3 = true)) :
    s.seqLineChange l = if l ∈ shiftLines then s.judgeRoadShift else s := by
  simp only [State.seqLineChange, h.state, h.path]
  rw [if_neg neutral]
  simp [shiftLines]

/-- A release that sees what `s` sees and has come to the record `q`. -/
structure State.HasCome (s : State) (q : Sequencer) (t : State) : Prop where
  releases : t.ReleasesSplit
  view : s.SameView t
  seq : t.seq = q

theorem judgeRoadShift_hasCome {s t : State} {q : Sequencer} (h : s.HasCome q t) :
    s.HasCome (s.roadShiftNext q) t.judgeRoadShift where
  releases := judgeRoadShift_releasesSplit h.releases
  view := by
    obtain ⟨image, clock, config, demand⟩ := judgeRoadShift_view h.releases
    obtain ⟨image', clock', config', demand'⟩ := h.view
    exact ⟨image.trans image', clock.trans clock', config.trans config', demand.trans demand'⟩
  seq := by rw [judgeRoadShift_next h.releases, roadShiftNext_congr h.view, h.seq]

/-- A sample that changes D1, D2 or D3, but does not clear D3, judges the road shift (R62). -/
theorem lineSample_roadShift {s : State} {raw : BitVec 12} (h : s.ReleasesSplit) (complete : s.image.complete = true)
    (neutral : ¬(.d3 ∈ s.changedLines raw ∧ (s.sampled raw).lineClear .d3 = true)) {a : Line}
    (mem : a ∈ s.changedLines raw) (shift : a ∈ shiftLines) :
    (s.lineSample raw).seq = (s.lineSample raw).roadShiftNext s.seq := by
  set z := s.sampled raw
  have seq : z.seq = s.seq := by simp [z]
  have sampled : z.ReleasesSplit := ⟨by simpa [z] using h.state, by simpa [z] using h.path, by simpa [z] using h.demand⟩
  have moves {q : Sequencer} {t : State} {l : Line} (member : l ∈ s.changedLines raw) (ht : z.HasCome q t) :
      t.seqLineChange l = if l ∈ shiftLines then t.judgeRoadShift else t := by
    refine seqLineChange_releasesSplit ht.releases fun ⟨e, fell⟩ => neutral ⟨e ▸ member, ?_⟩
    rwa [State.lineClear_of_image ht.view.1] at fell
  have reached : z.HasCome (z.roadShiftNext z.seq) (s.lineMoved raw) := by
    refine foldl_reaches (P := z.HasCome z.seq) mem ⟨sampled, ⟨rfl, rfl, rfl, rfl⟩, rfl⟩ (fun t l member ht => ?_)
      (fun t ht => ?_) fun t l member ht => ?_
    · rw [moves member ht]
      split
      · exact .inr (judgeRoadShift_hasCome ht)
      · exact .inl ht
    · rw [moves mem ht, if_pos shift]
      exact judgeRoadShift_hasCome ht
    · rw [moves member ht]
      split
      · exact roadShiftNext_idem z z.seq ▸ judgeRoadShift_hasCome ht
      · exact ht
  obtain ⟨moved, -, eased⟩ := lineSample_moved (raw := raw) complete
  have view : z.SameView (s.lineSample raw) :=
    ⟨by simp [z, complete], by simp [z], by simp [z], by
      rw [eased.demand_zero reached.releases.demand, sampled.demand]⟩
  rw [moved, reached.seq, roadShiftNext_congr view, seq]

/-- One that changes none of them leaves the record (R62). -/
theorem lineSample_still {s : State} {raw : BitVec 12} (h : s.ReleasesSplit) (complete : s.image.complete = true)
    (still : ∀ l ∈ shiftLines, l ∉ s.changedLines raw) : (s.lineSample raw).seq = s.seq := by
  have sampled : (s.sampled raw).ReleasesSplit :=
    ⟨by simpa using h.state, by simpa using h.path, by simpa using h.demand⟩
  have unmoved : s.lineMoved raw = s.sampled raw := foldl_of_unmoved fun l mem => by
    have other : l ∉ shiftLines := fun shift => still l shift mem
    have neutral : l ≠ .d3 := fun e => other (by simp [e, shiftLines])
    rw [seqLineChange_releasesSplit sampled fun fell => neutral fell.1, if_neg other]
  rw [(lineSample_moved complete).1, unmoved]
  simp

/-! ### The claim -/

/-- The four outcomes of the judgement, by whether the shift was on and whether the conditions hold (R62). -/
theorem roadShift_outcomes {s u : State} (clock : u.clock = s.clock) (config : u.config = s.config)
    (judged : u.seq = u.roadShiftNext s.seq) :
    let ready : Prop := u.lineClear .d2 = true ∧ u.lineSet .d1 = true ∧ u.image.v < 5 ∧ u.gov.demand = 0 ∧
      u.image.n ≤ s.config.idleRpm + 150
    (s.seq.oShiftRoad = true → ready → u.seq = s.seq) ∧
    (s.seq.oShiftRoad = true → ¬ready → u.seq = { s.seq with oShiftRoad := false, stepTimer := none }) ∧
    (s.seq.oShiftRoad = false → u.lineSet .d3 = true → ready → u.seq = { s.seq with
      oShiftRoad := true, stepTimer := some ⟨.release, ⟨s.clock, s.config.windows.release * 1000⟩⟩ }) ∧
    (s.seq.oShiftRoad = false → ¬(u.lineSet .d3 = true ∧ ready) → u.seq = s.seq) := by
  intro ready
  have conditions : u.roadShiftConditions = true ↔ ready := by rw [roadShiftConditions_iff, config]
  have began : (u.lineSet .d3 && u.roadShiftConditions) = true ↔ u.lineSet .d3 = true ∧ ready := by
    rw [Bool.and_eq_true, conditions]
  rw [judged]
  unfold State.roadShiftNext
  refine ⟨fun on holds => ?_, fun on fails => ?_, fun off shaft holds => ?_, fun off fails => ?_⟩
  · rw [if_pos on, if_pos (conditions.mpr holds)]
  · rw [if_pos on, if_neg fun h => fails (conditions.mp h)]
  · rw [if_neg (by simp [off]), if_pos (began.mpr ⟨shaft, holds⟩), ← clock, ← config]
    rfl
  · rw [if_neg (by simp [off]), if_neg fun h => fails (began.mp h)]

/-- What ends reads the inputs and the record alone. -/
theorem engagementEnds_congr {s t : State} {r : SeqReason} {q : Sequencer} (seq : t.seq = s.seq)
    (clock : t.clock = s.clock) (config : t.config = s.config) (n : t.image.n = s.image.n)
    (lines : t.image.lines = s.image.lines)
    (h : t.EngagementEnds r q) : s.EngagementEnds r q := by
  unfold State.EngagementEnds State.ReadsReleased State.idlingDownSeq State.lineClear State.stepTimer
    State.startTimer at h ⊢
  rwa [seq, clock, config, n, lines] at h

/-- An F1 gate that makes the truck moving ends a split engagement that has not its range (R51). -/
theorem roadGateEnd_motion {s : State} (phase : s.PhaseLaw) (path : s.PathLaw)
    (engaging : s.seq.state = .shifting ∨ s.seq.state = .awaitRange) (stopped : s.image.v < 5)
    (moves : 5 ≤ s.image.gateCount.f1 * 72000 / s.config.inputs.ppk) :
    s.EngagementEnds .motion s.roadGateEnd.seq ∧ s.roadGateEnd.seq.oShiftRoad = false := by
  have busy : s.seq.state ≠ .idle := by rcases engaging with h | h <;> simp [h]
  have split : s.seq.path = .split := path.2.1 engaging
  have v : 5 ≤ s.roadGated.image.v := by
    have : s.roadGated.image.v = min 1500 (s.image.gateCount.f1 * 72000 / s.config.inputs.ppk) := clampNat_zero _ _
    omega
  have made : (s.roadGated.moving && !s.moving) = true := by simp [State.moving, v, stopped]
  have ended : s.roadLimited.seqRoadGate true = s.roadLimited.faultToIdlingDown .motion .motion := by
    unfold State.seqRoadGate
    rcases engaging with h | h <;> simp [h]
  have seq : s.roadGateEnd.seq = (s.roadLimited.faultToIdlingDown .motion .motion).seq := by
    rw [roadGateEnd_of_complete (phase.complete_of_state busy), made, ended]
    simp
  refine ⟨?_, ?_⟩
  · rw [seq]
    exact engagementEnds_congr (t := s.roadLimited) (by simp) (by simp) (by simp) (by simp; rfl) (by simp)
      (faultToIdlingDown_ends _ _ (by simp [split]))
  · have solenoids := faultToIdlingDown_solenoids s.roadLimited .motion .motion
    rw [seq]
    by_contra on
    have still := (solenoids.2 (by simpa using on)).2.2
    simp at still
    omega

/-- Settles O31: motion by `roadGateEnd_motion`, the road shift by what each event makes of the record. -/
theorem motionEndsAnEngagement : Obligations.MotionEndsAnEngagement := by
  refine ⟨fun s phase path engaging stopped moves => ?_, fun c s phase demandLaw releasing split event => ?_⟩
  · obtain ⟨⟨pump, waits, ends, begins⟩, road⟩ := roadGateEnd_motion phase path engaging stopped moves
    have path : s.seq.path = .split := path.2.1 engaging
    refine ⟨s.roadGateEnd, exec_event rfl s, pump, road, ?_⟩
    split_ifs with idle clear
    · rw [ends (by omega) (.inr ⟨path, clear⟩)]
      exact ⟨rfl, rfl⟩
    · obtain ⟨state, -, reason⟩ := begins (by omega) (by simp [State.ReadsReleased, path, clear])
      exact ⟨state, reason⟩
    · rw [waits (by omega)]
      exact ⟨rfl, rfl, rfl⟩
  · have busy : s.seq.state ≠ .idle := by simp [releasing]
    have complete : s.image.complete = true := phase.complete_of_state busy
    have releases : s.ReleasesSplit := ⟨releasing, split, demandLaw.2.2 (by simp [releasing])⟩
    rcases event with rfl | rfl | ⟨raw, rfl⟩
    · refine ⟨s.engineGateEnd, exec_event rfl s, fun _ _ => ?_, nofun⟩
      exact roadShift_outcomes (by simp) (by simp) (engineGateEnd_roadShift releases complete)
    · refine ⟨s.roadGateEnd, exec_event rfl s, fun _ _ => ?_, nofun⟩
      exact roadShift_outcomes (by simp) (by simp) (roadGateEnd_roadShift releases complete)
    · have lines : (s.lineSample raw).image.lines = s.sampleLines raw := by simp
      have changed (l : Line) : l ∈ s.changedLines raw ↔
          ((s.lineSample raw).image.lines.get l).state ≠ (s.image.lines.get l).state := by
        rw [lines, mem_changedLines ((phase.2 complete).2 l)]
      have clear : (s.lineSample raw).lineClear .d3 = (s.sampled raw).lineClear .d3 := by simp [State.lineClear]
      refine ⟨s.lineSample raw, exec_event (f := (·.lineSample raw)) rfl s, fun neutral given => ?_,
        fun _ d1 d2 d3 => ?_⟩
      · refine roadShift_outcomes (by simp) (by simp) ?_
        have neutral : ¬(.d3 ∈ s.changedLines raw ∧ (s.sampled raw).lineClear .d3 = true) := by
          rwa [changed, ← clear]
        rcases given ⟨raw, rfl⟩ with h | h | h <;>
          exact lineSample_roadShift releases complete neutral ((changed _).mpr h) (by simp [shiftLines])
      · refine lineSample_still releases complete fun l shift => ?_
        rw [changed]
        simp only [shiftLines, List.mem_cons, List.not_mem_nil, or_false] at shift
        rcases shift with rfl | rfl | rfl <;> assumption

end Sys2Proof.Machine

/-! # What a change of a line does to an engagement (R49, R50, R52, R53, R56, R61, R63) -/

namespace Sys2Proof.Machine

section Sample

variable {s : State} {raw : BitVec 12}

/-- The state that the sequencer meets reads its lines as the sample leaves them. -/
theorem lineSample_reads (l : Line) : (s.lineSample raw).lineSet l = (s.sampled raw).lineSet l ∧
    (s.lineSample raw).lineClear l = (s.sampled raw).lineClear l := by
  simp [State.lineSet, State.lineClear]

/-- A line that the sample sets, or clears, is among those it changes. -/
theorem mem_changedLines_of_rises {l : Line} (was : s.lineClear l = true) (is : (s.lineSample raw).lineSet l = true) :
    l ∈ s.changedLines raw := by
  simp only [State.lineClear, State.lineSet, beq_iff_eq, State.lineSample_image] at was is
  rw [mem_changedLines (by simp [was]), was, is]
  simp

theorem mem_changedLines_of_falls {l : Line} (was : s.lineSet l = true) (is : (s.lineSample raw).lineClear l = true) :
    l ∈ s.changedLines raw := by
  simp only [State.lineClear, State.lineSet, beq_iff_eq, State.lineSample_image] at was is
  rw [mem_changedLines (by simp [was]), was, is]
  simp

/-- A line that reads HIGH does not read LOW. -/
theorem lineClear_of_lineSet {t : State} {l : Line} (h : t.lineSet l = true) : t.lineClear l = false := by
  simp only [State.lineSet, State.lineClear, beq_iff_eq] at h ⊢
  simp [h]

/-- Where the changes take the state sampled to another that none of them moves, that is what they leave. -/
theorem lineMoved_of_brings {t : State} {a : Line} (mem : a ∈ s.changedLines raw)
    (before : ∀ l ∈ s.changedLines raw, (s.sampled raw).seqLineChange l = s.sampled raw ∨
      (s.sampled raw).seqLineChange l = t)
    (brings : (s.sampled raw).seqLineChange a = t) (after : ∀ l ∈ s.changedLines raw, t.seqLineChange l = t) :
    s.lineMoved raw = t := by
  refine foldl_reaches (P := (· = s.sampled raw)) (Q := (· = t)) mem rfl ?_ ?_ ?_
  · rintro _ l h rfl
    exact before l h
  · rintro _ rfl
    exact brings
  · rintro _ l h rfl
    exact after l h

end Sample

/-! ### The sequencer's part, by the state it finds -/

section Equations

variable {s : State} {l : Line}

theorem seqLineChange_shifting (h : s.seq.state = .shifting) :
    s.seqLineChange l = if l = .d3 ∧ s.lineSet .d3 = true then s.enterAwaitRange else s := by
  simp only [State.seqLineChange, h]

theorem seqLineChange_awaitRange (h : s.seq.state = .awaitRange) :
    s.seqLineChange l = if l = .d2 ∧ s.lineSet .d2 = true then s.enterAwaitConfirm
      else if l = .d3 ∧ s.lineClear .d3 = true then s.faultToIdlingDown .feedbackDropped .feedback else s := by
  simp only [State.seqLineChange, h]

theorem seqLineChange_clutching (h : s.seq.state = .clutching) :
    s.seqLineChange l = if l = .d4 ∧ s.lineSet .d4 = true then s.enterAwaitConfirm else s := by
  simp only [State.seqLineChange, h]

theorem seqLineChange_awaitConfirm (h : s.seq.state = .awaitConfirm) :
    s.seqLineChange l = if l ∈ feedbackLines s.seq.path ∧ s.lineClear l = true then
      s.faultToIdlingDown .feedbackDropped .feedback else s := by
  simp only [State.seqLineChange, h, List.contains_iff_mem]

theorem seqLineChange_engaged (h : s.seq.state = .engaged) :
    s.seqLineChange l = if l ∈ feedbackLines s.seq.path ∧ s.lineClear l = true then s.enterHeldFeedback else s := by
  simp only [State.seqLineChange, h, List.contains_iff_mem]

/-- IDLE, HELD and IDLING_DOWN are left by no line (R53, R57, R60). -/
theorem seqLineChange_rest (h : s.seq.state = .idle ∨ s.seq.state = .held ∨ s.seq.state = .idlingDown) :
    s.seqLineChange l = s := by
  rcases h with h | h | h <;> simp only [State.seqLineChange, h]

/-- The line by which the drive of a path reads released (R61, R62). -/
def releaseLine : DrivePath → Line
  | .clutch => .d4
  | .split | .none => .d3

theorem seqLineChange_released (h : s.seq.state = .releasing) (clear : s.lineClear (releaseLine s.seq.path) = true) :
    s.seqLineChange (releaseLine s.seq.path) = s.enterIdle := by
  cases path : s.seq.path <;> simp_all [State.seqLineChange, releaseLine]

end Equations

theorem State.lineSet_of_image {s t : State} (h : t.image = s.image) (l : Line) : t.lineSet l = s.lineSet l := by
  unfold State.lineSet
  rw [h]

/-- AWAIT_RANGE, or AWAIT_CONFIRM where D2 is set already, with O_SHIFT_PUMP off (R49, R50). -/
theorem enterAwaitRange_spec (s : State) :
    s.enterAwaitRange.image = s.image ∧ s.enterAwaitRange.seq.path = s.seq.path ∧
    s.enterAwaitRange.seq.oShiftPump = false ∧
    s.enterAwaitRange.seq.state = if s.lineSet .d2 then .awaitConfirm else .awaitRange := by
  unfold State.enterAwaitRange
  dsimp only
  rw [State.lineSet_of_image (s := s) (by simp)]
  split <;> simp

section Engaging

variable {s : State} {raw : BitVec 12}

/-- While every feedback line of its path is set, or unchanged, AWAIT_CONFIRM stays (R53). -/
theorem seqLineChange_confirming {t : State} {l : Line} (state : t.seq.state = .awaitConfirm)
    (present : l ∈ feedbackLines t.seq.path → t.lineClear l = false) : t.seqLineChange l = t := by
  rw [seqLineChange_awaitConfirm state, if_neg]
  rintro ⟨mem, clear⟩
  simp [present mem] at clear

/-- D3 set ends SHIFTING (R49, R50). -/
theorem lineMoved_shifting (state : s.seq.state = .shifting) (path : s.seq.path = .split)
    (mem : .d3 ∈ s.changedLines raw) (set : (s.sampled raw).lineSet .d3 = true) :
    s.lineMoved raw = (s.sampled raw).enterAwaitRange := by
  have shifting : (s.sampled raw).seq.state = .shifting := by simpa using state
  obtain ⟨image, samePath, -, next⟩ := enterAwaitRange_spec (s.sampled raw)
  have split : (s.sampled raw).enterAwaitRange.seq.path = .split := by simp [samePath, path]
  have d3 : (s.sampled raw).enterAwaitRange.lineClear .d3 = false := by
    rw [State.lineClear_of_image image]
    exact lineClear_of_lineSet set
  refine lineMoved_of_brings mem (fun l _ => ?_) ?_ fun l _ => ?_
  · rw [seqLineChange_shifting shifting]
    exact (ite_eq_or_eq _ _ _).symm
  · rw [seqLineChange_shifting shifting, if_pos ⟨rfl, set⟩]
  · split at next
    · next d2 =>
      refine seqLineChange_confirming next fun feedback => ?_
      simp only [split, feedbackLines, List.mem_cons, List.not_mem_nil, or_false] at feedback
      rcases feedback with rfl | rfl
      · rw [State.lineClear_of_image image]
        exact lineClear_of_lineSet d2
      · exact d3
    · next d2 =>
      rw [seqLineChange_awaitRange next, State.lineSet_of_image image]
      simp [d2, d3]

/-- D2 set ends AWAIT_RANGE, where D3 does not fall at once (R50). -/
theorem lineMoved_awaitRange (state : s.seq.state = .awaitRange) (path : s.seq.path = .split)
    (mem : .d2 ∈ s.changedLines raw) (set : (s.sampled raw).lineSet .d2 = true)
    (shaft : .d3 ∈ s.changedLines raw → (s.sampled raw).lineClear .d3 = false) :
    s.lineMoved raw = (s.sampled raw).enterAwaitConfirm := by
  have waiting : (s.sampled raw).seq.state = .awaitRange := by simpa using state
  refine lineMoved_of_brings mem (fun l changed => ?_) ?_ fun l changed => ?_
  · rw [seqLineChange_awaitRange waiting]
    split_ifs with d2 d3
    · exact .inr rfl
    · simp [shaft (d3.1 ▸ changed)] at d3
    · exact .inl rfl
  · rw [seqLineChange_awaitRange waiting, if_pos ⟨rfl, set⟩]
  · refine seqLineChange_confirming (by simp) fun feedback => ?_
    simp only [State.enterAwaitConfirm_seq, State.sampled_frame, path, feedbackLines, List.mem_cons, List.not_mem_nil,
      or_false] at feedback
    rw [State.lineClear_of_image (s := s.sampled raw) (by simp)]
    rcases feedback with rfl | rfl
    · exact lineClear_of_lineSet set
    · exact shaft changed

/-- D4 set ends CLUTCHING (R52). -/
theorem lineMoved_clutching (state : s.seq.state = .clutching) (path : s.seq.path = .clutch)
    (mem : .d4 ∈ s.changedLines raw) (set : (s.sampled raw).lineSet .d4 = true) :
    s.lineMoved raw = (s.sampled raw).enterAwaitConfirm := by
  have clutching : (s.sampled raw).seq.state = .clutching := by simpa using state
  refine lineMoved_of_brings mem (fun l _ => ?_) ?_ fun l _ => ?_
  · rw [seqLineChange_clutching clutching]
    exact (ite_eq_or_eq _ _ _).symm
  · rw [seqLineChange_clutching clutching, if_pos ⟨rfl, set⟩]
  · refine seqLineChange_confirming (by simp) fun feedback => ?_
    simp only [State.enterAwaitConfirm_seq, State.sampled_frame, path, feedbackLines, List.mem_singleton] at feedback
    rw [State.lineClear_of_image (s := s.sampled raw) (by simp), feedback]
    exact lineClear_of_lineSet set

/-- Feedback lost takes ENGAGED to HELD (R56). -/
theorem lineMoved_engaged (state : s.seq.state = .engaged) {a : Line} (feedback : a ∈ feedbackLines s.seq.path)
    (mem : a ∈ s.changedLines raw) (clear : (s.sampled raw).lineClear a = true) :
    s.lineMoved raw = (s.sampled raw).enterHeldFeedback := by
  have engaged : (s.sampled raw).seq.state = .engaged := by simpa using state
  refine lineMoved_of_brings mem (fun l _ => ?_) ?_ fun l _ => seqLineChange_rest (by simp)
  · rw [seqLineChange_engaged engaged]
    exact (ite_eq_or_eq _ _ _).symm
  · rw [seqLineChange_engaged engaged, if_pos ⟨by simpa using feedback, clear⟩]

/-- IDLE, HELD and IDLING_DOWN stay. -/
theorem lineMoved_rest (state : s.seq.state = .idle ∨ s.seq.state = .held ∨ s.seq.state = .idlingDown) :
    s.lineMoved raw = s.sampled raw :=
  foldl_of_unmoved fun _ _ => seqLineChange_rest (by simpa using state)

/-! ### Feedback lost in AWAIT_CONFIRM (R53) -/

/-- The engagement has ended: IDLING_DOWN, or the release that follows it (R60 to R62). -/
def State.HasEnded (s : State) : Prop :=
  s.seq.state = .idlingDown ∨ s.seq.state = .releasing ∨ s.seq.state = .idle

theorem State.EngagementEnds.hasEnded {s t : State} {r : SeqReason} (h : s.EngagementEnds r t.seq) : t.HasEnded := by
  obtain ⟨-, waits, ends, begins⟩ := h
  by_cases fast : s.config.idleRpm + 150 < s.image.n
  · exact .inl (by rw [waits fast]; rfl)
  by_cases released : s.ReadsReleased
  · exact .inr (.inr (by rw [ends fast released]; rfl))
  · exact .inr (.inl (begins fast released).1)

theorem seqLineChange_hasEnded {s : State} (l : Line) (h : s.HasEnded) : (s.seqLineChange l).HasEnded := by
  by_cases releasing : s.seq.state = .releasing
  · rcases s.seqLineChange_cases l with e | ⟨other, -⟩ | ⟨other, -⟩ | ⟨other, -⟩ | ⟨other, -⟩ | ⟨-, e | e⟩
    · rwa [e]
    · simp [releasing] at other
    · simp [releasing] at other
    · simp [releasing] at other
    · simp [releasing] at other
    · exact .inr (.inr (by simp [e, startSequencer]))
    · obtain ⟨shift, timer, seq⟩ := s.judgeRoadShift_seq
      exact .inr (.inl (by rw [e, seq]; exact releasing))
  · rwa [seqLineChange_rest]
    rcases h with h | h | h
    · exact .inr (.inr h)
    · exact absurd h releasing
    · exact .inl h

theorem lineMoved_awaitConfirm (state : s.seq.state = .awaitConfirm) {a : Line}
    (feedback : a ∈ feedbackLines s.seq.path) (mem : a ∈ s.changedLines raw) (clear : (s.sampled raw).lineClear a = true) : (s.lineMoved raw).HasEnded := by
  have waiting : (s.sampled raw).seq.state = .awaitConfirm := by simpa using state
  have driven : (s.sampled raw).seq.path ≠ .none := by
    intro none
    have none : s.seq.path = .none := by simpa using none
    simp [none, feedbackLines] at feedback
  have ended : ((s.sampled raw).faultToIdlingDown .feedbackDropped .feedback).HasEnded :=
    (faultToIdlingDown_ends _ _ driven).hasEnded
  refine foldl_reaches (P := (· = s.sampled raw)) mem rfl ?_ ?_ fun t l _ h => seqLineChange_hasEnded l h
  · rintro _ l - rfl
    rw [seqLineChange_awaitConfirm waiting]
    split
    · exact .inr ended
    · exact .inl rfl
  · rintro _ rfl
    rwa [seqLineChange_awaitConfirm waiting, if_pos ⟨by simpa using feedback, clear⟩]

/-! ### The drive released (R61, R63) -/

/-- IDLE entered at the end of an engagement: its record, mode ROAD and no protection record (R64). -/
def State.IsReleased (s : State) : Prop :=
  s.seq = startSequencer ∧ s.matrix.mode = .road ∧ s.gov.saved = none

theorem enterIdle_isReleased {s : State} (started : s.matrix.mode ≠ .start) : s.enterIdle.IsReleased := by
  refine ⟨by simp, ?_, ?_⟩
  · rw [State.enterIdle_modeLaw started]
    simp [startSequencer, modeOf]
  · unfold State.enterIdle
    obtain ⟨-, -, -, -, -, saved, -⟩ := (matrixTake_eased _).kept
    rw [saved]
    simp [discardProtection_gov]

/-- A release on that path that sees what the sample left. -/
structure State.Releasing (s : State) (path : DrivePath) (t : State) : Prop where
  state : t.seq.state = .releasing
  path : t.seq.path = path
  image : t.image = s.image
  started : t.matrix.mode ≠ .start

theorem seqLineChange_releasing {s t : State} {path : DrivePath} (l : Line) (h : s.Releasing path t) :
    s.Releasing path (t.seqLineChange l) ∨ (t.seqLineChange l).IsReleased := by
  have state := h.state
  rcases t.seqLineChange_cases l with e | ⟨other, -⟩ | ⟨other, -⟩ | ⟨other, -⟩ | ⟨other, -⟩ | ⟨-, e | e⟩
  · exact .inl (by rwa [e])
  · simp [state] at other
  · simp [state] at other
  · simp [state] at other
  · simp [state] at other
  · exact .inr (e ▸ enterIdle_isReleased h.started)
  · obtain ⟨shift, timer, seq⟩ := t.judgeRoadShift_seq
    exact .inl ⟨by rw [e, seq]; exact state, by rw [e, seq]; exact h.path, by simp [h.image],
      by rw [e, t.judgeRoadShift_modes.1]; exact h.started⟩

theorem lineMoved_released (started : s.matrix.mode ≠ .start) (state : s.seq.state = .releasing)
    (mem : releaseLine s.seq.path ∈ s.changedLines raw)
    (clear : (s.sampled raw).lineClear (releaseLine s.seq.path) = true) : (s.lineMoved raw).IsReleased := by
  refine foldl_reaches (P := (s.sampled raw).Releasing s.seq.path) mem
    ⟨by simpa using state, by simp, rfl, by simpa using started⟩ (fun t l _ h => seqLineChange_releasing l h)
    (fun t h => ?_) fun t l _ h => ?_
  · have clear : t.lineClear (releaseLine t.seq.path) = true := by
      rwa [h.path, State.lineClear_of_image h.image]
    have e := seqLineChange_released h.state clear
    rw [h.path] at e
    exact e ▸ enterIdle_isReleased h.started
  · rwa [seqLineChange_rest (.inl (by rw [h.1]; rfl))]

end Engaging

/-! ### The claim -/

/-- HELD with reason FEEDBACK takes the throttle away (R56, R79). -/
theorem enterHeldFeedback_gov (s : State) :
    s.enterHeldFeedback.gov.opMode = .idle ∧ s.enterHeldFeedback.gov.demand = 0 ∧
    s.enterHeldFeedback.gov.integrator = 0 ∧ s.enterHeldFeedback.gov.ring = [] := by
  unfold State.enterHeldFeedback
  dsimp only
  generalize State.submit _ _ = t
  obtain ⟨op, demand, integrator, ring⟩ := governorHold_gov t
  have eased := matrixTake_eased t.governorHold
  obtain ⟨sameOp, -, -, sameIntegrator, sameRing, -⟩ := eased.kept
  exact ⟨sameOp.trans op, eased.demand_zero demand, sameIntegrator.trans integrator, sameRing.trans ring⟩

/-- Settles O34: the image being complete, the sample leaves what the changed lines made of the sequencer, which the
matrix then only eases. -/
theorem linesMoveTheSequencer : Obligations.LinesMoveTheSequencer := by
  intro raw s phase path
  refine ⟨s.lineSample raw, exec_event (f := (·.lineSample raw)) rfl s, ?_⟩
  intro rises falls lost
  have complete (busy : s.seq.state ≠ .idle) : s.image.complete = true := phase.complete_of_state busy
  have started (busy : s.seq.state ≠ .idle) : s.matrix.mode ≠ .start := (phase.modeLaw (complete busy)).ne_start
  have moved (busy : s.seq.state ≠ .idle) := lineSample_moved (raw := raw) (complete busy)
  have rise {l : Line} (h : rises l) : l ∈ s.changedLines raw ∧ (s.sampled raw).lineSet l = true :=
    ⟨mem_changedLines_of_rises h.1 h.2, (lineSample_reads l).1 ▸ h.2⟩
  have fall {l : Line} (h : falls l) : l ∈ s.changedLines raw ∧ (s.sampled raw).lineClear l = true :=
    ⟨mem_changedLines_of_falls h.1 h.2, (lineSample_reads l).2 ▸ h.2⟩
  have loss (h : lost) : ∃ a ∈ feedbackLines s.seq.path, falls a := by
    rcases h with ⟨split, h | h⟩ | ⟨clutch, h⟩
    · exact ⟨.d2, by simp [split, feedbackLines], h⟩
    · exact ⟨.d3, by simp [split, feedbackLines], h⟩
    · exact ⟨.d4, by simp [clutch, feedbackLines], h⟩
  refine ⟨fun state d3 => ?_, fun state d2 d3 => ?_, fun state d4 => ?_, fun state h => ?_, fun state h => ?_,
    fun state h => ?_, fun state done => ?_⟩
  · obtain ⟨mem, set⟩ := rise d3
    obtain ⟨-, -, pump, next⟩ := enterAwaitRange_spec (s.sampled raw)
    rw [(moved (by simp [state])).1, lineMoved_shifting state (path.2.1 (.inl state)) mem set, (lineSample_reads .d2).1]
    exact ⟨pump, next⟩
  · obtain ⟨mem, set⟩ := rise d2
    have busy : s.seq.state ≠ .idle := by simp [state]
    have shaft (changed : .d3 ∈ s.changedLines raw) : (s.sampled raw).lineClear .d3 = false := by
      by_contra clear
      have clear : (s.lineSample raw).lineClear .d3 = true := (lineSample_reads .d3).2 ▸ (by simpa using clear)
      refine d3 ⟨?_, clear⟩
      have settled := (phase.2 (complete busy)).2 .d3
      rw [mem_changedLines settled] at changed
      simp only [State.lineClear, State.lineSet, beq_iff_eq, State.lineSample_image] at clear ⊢
      cases was : (s.image.lines.get .d3).state <;> simp_all
    rw [(moved busy).1, lineMoved_awaitRange state (path.2.1 (.inr state)) mem set shaft]
    simp [State.stepTimer, State.startTimer, WorkingConfig.windowMs]
  · obtain ⟨mem, set⟩ := rise d4
    rw [(moved (by simp [state])).1, lineMoved_clutching state (path.2.2.1 state) mem set]
    simp
  · obtain ⟨a, feedback, lost⟩ := loss h
    obtain ⟨mem, clear⟩ := fall lost
    rw [(moved (by simp [state])).1]
    exact lineMoved_awaitConfirm state feedback mem clear
  · obtain ⟨a, feedback, lost⟩ := loss h
    obtain ⟨mem, clear⟩ := fall lost
    have busy : s.seq.state ≠ .idle := by simp [state]
    obtain ⟨seq, mode, eased⟩ := moved busy
    rw [lineMoved_engaged state feedback mem clear] at seq mode eased
    obtain ⟨op, demand, integrator, ring⟩ := enterHeldFeedback_gov (s.sampled raw)
    obtain ⟨sameOp, -, -, sameIntegrator, sameRing, -⟩ := eased.kept
    have held : (s.sampled raw).enterHeldFeedback.matrix.mode = .faultHold := by
      rw [State.enterHeldFeedback_modeLaw (by simpa using started busy)]
      simp [modeOf]
    rw [seq, mode]
    exact ⟨by simp, by simp, by simp, by simp, held, sameOp.trans op, eased.demand_zero demand,
      sameIntegrator.trans integrator, sameRing.trans ring⟩
  · have busy : s.seq.state ≠ .idle := by simp [state]
    have fell : falls (releaseLine s.seq.path) := by
      rcases h with ⟨path, h⟩ | ⟨path, h⟩ <;> rwa [path]
    obtain ⟨mem, clear⟩ := fall fell
    obtain ⟨seq, mode, eased⟩ := moved busy
    obtain ⟨idle, road, saved⟩ := lineMoved_released (started busy) state mem clear
    obtain ⟨-, -, -, -, -, sameSaved, -⟩ := eased.kept
    rw [seq, mode, sameSaved, idle]
    exact ⟨rfl, rfl, rfl, rfl, rfl, rfl, road, saved⟩
  · rw [(lineSample_moved done).1, lineMoved_rest state]
    simp

end Sys2Proof.Machine

/-! # ENGAGE (R45 to R47) -/

namespace Sys2Proof.Machine

/-! ### The entries that withhold ENGAGE (R21, R33) -/

/-- An entry that is present, names ENGAGE and is TRIPPED or LATCHED. -/
def State.WithholdsEngage (s : State) (i : EntryIx) : Prop :=
  ∃ e, s.config.entries.get i = some e ∧ e.effects.getLsbD 1 = true ∧
    ((s.matrix.locks.get i).state = .tripped ∨ (s.matrix.locks.get i).state = .latched)

theorem effectApplies_engage (s : State) (i : EntryIx) :
    s.effectApplies (effectBit .engage) i = true ↔ s.WithholdsEngage i := by
  unfold State.effectApplies State.WithholdsEngage
  cases s.config.entries.get i <;> simp [State.lockHolds, effectBit, permitCode, and_comm]

theorem lowestLockout_isSome (s : State) : (s.lowestLockout .engage).isSome = true ↔ ∃ i, s.WithholdsEngage i := by
  simp [State.lowestLockout, List.find?_isSome, effectApplies_engage, EntryIx.mem_all]

/-- The entries stand in the order of their indices. -/
theorem entryIx_getElem (i : EntryIx) : EntryIx.all[entryNo i]? = some i := by cases i <;> rfl

/-- The lockout that a refusal names is the one of the lowest index (R155). -/
theorem lowestLockout_eq {s : State} {i : EntryIx} (holds : s.WithholdsEngage i)
    (lowest : ∀ j, entryNo j < entryNo i → ¬s.WithholdsEngage j) : s.lowestLockout .engage = some i := by
  obtain ⟨bound, here⟩ := List.getElem?_eq_some_iff.mp (entryIx_getElem i)
  refine List.find?_eq_some_iff_getElem.mpr
    ⟨(effectApplies_engage s i).mpr holds, entryNo i, bound, here, fun k below => ?_⟩
  have number : entryNo EntryIx.all[k] = k := by
    have all : ∀ k : Fin 16, entryNo (EntryIx.all[k.val]'k.isLt) = k.val := by decide
    exact all ⟨k, below.trans (entryNo_lt i)⟩
  have other := lowest EntryIx.all[k] (by omega)
  rw [← effectApplies_engage] at other
  simpa using other

/-! ### The set of failing conditions (R45, R155) -/

/-- What R45 asks of an ENGAGE, as it fails. -/
def State.EngageFailing (s : State) (roll : Bool) : CondName → Prop
  | .mode => s.matrix.mode ≠ .road
  | .moving => 5 ≤ s.image.v
  | .park => s.lineSet .d0 = false
  | .neutral => s.lineSet .d1 = false
  | .engine => s.config.idleRpm + 150 < s.image.n
  | .lockout => ∃ i, s.WithholdsEngage i
  | .feedback => s.lineSet .d3 = true ∨ s.lineSet .d4 = true
  | .source => roll = true ∧ ¬(s.supply.source = .tank ∧ s.supply.changeover = none)
  | _ => False

theorem mem_fails {name other : CondName} {failing : Bool} :
    other ∈ fails name failing ↔ other = name ∧ failing = true := by
  cases failing <;> simp [fails]

theorem sourceReady_iff (s : State) :
    s.sourceReady = true ↔ s.supply.source = .tank ∧ s.supply.changeover = none := by
  simp [State.sourceReady]

theorem engineIdle_iff (s : State) : s.engineIdle = true ↔ s.image.n ≤ s.config.idleRpm + 150 := decide_eq_true_iff

theorem mem_engageFails {s : State} {roll : Bool} {name : CondName} :
    name ∈ s.engageFails roll ↔ s.EngageFailing roll name := by
  simp only [State.engageFails, State.permitFails, List.mem_append, mem_fails, lowestLockout_isSome]
  cases name <;> simp [State.EngageFailing, State.moving, ← sourceReady_iff]
  rw [← Bool.not_eq_true, engineIdle_iff, not_le]

/-- Every condition of ENGAGE has its bit in the low byte (R155). -/
theorem code_lt_of_engageFailing {s : State} {roll : Bool} {name : CondName} (h : s.EngageFailing roll name) :
    name.code < 8 := by
  cases name
  case permit | tank | full | demand | empty | unconfigured | brake | shaft | shifting | splitPath | start =>
    exact absurd h id
  all_goals decide

theorem condName_code_injective : Function.Injective CondName.code := by
  intro a b h
  cases a <;> cases b <;> simp_all [CondName.code]

/-- None of them fails exactly where ENGAGE is in order. -/
theorem engageFailing_none_iff {s : State} {roll : Bool} : (∀ n, ¬s.EngageFailing roll n) ↔
    s.matrix.mode = .road ∧ s.image.v < 5 ∧ s.lineSet .d0 = true ∧ s.lineSet .d1 = true ∧
      s.image.n ≤ s.config.idleRpm + 150 ∧ ¬(∃ i, s.WithholdsEngage i) ∧
      ¬(s.lineSet .d3 = true ∨ s.lineSet .d4 = true) ∧ ¬s.EngageFailing roll .source := by
  constructor
  · intro none
    have park := none .park
    have neutral := none .neutral
    simp only [State.EngageFailing, Bool.not_eq_false] at park neutral
    exact ⟨not_not.mp (none .mode), not_le.mp (none .moving), park, neutral, not_lt.mp (none .engine), none .lockout,
      none .feedback, none .source⟩
  · rintro ⟨mode, stopped, park, neutral, idle, free, quiet, sourced⟩ n
    cases n
    case mode => exact not_not.mpr mode
    case moving => exact not_le.mpr stopped
    case park => simpa [State.EngageFailing] using park
    case neutral => simpa [State.EngageFailing] using neutral
    case engine => exact not_lt.mpr idle
    case lockout => exact free
    case feedback => exact quiet
    case source => exact sourced
    all_goals exact id

/-- NOT_PERMITTED of conditions whose bits are all in the low byte (R155). -/
theorem notPermitted_low {s : State} {names : List CondName} {lockout : Option EntryIx}
    (low : ∀ n ∈ names, n.code < 8) :
    ∃ set d3, s.notPermitted names lockout = .refused .notPermitted 0 set d3 ∧
      (∀ n : CondName, n.code < 8 → (set.getLsbD n.code = true ↔ n ∈ names)) ∧
      (lockout = none → d3 = BitVec.ofNat 8 s.matrix.mode.code) ∧
      ∀ i, lockout = some i → d3 = BitVec.ofNat 8 (entryNo i) := by
  have kept : (names.map CondName.code).filter (· < 16) = names.map CondName.code := by
    refine List.filter_eq_self.mpr fun k mem => ?_
    obtain ⟨n, here, rfl⟩ := List.mem_map.mp mem
    have := low n here
    simp
    omega
  have small : bitSet (names.map CondName.code) < 256 := by
    refine Nat.lt_pow_two_of_testBit (n := 8) _ fun k high => ?_
    rw [bitSet_testBit, decide_eq_false_iff_not]
    intro mem
    obtain ⟨n, here, rfl⟩ := List.mem_map.mp mem
    have := low n here
    omega
  have high : BitVec.ofNat 8 (bitSet (names.map CondName.code) / 256) = 0 := by
    rw [Nat.div_eq_of_lt small]
    rfl
  have bits (n : CondName) (bit : n.code < 8) :
      (BitVec.ofNat 8 (bitSet (names.map CondName.code))).getLsbD n.code = true ↔ n ∈ names := by
    rw [BitVec.getLsbD_ofNat, bitSet_testBit]
    simp [bit, List.mem_map_of_injective condName_code_injective]
  rcases lockout with _ | i
  · exact ⟨_, _, by simp only [State.notPermitted, kept, high], bits, fun _ => rfl, nofun⟩
  · exact ⟨_, BitVec.ofNat 8 (entryNo i), by simp only [State.notPermitted, kept, high], bits, nofun,
      fun j e => by cases e; rfl⟩

/-! ### What ENGAGE begins (R18, R21, R46, R47) -/

theorem matrixTake_permits (s : State) (p : Permit) :
    s.matrixTake.matrix.permits.get p = s.matrixTake.permitHeld p := by
  unfold State.matrixTake
  generalize (if s.matrix.mode = .start then AppMode.start else modeOf s.seq.state s.seq.path) = m
  unfold State.enterMode
  split
  · have same := permitHeld_congr (s := s) (t := s.matrixRecompute) p (by simp) (by simp) (by simp) (by simp)
      (by simp [State.matrixRecompute])
    rw [same, ← recomputePermits_permits]
    simp [State.matrixRecompute]
  · exact matrixJudge_permits _ _ p

/-- Outside ROAD the ENGAGE permit is withheld (R23). -/
theorem engage_withheld {s : State} (h : s.matrix.mode ≠ .road) : s.permitHeld .engage = false := by
  simp [State.permitHeld, State.permitFails, fails, h]

/-- While O_SHIFT_PUMP is energized the DRIVE permit is withheld (R22). -/
theorem drive_withheld {s : State} (h : s.seq.oShiftPump = true) : s.permitHeld .drive = false := by
  simp [State.permitHeld, State.permitFails, fails, h]

/-- Both beginnings take mode TRANSFER, and ENGAGE is then withheld (R18, R21). -/
theorem matrixTake_transfer {s : State} (started : s.matrix.mode ≠ .start)
    (engaging : modeOf s.seq.state s.seq.path = .transfer) :
    s.matrixTake.matrix.mode = .transfer ∧ s.matrixTake.matrix.permits.engage = false := by
  have mode : s.matrixTake.matrix.mode = .transfer := by simp [started, engaging]
  exact ⟨mode, (matrixTake_permits s .engage).trans (engage_withheld (by rw [mode]; simp))⟩

theorem enterShifting_transfer {s : State} (started : s.matrix.mode ≠ .start) :
    s.enterShifting.matrix.mode = .transfer ∧ s.enterShifting.matrix.permits.engage = false :=
  matrixTake_transfer (by simpa using started) (by simp [modeOf])

theorem enterClutching_transfer {s : State} (started : s.matrix.mode ≠ .start) :
    s.enterClutching.matrix.mode = .transfer ∧ s.enterClutching.matrix.permits.engage = false :=
  matrixTake_transfer (by simpa using started) (by simp [modeOf])

/-- SHIFTING withholds DRIVE, and asserts O_DRIVE_INHIBIT with it (R22, R46). -/
theorem enterShifting_drive (s : State) : s.enterShifting.matrix.permits.drive = false ∧
    (s.PermitLaw → s.enterShifting.matrix.driveInhibit = true) := by
  have withheld : s.enterShifting.matrix.permits.drive = false :=
    (matrixTake_permits _ .drive).trans (drive_withheld (by simp))
  refine ⟨withheld, fun law => ?_⟩
  rw [(permit_judged.enterShifting law.2).2, withheld]
  rfl

/-! ### The claim -/

theorem exec_engage {tag target : Byte} {s t : State} {a : Answer} (listening : s.listening = true)
    (answered : answerEngage [target] s.framed = (t, a)) :
    exec (.engage tag [target]) s = .next ({ t with link := s.link }.answered 0x20 tag a) :=
  exec_request rfl listening (by simp) answered

/-- A target in order is STATIONARY or ROLL (R45). -/
theorem answerEngage_target {target : Byte} (h : ¬2 ≤ target.toNat) (s : State) :
    answerEngage [target] s = s.engage (target == 1#8) ∧ (target = 0 ↔ (target == 1#8) = false) := by
  have two : target = 0#8 ∨ target = 1#8 := by
    rcases Nat.lt_or_ge target.toNat 1 with zero | one
    · exact .inl (BitVec.eq_of_toNat_eq (by simp; omega))
    · exact .inr (BitVec.eq_of_toNat_eq (by simp; omega))
  rcases two with rfl | rfl
  · exact ⟨rfl, by simp⟩
  · exact ⟨rfl, by simp⟩

theorem answerEngage_malformed {target : Byte} (h : 2 ≤ target.toNat) (s : State) :
    answerEngage [target] s = (s, .refused .malformed 1 1 0) := by
  have stationary : target ≠ 0#8 := by rintro rfl; simp at h
  have roll : target ≠ 1#8 := by rintro rfl; simp at h
  simp only [answerEngage]
  rw [if_neg stationary, if_neg roll]
  rfl

/-- With nothing failing ENGAGE begins on the path of its target (R46, R47). -/
theorem engage_begins {s : State} (roll : Bool) (state : s.seq.state = .idle)
    (ready : ∀ n, ¬s.EngageFailing roll n) :
    s.engage roll = (if roll then s.enterClutching else s.enterShifting, .ok) := by
  have none : (s.engageFails roll).isEmpty = true :=
    List.isEmpty_iff.mpr (List.eq_nil_iff_forall_not_mem.mpr fun n mem => ready n (mem_engageFails.mp mem))
  rw [State.engage, if_neg (by simp [state]), if_pos none]

theorem engage_refuses {s : State} {roll : Bool} {n : CondName} (state : s.seq.state = .idle)
    (failing : s.EngageFailing roll n) :
    s.engage roll = (s, s.notPermitted (s.engageFails roll) (s.lowestLockout .engage)) := by
  have some : ¬(s.engageFails roll).isEmpty = true := fun none => by
    have mem := mem_engageFails.mpr failing
    rw [List.isEmpty_iff.mp none] at mem
    simp at mem
  rw [State.engage, if_neg (by simp [state]), if_neg some]
  rfl

/-- Settles O48: the target and the state in order, then the set of failing conditions or one of the beginnings. -/
theorem engageChecksAndBegins : Obligations.EngageChecksAndBegins := by
  intro tag target s listening outcome names locked feedback unsourced ready
  by_cases bad : 2 ≤ target.toNat
  · rw [if_pos bad]
    exact exec_engage (t := s.framed) listening (answerEngage_malformed bad _)
  rw [if_neg bad]
  obtain ⟨taken, stationary⟩ := answerEngage_target bad s.framed
  by_cases busy : s.seq.state ≠ .idle
  · rw [if_pos busy]
    refine exec_engage (t := s.framed) listening (taken.trans ?_)
    exact if_pos busy
  rw [if_neg busy]
  have state : s.seq.state = .idle := not_not.mp busy
  generalize hroll : (target == 1#8) = roll at taken stationary
  have source : s.EngageFailing roll .source ↔ unsourced := by
    simp [State.EngageFailing, unsourced, ← hroll]
  have asked : ready ↔ ∀ n, ¬s.EngageFailing roll n := by
    rw [engageFailing_none_iff, source]
    rfl
  refine ⟨fun unready => ?_, fun holds => ?_⟩
  · obtain ⟨n, failing⟩ := not_forall.mp (mt asked.mpr unready)
    have refused := engage_refuses (s := s.framed) (roll := roll) state (not_not.mp failing)
    obtain ⟨set, d3, answer, bits, unlocked, lowest⟩ := notPermitted_low (s := s) (names := s.engageFails roll)
      (lockout := s.lowestLockout .engage) fun n mem => code_lt_of_engageFailing (mem_engageFails.mp mem)
    have bit (n : CondName) (low : n.code < 8) : set.getLsbD n.code = true ↔ s.EngageFailing roll n :=
      (bits n low).trans mem_engageFails
    refine ⟨set, d3, exec_engage (t := s.framed) listening ?_, bit .mode (by decide), bit .moving (by decide),
      bit .park (by decide), bit .neutral (by decide), bit .engine (by decide), bit .lockout (by decide),
      bit .feedback (by decide), (bit .source (by decide)).trans source, fun free => unlocked ?_,
      fun i holds first => ?_⟩
    · rw [taken, refused, ← answer]
      rfl
    · exact Option.not_isSome_iff_eq_none.mp fun found => free ((lowestLockout_isSome s).mp found)
    · exact lowest i (lowestLockout_eq holds first)
  · have road : s.matrix.mode = .road := holds.1
    have begun := taken.trans (engage_begins (s := s.framed) roll state (asked.mp holds))
    rcases roll with _ | _
    · have zero : target = 0 := stationary.mpr rfl
      obtain ⟨mode, engage⟩ := enterShifting_transfer (s := s.framed) (by simp [State.framed, road])
      obtain ⟨drive, inhibit⟩ := enterShifting_drive s.framed
      refine ⟨_, exec_engage listening begun, by ext1 <;> simp [State.framed], mode, engage, ?_⟩
      rw [if_pos zero]
      exact ⟨s.framed.enterShifting_seq, drive, inhibit⟩
    · have one : target ≠ 0 := fun zero => by simpa using stationary.mp zero
      obtain ⟨mode, engage⟩ := enterClutching_transfer (s := s.framed) (by simp [State.framed, road])
      refine ⟨_, exec_engage listening begun, by ext1 <;> simp [State.framed], mode, engage, ?_⟩
      rw [if_neg one]
      exact s.framed.enterClutching_seq

end Sys2Proof.Machine

/-! # The demand through the operations that neither drive it nor let it go (R84, R96 to R114) -/

namespace Sys2Proof.Machine

@[simp] theorem State.stopPrimer_demand (s : State) : s.stopPrimer.gov.demand = s.gov.demand := by
  obtain ⟨elapsed, gov⟩ := stopPrimer_gov s
  rw [gov]

@[simp] theorem State.discardProtection_demand (s : State) : s.discardProtection.gov.demand = s.gov.demand :=
  (discardProtection_gov s).2.2.2.2.1

@[simp] theorem State.judgeRelief_demand (s : State) : s.judgeRelief.gov.demand = s.gov.demand := by
  simp only [State.judgeRelief]
  repeat' split
  all_goals simp

@[simp] theorem State.governorEngage_demand (s : State) : s.governorEngage.gov.demand = s.gov.demand := by
  simp only [State.governorEngage]
  split <;> simp

@[simp] theorem State.returnToOperator_demand (s : State) : s.returnToOperator.gov.demand = s.gov.demand := by
  simp [State.returnToOperator]

@[simp] theorem State.causeLeaves_demand (s : State) (c : Cause) : (s.causeLeaves c).gov.demand = s.gov.demand := by
  unfold State.causeLeaves
  split <;> simp

@[simp] theorem State.judgePrimer_demand (s : State) : s.judgePrimer.gov.demand = s.gov.demand := by
  simp only [State.judgePrimer]
  repeat' split
  all_goals simp

@[simp] theorem State.handSource_demand (s : State) : s.handSource.gov.demand = s.gov.demand := by
  simp only [State.handSource]
  repeat' split
  all_goals simp

@[simp] theorem State.changeSource_demand (s : State) (w : WaterSource) :
    (s.changeSource w).gov.demand = s.gov.demand := by
  unfold State.changeSource
  split <;> simp

@[simp] theorem State.judgeChangeover_demand (s : State) : s.judgeChangeover.gov.demand = s.gov.demand := by
  simp only [State.judgeChangeover, State.completeChangeover]
  repeat' split
  all_goals simp

@[simp] theorem State.pressureSample_demand (s : State) (c0 c1 : Code) :
    (s.pressureSample c0 c1).gov.demand = s.gov.demand := by
  simp only [State.pressureSample]
  split <;> simp

@[simp] theorem State.primeExpiry_demand (s : State) : s.primeExpiry.gov.demand = s.gov.demand := by
  unfold State.primeExpiry
  split <;> simp

@[simp] theorem State.primerAtDemand_demand (s : State) : s.primerAtDemand.gov.demand = s.gov.demand := by
  unfold State.primerAtDemand
  split <;> simp

@[simp] theorem State.judgeCavitation_demand (s : State) : s.judgeCavitation.gov.demand = s.gov.demand := by
  simp only [State.judgeCavitation]
  repeat' split
  all_goals simp

@[simp] theorem State.judgePrimeLost_demand (s : State) : s.judgePrimeLost.gov.demand = s.gov.demand := by
  simp only [State.judgePrimeLost]
  repeat' split
  all_goals simp

@[simp] theorem State.judgeOverLimit_demand (s : State) (m : GovMode) :
    (s.judgeOverLimit m).gov.demand = s.gov.demand := by
  simp only [State.judgeOverLimit]
  split <;> simp

@[simp] theorem State.overpressureReturns_demand (s : State) : s.overpressureReturns.gov.demand = s.gov.demand := by
  simp only [State.overpressureReturns]
  split <;> simp

@[simp] theorem State.judgeReturn_demand (s : State) : s.judgeReturn.gov.demand = s.gov.demand := by
  simp only [State.judgeReturn]
  repeat' split
  all_goals simp

@[simp] theorem State.protectionTests_demand (s : State) (m : GovMode) :
    (s.protectionTests m).gov.demand = s.gov.demand := by
  simp [State.protectionTests, State.cavitationCounts, State.primeRuns]

@[simp] theorem State.moveTarget_demand (s : State) (x : Int) : (s.moveTarget x).gov.demand = s.gov.demand := rfl

@[simp] theorem State.reclampTargets_demand (s : State) (ms : List GovMode) :
    (s.reclampTargets ms).gov.demand = s.gov.demand := by
  simp only [State.reclampTargets]
  split <;> simp

@[simp] theorem State.nudgeTo_demand (s : State) (x : Int) : (s.nudgeTo x).gov.demand = s.gov.demand := by
  unfold State.nudgeTo
  split <;> rfl

@[simp] theorem State.bumpless_kept (s : State) (m : GovMode) (x : Int) :
    (s.bumpless m x).gov.opMode = s.gov.opMode ∧ (s.bumpless m x).gov.opTarget = s.gov.opTarget ∧
    (s.bumpless m x).gov.demand = s.gov.demand ∧ (s.bumpless m x).gov.causes = s.gov.causes := by
  simp [State.bumpless]

@[simp] theorem State.govern_demand (s : State) (m : GovMode) (x : Int) :
    (s.govern m x).gov.demand = s.gov.demand := by
  simp only [State.govern]
  repeat' split
  all_goals simp

@[simp] theorem State.governRequest_demand (s : State) (m : GovMode) (x : Int) :
    (s.governRequest m x).1.gov.demand = s.gov.demand := by
  simp only [State.governRequest]
  repeat' split
  all_goals simp [State.governSaved]

/-- An update's demand is within the cap, whatever the raw demand was (R92). -/
theorem limitStages_demand (g : Governor) (rate cap : Nat) (raw : Int) (integrator : Nat) (frozen : Bool) :
    (limitStages g rate cap raw integrator frozen).demand ≤ cap := by
  simp only [limitStages, clampInt]
  split_ifs <;> omega

theorem updateStages_demand (s : State) : s.updateStages.demand ≤ s.matrix.cap := by
  simp only [State.updateStages]
  split <;> exact limitStages_demand ..

end Sys2Proof.Machine

/-! # The cap and the demand through every operation (R27, R79 to R81, R93) -/

namespace Sys2Proof.Machine

/-- The demand is within the cap (R81). -/
def State.Bounded (s : State) : Prop := s.gov.demand ≤ s.matrix.cap

/-- The cap is what R27 gives. -/
def State.CapLaw (s : State) : Prop := s.matrix.cap = s.throttleCap

theorem State.Bounded.of_same {s t : State} (cap : t.matrix.cap = s.matrix.cap) (demand : t.gov.demand ≤ s.gov.demand)
    (h : s.Bounded) : t.Bounded := by
  unfold State.Bounded at *
  omega

/-- The cap is worked from the THROTTLE permit, the mode, the roll-speed state and roll_cap (R27). -/
theorem throttleCap_congr {s t : State} (permits : t.matrix.permits = s.matrix.permits)
    (mode : t.matrix.mode = s.matrix.mode) (roll : t.matrix.roll = s.matrix.roll)
    (rollCap : t.config.rollCap = s.config.rollCap) : t.throttleCap = s.throttleCap := by
  simp only [State.throttleCap, permits, mode, roll, rollCap]

theorem State.CapLaw.of_same {s t : State} (cap : t.matrix.cap = s.matrix.cap)
    (permits : t.matrix.permits = s.matrix.permits) (mode : t.matrix.mode = s.matrix.mode)
    (roll : t.matrix.roll = s.matrix.roll) (rollCap : t.config.rollCap = s.config.rollCap) (h : s.CapLaw) :
    t.CapLaw := by
  rw [State.CapLaw, cap, throttleCap_congr permits mode roll rollCap]
  exact h

/-- The horn aside, a matrix and a roll_cap that stay keep the cap's law. -/
theorem State.CapLaw.of_still {s t : State} (matrix : t.matrix.butHorn = s.matrix.butHorn)
    (rollCap : t.config.rollCap = s.config.rollCap) (h : s.CapLaw) : t.CapLaw := by
  obtain ⟨mode, -, permits, cap, -, -, roll, -⟩ := Matrix.fields_of_butHorn matrix
  exact h.of_same cap permits mode roll rollCap

/-- Both parts of the law outlast what leads from the first state to the second. -/
structure State.Throttles (s t : State) : Prop where
  bounded : s.Bounded → t.Bounded
  cap : s.CapLaw → t.CapLaw

namespace State.Throttles

theorem refl (s : State) : s.Throttles s := ⟨id, id⟩

theorem trans {s t u : State} (h : s.Throttles t) (k : t.Throttles u) : s.Throttles u :=
  ⟨k.bounded ∘ h.bounded, k.cap ∘ h.cap⟩

/-- What moves only the horn of the matrix, leaves roll_cap and does not raise the demand. -/
theorem of_still {s t : State} (matrix : t.matrix.butHorn = s.matrix.butHorn)
    (rollCap : t.config.rollCap = s.config.rollCap) (demand : t.gov.demand ≤ s.gov.demand) : s.Throttles t :=
  ⟨.of_same (Matrix.fields_of_butHorn matrix).2.2.2.1 demand, .of_still matrix rollCap⟩

/-- What ends with the cap judged afresh. -/
theorem of_judged {s t : State} (bounded : s.Bounded → t.Bounded) (cap : t.CapLaw) : s.Throttles t :=
  ⟨bounded, fun _ => cap⟩

end State.Throttles

/-! ### The matrix -/

theorem recomputeCap_law (s : State) : s.recomputeCap.CapLaw := by
  rw [State.CapLaw, recomputeCap_cap]
  exact (throttleCap_congr (by simp) (by simp) (by simp) (by simp)).symm

/-- A cap that changes cuts the demand where it is above (R93). -/
theorem State.Bounded.recomputeCap {s : State} (h : s.Bounded) : s.recomputeCap.Bounded := by
  have cut (t : State) : (t.cutDemand t.matrix.cap).Bounded := by
    simp only [State.Bounded, State.cutDemand]
    split <;> simp_all
  unfold State.recomputeCap
  dsimp only
  split
  · exact h
  · exact cut { s with matrix := { s.matrix with cap := s.throttleCap } }

theorem recomputePermits_law (s : State) : s.recomputePermits.CapLaw := recomputeCap_law _

theorem State.Bounded.recomputePermits {s : State} (h : s.Bounded) : s.recomputePermits.Bounded := by
  refine State.Bounded.recomputeCap (.of_same ?_ (le_of_eq ?_) h)
  all_goals split <;> simp [Permit.all]

theorem matrixRecompute_law (s : State) : s.matrixRecompute.CapLaw :=
  (State.Throttles.of_still (s := s.recomputePermits) rfl rfl le_rfl).cap (recomputePermits_law s)

theorem State.Bounded.matrixRecompute {s : State} (h : s.Bounded) : s.matrixRecompute.Bounded :=
  State.Bounded.of_same (s := s.recomputePermits) rfl le_rfl h.recomputePermits

@[simp] theorem State.moveLock_cap (s : State) (i : EntryIx) (e : LockoutEntry) (n : LockState) :
    (s.moveLock i e n).matrix.cap = s.matrix.cap := by
  rw [moveLock_moves]

@[simp] theorem State.judgeLock_cap (s : State) (i : EntryIx) : (s.judgeLock i).matrix.cap = s.matrix.cap := by
  unfold State.judgeLock
  split <;> simp

@[simp] theorem State.judgeLocks_cap (s : State) (sel : LockCond → Bool) :
    (s.judgeLocks sel).matrix.cap = s.matrix.cap := by
  refine foldl_keeps (fun t : State => t.matrix.cap = s.matrix.cap) _ _ s rfl fun t i h => ?_
  repeat' split
  all_goals simpa using h

theorem matrixJudge_law (s : State) (sel : LockCond → Bool) : (s.matrixJudge sel).CapLaw := matrixRecompute_law _

theorem State.Bounded.matrixJudge {s : State} (sel : LockCond → Bool) (h : s.Bounded) : (s.matrixJudge sel).Bounded :=
  State.Bounded.matrixRecompute (.of_same (by simp) (by simp) h)

theorem matrixJudge_throttles (s : State) (sel : LockCond → Bool) : s.Throttles (s.matrixJudge sel) :=
  .of_judged (.matrixJudge sel) (matrixJudge_law s sel)

theorem matrixRecompute_throttles (s : State) : s.Throttles s.matrixRecompute :=
  .of_judged .matrixRecompute (matrixRecompute_law s)

@[simp] theorem State.clearOverspeed_cap (s : State) : s.clearOverspeed.matrix.cap = s.matrix.cap := by
  unfold State.clearOverspeed
  split <;> simp

@[simp] theorem State.setMode_cap (s : State) (m : AppMode) : (s.setMode m).matrix.cap = s.matrix.cap := by
  simp only [State.setMode]
  split <;> simp

@[simp] theorem State.judgeOverspeed_cap (s : State) : s.judgeOverspeed.matrix.cap = s.matrix.cap := by
  simp only [State.judgeOverspeed]
  split <;> simp

theorem enterMode_law (s : State) (m : AppMode) : (s.enterMode m).CapLaw := by
  unfold State.enterMode
  split
  · exact matrixRecompute_law s
  · exact matrixJudge_law _ _

theorem State.Bounded.enterMode {s : State} (m : AppMode) (h : s.Bounded) : (s.enterMode m).Bounded := by
  unfold State.enterMode
  split
  · exact h.matrixRecompute
  · have set : (s.setMode m).Bounded := h.of_same (by simp) (by simp)
    exact .matrixJudge _ (set.of_same (by simp) (handMode_eased _).demand)

theorem matrixTake_throttles (s : State) : s.Throttles s.matrixTake := .of_judged (.enterMode _) (enterMode_law s _)

/-! ### The sequencer -/

theorem enterIdle_throttles (s : State) : s.Throttles s.enterIdle :=
  .trans (.of_still (by simp) (by simp) (by simp [State.endSupply])) (matrixTake_throttles _)

theorem enterHeldTimeout_throttles (s : State) : s.Throttles s.enterHeldTimeout :=
  .trans (.of_still (by simp) (by simp) (by simp [State.endSupply])) (matrixTake_throttles _)

theorem judgeRoadShift_throttles (s : State) : s.Throttles s.judgeRoadShift := by
  have recomputed (q : Sequencer) : s.Throttles ({ s with seq := q }).matrixRecompute :=
    .trans (t := { s with seq := q }) (.of_still rfl rfl le_rfl) (matrixRecompute_throttles _)
  unfold State.judgeRoadShift
  repeat' split
  · exact .refl s
  · exact recomputed _
  · exact recomputed _
  · exact .refl s
  · exact .refl s

/-- A new sequencer record that the matrix takes. -/
theorem taken_throttles (s : State) (q : Sequencer) : s.Throttles (s.setSeq q).matrixTake :=
  .trans (.of_still (by simp) (by simp) (by simp)) (matrixTake_throttles _)

theorem enterReleasing_throttles (s : State) : s.Throttles s.enterReleasing := by
  have clutch (t : State) : t.Throttles (if t.lineClear .d4 then t.enterIdle else t) := by
    split
    · exact enterIdle_throttles t
    · exact .refl t
  have split (t : State) : t.Throttles (if t.lineClear .d3 then t.enterIdle else t.judgeRoadShift) := by
    split
    · exact enterIdle_throttles t
    · exact judgeRoadShift_throttles t
  unfold State.enterReleasing
  split
  · exact (taken_throttles s _).trans (clutch _)
  · exact (taken_throttles s _).trans (split _)
  · exact (taken_throttles s _).trans (split _)

theorem judgeIdlingDown_throttles (s : State) : s.Throttles s.judgeIdlingDown := by
  unfold State.judgeIdlingDown
  split
  · exact enterReleasing_throttles s
  · exact .refl s

/-- The governor OFF lets the demand go, whatever the cap (R80). -/
theorem enterIdlingDown_throttles (s : State) (r : SeqReason) : s.Throttles (s.enterIdlingDown r) :=
  .trans (.of_still (by simp) (by simp) (by simp [governorOff_gov]))
    ((matrixTake_throttles _).trans (judgeIdlingDown_throttles _))

theorem faultToIdlingDown_throttles (s : State) (f : SeqFault) (r : SeqReason) :
    s.Throttles (s.faultToIdlingDown f r) :=
  .trans (.of_still (by simp) (by simp) (by simp)) (enterIdlingDown_throttles _ r)

theorem enterAwaitRange_throttles (s : State) : s.Throttles s.enterAwaitRange := by
  have passed (t : State) : t.Throttles (if t.lineSet .d2 then t.enterAwaitConfirm else t) := by
    split
    · exact taken_throttles t _
    · exact .refl t
  exact (taken_throttles s _).trans (passed _)

theorem enterEngaged_throttles (s : State) : s.Throttles s.enterEngaged :=
  .trans (.of_still (by simp) (by simp) (by simp)) (matrixTake_throttles _)

theorem enterHeldFeedback_throttles (s : State) : s.Throttles s.enterHeldFeedback :=
  .trans (.of_still (by simp) (by simp) (by simp [governorHold_gov])) (matrixTake_throttles _)

theorem seqLineChange_throttles (s : State) (l : Line) : s.Throttles (s.seqLineChange l) := by
  rcases s.seqLineChange_cases l with e | ⟨-, e⟩ | ⟨-, e⟩ | ⟨-, e⟩ | ⟨-, e⟩ | ⟨-, e | e⟩ <;> rw [e]
  · exact .refl s
  · exact enterAwaitRange_throttles s
  · exact taken_throttles s _
  · exact faultToIdlingDown_throttles s _ _
  · exact enterHeldFeedback_throttles s
  · exact enterIdle_throttles s
  · exact judgeRoadShift_throttles s

theorem seqEngineGate_throttles (s : State) : s.Throttles s.seqEngineGate := by
  unfold State.seqEngineGate
  split
  · exact judgeIdlingDown_throttles s
  · exact judgeRoadShift_throttles s
  all_goals exact .refl s

theorem seqRoadGate_throttles (s : State) (made : Bool) : s.Throttles (s.seqRoadGate made) := by
  have fault : s.Throttles (if made then s.faultToIdlingDown .motion .motion else s) := by
    split
    · exact faultToIdlingDown_throttles s _ _
    · exact .refl s
  unfold State.seqRoadGate
  split
  · exact fault
  · exact fault
  · exact judgeRoadShift_throttles s
  all_goals exact .refl s

/-! ### The tanks -/

theorem handTank_throttles (s : State) (t : TankIx) (b : TankRun) : s.Throttles (s.handTank t b) := by
  have abandoned (p : Prop) [Decidable p] : s.Throttles (if p then s.abandonFill .abandoned else s) := by
    split
    · exact .of_still (by simp) (by simp) (by simp)
    · exact .refl s
  have judged (p : Prop) [Decidable p] (u : State) : u.Throttles (if p then u else u.matrixJudge (onTank t)) := by
    split
    · exact .refl u
    · exact matrixJudge_throttles u _
  have emptied (p : Prop) [Decidable p] (u : State) : u.Throttles (if p then u.judgeTankEmpty else u) := by
    split
    · exact .of_still (by simp) (by simp) (by simp)
    · exact .refl u
  exact (abandoned _).trans ((judged _ _).trans (emptied _ _))

theorem tanksAtRoadGate_throttles (s : State) (was : Bool) : s.Throttles (s.tanksAtRoadGate was) := by
  have set (t : State) (i : TankIx) (r : TankRun) : t.Throttles (t.setTank i r) :=
    .of_still (by simp) (by simp) (by simp)
  have travel (t : State) (i : TankIx) : t.Throttles (t.enterTravel i) := by
    unfold State.enterTravel
    dsimp only
    split
    · exact (set t i _).trans (handTank_throttles _ _ _)
    · exact set t i _
    · exact set t i _
    all_goals exact .refl t
  have settle (t : State) (i : TankIx) : t.Throttles (t.enterSettling i) := .of_still (by simp) (by simp) (by simp)
  unfold State.tanksAtRoadGate
  repeat' split
  · exact .refl s
  · exact foldl_keeps s.Throttles _ _ s (.refl s) fun t i h => h.trans (travel t i)
  · exact foldl_keeps s.Throttles _ _ s (.refl s) fun t i h => h.trans (settle t i)
  · exact .refl s

theorem tankUpdate_throttles (s : State) (t : TankIx) : s.Throttles (s.tankUpdate t) := by
  have still {u v : State} (matrix : v.matrix = u.matrix) (config : v.config = u.config) (gov : v.gov = u.gov) :
      u.Throttles v := .of_still (by rw [matrix]) (by rw [config]) (by rw [gov])
  have risen (u : State) : u.Throttles (if t = .t0 then u.judgeRise else u) := by
    split
    · exact still (by simp) (by simp) (by simp)
    · exact .refl u
  have filled (u : State) : u.Throttles (if t = .t0 then u.judgeFillDone else u) := by
    split
    · exact still (by simp) (by simp) (by simp)
    · exact .refl u
  have settled : s.Throttles ((s.setTank t (s.workLevel (s.config.tanks.get t) (s.tanks.get t))).settleVolume t) :=
    still (by simp) (by simp) (by simp)
  unfold State.tankUpdate
  dsimp only
  split
  · exact .refl s
  · exact ((settled.trans (risen _)).trans (handTank_throttles _ t _)).trans (filled _)

theorem settleExpiry_throttles (s : State) (t : TankIx) : s.Throttles (s.settleExpiry t) := by
  unfold State.settleExpiry
  dsimp only
  repeat' split
  · exact .trans (.of_still (by simp) (by simp) (by simp)) (handTank_throttles _ _ _)
  · exact .of_still (by simp) (by simp) (by simp)
  · exact .refl s

theorem configureTank_throttles (s : State) (t : TankIx) (c : TankSettings) : s.Throttles (s.configureTank t c) := by
  have handed (u : State) (matrix : u.matrix = s.matrix) (rollCap : u.config.rollCap = s.config.rollCap)
      (gov : u.gov = s.gov) (b : TankRun) : s.Throttles (u.handTank t b) :=
    .trans (.of_still (by rw [matrix]) rollCap (by rw [gov])) (handTank_throttles u t b)
  unfold State.configureTank State.restartTank
  dsimp only
  split
  · exact handed _ (by simp) (by simp [WorkingConfig.setTank]) (by simp) _
  · exact handed _ (by simp) (by simp [WorkingConfig.setTank]) (by simp) _

/-! ### The events of the apparatus -/

theorem judgeComplete_throttles (s : State) : s.Throttles s.judgeComplete := by
  rcases judgeComplete_cases s with ⟨-, e⟩ | ⟨-, -, e⟩ <;> rw [e]
  · exact .refl s
  · refine .of_judged (fun h => .enterMode _ (h.of_same ?_ ?_)) (enterMode_law _ _) <;> simp [State.judgeRoll]

theorem engineGateEnd_throttles (s : State) : s.Throttles s.engineGateEnd := by
  rw [engineGateEnd_eq]
  have gated : s.Throttles s.engineGated := .of_still (by simp) (by simp) (by simp)
  exact gated.trans ((seqEngineGate_throttles _).trans ((matrixJudge_throttles _ _).trans (judgeComplete_throttles _)))

/-- The roll-speed state moves what the cap is worked from, so the cap holds only from the judgement on (R26, R27). -/
theorem roadGateEnd_throttles (s : State) : s.Throttles s.roadGateEnd := by
  rw [roadGateEnd_eq]
  have judged (u : State) (same : s.Bounded → u.Bounded) : s.Throttles (u.matrixJudge onRoadSpeed) :=
    .of_judged (fun h => (same h).matrixJudge _) (matrixJudge_law u _)
  have limits (h : s.Bounded) : s.roadGated.judgeRoll.judgeOverspeed.Bounded :=
    h.of_same (by simp [State.judgeRoll]) (by simp)
  exact ((judged _ fun h => (seqRoadGate_throttles _ _).bounded (limits h)).trans
    (tanksAtRoadGate_throttles _ _)).trans (judgeComplete_throttles _)

theorem flowGateEnd_throttles (s : State) (m : Meter) : s.Throttles (s.flowGateEnd m) := by
  refine State.Throttles.trans ?_ (judgeComplete_throttles _)
  exact .of_still rfl rfl le_rfl

theorem linesChanged_throttles (s : State) (ls : List Line) : s.Throttles (s.linesChanged ls) := by
  unfold State.linesChanged
  split
  · exact .refl s
  · exact (foldl_keeps s.Throttles _ _ s (.refl s) fun t l h => h.trans (seqLineChange_throttles t l)).trans
      (matrixJudge_throttles _ _)

theorem lineSample_throttles (s : State) (raw : BitVec 12) : s.Throttles (s.lineSample raw) := by
  rw [lineSample_eq]
  have sampled : s.Throttles (s.linesSampled raw (s.changedLines raw)) :=
    .of_still (by simp [State.linesSampled]) (by simp [State.linesSampled]) (by simp [State.linesSampled])
  exact sampled.trans ((linesChanged_throttles _ _).trans (judgeComplete_throttles _))

theorem windowExpiry_throttles (s : State) (st : SeqState) (w : StepWindow) (f : SeqFault) :
    s.Throttles (s.windowExpiry st w f) := by
  unfold State.windowExpiry
  split
  · exact faultToIdlingDown_throttles s _ _
  · exact .refl s

theorem releaseExpiry_throttles (s : State) : s.Throttles s.releaseExpiry := by
  unfold State.releaseExpiry
  split
  · exact enterHeldTimeout_throttles s
  · exact .refl s

theorem temperatureSample_throttles (s : State) (c : Code) : s.Throttles (s.temperatureSample c) := by
  unfold State.temperatureSample
  dsimp only
  split
  · exact .of_still (by simp) (by simp) (by simp)
  · exact .trans (.of_still (by simp) (by simp) (by simp)) (matrixJudge_throttles _ _)

theorem lockDelayExpiry_throttles (s : State) (i : EntryIx) : s.Throttles (s.lockDelayExpiry i) := by
  unfold State.lockDelayExpiry
  repeat' split
  · exact .refl s
  · exact .of_judged (fun h => .matrixRecompute (h.of_same (by simp) (by simp))) (matrixRecompute_law _)
  · exact .refl s

theorem rollOverspeedExpiry_throttles (s : State) : s.Throttles s.rollOverspeedExpiry := by
  unfold State.rollOverspeedExpiry
  split
  · exact .refl s
  · exact ⟨.of_same (by simp) (by simp), .of_same (by simp) (by simp) (by simp) (by simp) (by simp)⟩

/-- An update drives a demand within the cap, and the tests that end it leave both (R84, R92, R94). -/
theorem governorUpdate_throttles (s : State) : s.Throttles s.governorUpdate := by
  refine ⟨fun h => ?_, .of_still (by simp) (by simp)⟩
  unfold State.governorUpdate
  split
  · exact h
  · have driven : s.driveUpdate.primerAtDemand.Bounded := by
      simpa [State.Bounded, State.driveUpdate] using updateStages_demand s
    exact driven.of_same (Matrix.fields_of_butHorn (by simp)).2.2.2.1 (by simp)

theorem eventOf_throttles {c : Instr} {f : State → State} (e : eventOf c = some f) (s : State) : s.Throttles (f s) := by
  cases c <;> cases e
  case engineSpeedGateEnd => exact engineGateEnd_throttles s
  case roadSpeedGateEnd => exact roadGateEnd_throttles s
  case flowGateEnd m => exact flowGateEnd_throttles s m
  case lineSample raw => exact lineSample_throttles s raw
  case shiftWindowExpiry | rangeWindowExpiry | clutchWindowExpiry | confirmWindowExpiry =>
    exact windowExpiry_throttles s _ _ _
  case releaseWindowExpiry => exact releaseExpiry_throttles s
  case temperatureSample c => exact temperatureSample_throttles s c
  case lockoutDelayExpiry i => exact lockDelayExpiry_throttles s i
  case tankUpdate t => exact tankUpdate_throttles s t
  case settleTimerExpiry t => exact settleExpiry_throttles s t
  case governorUpdate => exact governorUpdate_throttles s
  case rollOverspeedExpiry => exact rollOverspeedExpiry_throttles s
  case pulseArrival p => exact .of_still rfl rfl le_rfl
  all_goals exact .of_still (by simp) (by simp) (by simp)

/-! ### The requests -/

theorem writeEntry_throttles (s : State) (i : EntryIx) (new : Option LockoutEntry) : s.Throttles (s.writeEntry i new) := by
  have judged (u : State) (cap : u.matrix.cap = s.matrix.cap) (demand : u.gov.demand ≤ s.gov.demand) :
      s.Throttles (u.judgeLock i).matrixRecompute :=
    .of_judged (fun h => .matrixRecompute (h.of_same (by simp [cap]) (by simpa using demand))) (matrixRecompute_law _)
  unfold State.writeEntry
  split
  · exact judged _ rfl le_rfl
  · exact judged _ (by simp) (by simp)

theorem answerLockoutSet_throttles (s : State) (p : List Byte) : s.Throttles (answerLockoutSet p s).1 := by
  have set (i : EntryIx) (e : Option LockoutEntry) : s.Throttles (s.lockoutSet i e).1 := by
    unfold State.lockoutSet
    repeat' split
    · exact .refl s
    · exact .refl s
    · exact writeEntry_throttles s i _
  unfold answerLockoutSet
  repeat' split
  · exact .refl s
  · exact .refl s
  · exact set _ _
  · exact set _ _
  · exact .refl s

@[simp] theorem State.clearLatch_cap (s : State) (i : EntryIx) : (s.clearLatch i).matrix.cap = s.matrix.cap := by
  unfold State.clearLatch
  repeat' split
  all_goals simp

theorem latchClearOne_throttles (s : State) (i : EntryIx) : s.Throttles (s.latchClearOne i).1 := by
  unfold State.latchClearOne
  split
  · exact .refl s
  · exact .of_judged (fun h => .matrixRecompute (h.of_same (by simp) (by simp))) (matrixRecompute_law _)
  all_goals exact .refl s

theorem latchClearAll_throttles (s : State) : s.Throttles s.latchClearAll.1 := by
  have cleared := foldl_keeps (fun t : State => s.Bounded → t.Bounded) State.clearLatch s.latchedEntries s id
    fun t i ht h => (ht h).of_same (by simp) (by simp)
  have judged := foldl_keeps (fun t : State => s.Bounded → t.Bounded) State.judgeLock s.latchedEntries _ cleared
    fun t i ht h => (ht h).of_same (by simp) (by simp)
  exact .of_judged (fun h => (judged h).matrixRecompute) (matrixRecompute_law _)

theorem answerLatchClear_throttles (s : State) (p : List Byte) : s.Throttles (answerLatchClear p s).1 := by
  unfold answerLatchClear
  repeat' split
  · exact latchClearAll_throttles s
  · exact .refl s
  · exact .refl s
  · exact latchClearOne_throttles s _
  · exact .refl s

theorem answerEngage_throttles (s : State) (p : List Byte) : s.Throttles (answerEngage p s).1 := by
  have engage (roll : Bool) : s.Throttles (s.engage roll).1 := by
    unfold State.engage
    repeat' split
    · exact .refl s
    · exact taken_throttles s _
    · exact taken_throttles s _
    · exact .refl s
  unfold answerEngage
  repeat' split
  · exact engage false
  · exact engage true
  · exact .refl s
  · exact .refl s

theorem answerConfirm_throttles (s : State) (p : List Byte) : s.Throttles (answerConfirm p s).1 := by
  have source : s.Throttles s.confirmSource.1 := by
    unfold State.confirmSource
    split
    · exact .refl s
    · exact enterEngaged_throttles s
  unfold answerConfirm
  split
  · split
    · exact source
    · split
      · exact source
      · exact .refl s
    all_goals exact .refl s
  · exact .refl s

theorem answerDisengage_throttles (s : State) (p : List Byte) : s.Throttles (answerDisengage p s).1 := by
  unfold answerDisengage
  split
  · split
    · exact .refl s
    · exact .refl s
    · exact .refl s
    · exact .trans (.of_still (by simp) (by simp) (by simp)) (enterIdlingDown_throttles _ _)
    all_goals exact enterIdlingDown_throttles s _
  · exact .refl s

theorem answerTankSet_throttles (s : State) (p : List Byte) : s.Throttles (answerTankSet p s).1 := by
  have set (t : TankIx) (c : TankSettings) : s.Throttles (s.tankSet t c).1 := by
    unfold State.tankSet
    dsimp only
    repeat' split
    case h_2 => exact configureTank_throttles s _ _
    all_goals exact .refl s
  unfold answerTankSet
  repeat' split
  · exact .refl s
  · exact .refl s
  · exact set _ _
  · exact .refl s

theorem answerTankTable_throttles (s : State) (p : List Byte) : s.Throttles (answerTankTable p s).1 := by
  have set (t : TankIx) (table : List Breakpoint) : s.Throttles (s.tankTable t table).1 := by
    unfold State.tankTable
    repeat' split
    case h_2 => exact configureTank_throttles s _ _
    all_goals exact .refl s
  unfold answerTankTable
  repeat' split
  case h_2.isFalse => exact set _ _
  all_goals exact .refl s

theorem setParam_rollCap (c : WorkingConfig) {p : Param} (x : Int) (h : p ≠ .rollCap) :
    (c.setParam p x).rollCap = c.rollCap := by
  simpa [WorkingConfig.param] using setParam_param_ne c x (Ne.symm h)

/-- roll_cap and the roll ceiling go to the matrix; no other owner moves what the cap is worked from (R26, R27). -/
theorem writeParam_throttles (s : State) (p : Param) (x : Int) : s.Throttles (s.writeParam p x) := by
  have written (other : p ≠ .rollCap) : s.Throttles { s with config := s.config.setParam p x } :=
    .of_still rfl (setParam_rollCap s.config x other) le_rfl
  have judged (u : State) (cap : u.matrix.cap = s.matrix.cap) (demand : u.gov.demand ≤ s.gov.demand) :
      s.Throttles u.matrixRecompute := .of_judged (fun h => (h.of_same cap demand).matrixRecompute) (matrixRecompute_law u)
  unfold State.writeParam
  split
  · exact .refl s
  · cases p
    case idleRpm | rollCap | rollCeiling => exact judged _ rfl le_rfl
    case tempCut | tempReliefOn | pSetMax | rpmSetMax | kDis | kFill =>
      exact (written (by simp)).trans (.of_still (by simp [State.ownerActs]) (by simp [State.ownerActs])
        (by simp [State.ownerActs]))
    all_goals exact written (by simp)

theorem answerParamSet_throttles (s : State) (p : List Byte) : s.Throttles (answerParamSet p s).1 := by
  unfold answerParamSet State.paramSet
  repeat' split
  case h_2.isFalse.isFalse => exact writeParam_throttles s _ _
  all_goals exact .refl s

@[simp] theorem answerGovern_demand (s : State) (p : List Byte) : (answerGovern p s).1.gov.demand = s.gov.demand := by
  unfold answerGovern
  repeat' split
  all_goals simp

@[simp] theorem answerNudge_demand (s : State) (p : List Byte) : (answerNudge p s).1.gov.demand = s.gov.demand := by
  simp only [answerNudge, State.nudgeRequest]
  repeat' split
  all_goals simp

@[simp] theorem answerResume_demand (s : State) (p : List Byte) : (answerResume p s).1.gov.demand = s.gov.demand := by
  unfold answerResume
  repeat' split
  all_goals simp

@[simp] theorem answerPrime_demand (s : State) (p : List Byte) : (answerPrime p s).1.gov.demand = s.gov.demand := by
  simp only [answerPrime, State.primeStart, State.startPrimer]
  repeat' split
  all_goals simp

@[simp] theorem answerSource_demand (s : State) (p : List Byte) : (answerSource p s).1.gov.demand = s.gov.demand := by
  simp only [answerSource, State.sourceRequest, State.sourceEngaged]
  repeat' split
  all_goals simp

theorem answerKind_throttles (s : State) (kind : Byte) (p : List Byte) : s.Throttles (answerKind kind p s).1 := by
  generalize e : answerKind kind p = answer
  unfold answerKind at e
  split at e <;> subst e
  case h_3 =>
    unfold answerGate
    repeat' split
    case isFalse.isFalse => exact .of_still rfl rfl le_rfl
    all_goals exact .refl s
  case h_5 => exact answerLockoutSet_throttles s p
  case h_7 => exact answerLatchClear_throttles s p
  case h_9 => exact answerEngage_throttles s p
  case h_10 => exact answerConfirm_throttles s p
  case h_11 => exact answerDisengage_throttles s p
  case h_18 => exact answerTankTable_throttles s p
  case h_19 => exact answerTankSet_throttles s p
  case h_22 => exact answerParamSet_throttles s p
  all_goals exact .of_still (by simp [answerUnknown]) (by simp [answerUnknown]) (by simp [answerUnknown])

/-! ### Every step -/

/-- In any state other than ENGAGED the mode is one without a throttle, so the cap is 0 (R18, R27, R81). -/
theorem throttleCap_of_not_engaged {s : State} (phase : s.PhaseLaw) (h : s.seq.state ≠ .engaged) : s.throttleCap = 0 := by
  have mode : s.matrix.mode ≠ .stationaryPump ∧ s.matrix.mode ≠ .pumpAndRoll := by
    cases complete : s.image.complete
    · simp [(phase.1 complete).1]
    · rw [(phase.2 complete).1]
      cases state : s.seq.state <;> simp_all [modeOf]
  unfold State.throttleCap
  split
  · split
    · next stationary => exact absurd stationary mode.1
    · next roll => exact absurd roll mode.2
    all_goals rfl
  · rfl

/-- With the phase law, the law of the demand is that of the cap and the bound (R81). -/
theorem demandLaw_iff {s : State} (phase : s.PhaseLaw) : s.DemandLaw ↔ s.CapLaw ∧ s.Bounded := by
  refine ⟨fun ⟨cap, bounded, _⟩ => ⟨cap, bounded⟩, fun ⟨cap, bounded⟩ => ⟨cap, bounded, fun h => ?_⟩⟩
  rw [State.CapLaw, throttleCap_of_not_engaged phase h] at cap
  exact Nat.le_zero.mp (cap ▸ bounded)

theorem exec_throttle {c : Instr} {s t : State} (h : s.CapLaw ∧ s.Bounded) (e : exec c s = .next t) :
    t.CapLaw ∧ t.Bounded := by
  have kept {s t : State} (k : s.Throttles t) (h : s.CapLaw ∧ s.Bounded) : t.CapLaw ∧ t.Bounded :=
    ⟨k.cap h.1, k.bounded h.2⟩
  exact exec_keeps (P := fun s => s.CapLaw ∧ s.Bounded) (fun _ _ _ h => h) (fun _ _ _ => ⟨rfl, Nat.le_refl 0⟩)
    (fun kind p s => kept (answerKind_throttles s kind p)) (fun _ ef s => kept (eventOf_throttles ef s)) h e

/-- Settles O13: the cap and the bound are kept by every command (`State.Throttles`), and outside ENGAGED the phase law
makes the cap 0. -/
theorem demandLawIsKept : Obligations.DemandLawIsKept := by
  intro s t phase h e
  have kept := step_keeps (P := fun s => s.PhaseLaw ∧ s.CapLaw ∧ s.Bounded) (fun _ _ h => h)
    (fun _ _ _ h e => ⟨exec_phase h.1 e, exec_throttle h.2 e⟩) ⟨phase, (demandLaw_iff phase).mp h⟩ e
  exact (demandLaw_iff kept.1).mpr kept.2

end Sys2Proof.Machine

/-! # GOVERN and NUDGE (R67, R68, R72 to R76, R107) -/

namespace Sys2Proof.Machine

/-! ### Modes, ranges and causes -/

theorem working_iff (m : GovMode) : m.working = true ↔ m ≠ .off ∧ m ≠ .idle := by
  cases m <;> simp [GovMode.working]

theorem good_iff (c : Channel) : c.good = true ↔ c.status ≠ .fault := by simp [Channel.good]

theorem noCauses_iff (g : Governor) : g.noCauses = true ↔ ∀ c, (g.causes.get c).active = false := by
  simp [Governor.noCauses, Cause.mem_all]

/-- The range of R68: RPM between idle_rpm and rpm_set_max, every other mode between 0 and p_set_max. -/
theorem clampSetpoint_eq (c : WorkingConfig) (m : GovMode) (x : Int) : c.clampSetpoint m x =
    if m = .rpm then clampInt c.idleRpm c.gov.rpmSetMax x else clampInt 0 c.gov.pSetMax x := by
  cases m <;> rfl

/-- The mode that a GOVERN names is never OFF (R73). -/
theorem governMode_ne_off {b : Byte} {m : GovMode} (h : governMode b = some m) : m ≠ .off := by
  unfold governMode at h
  split at h <;> cases h <;> simp

/-- The table of R67 for the modes that a GOVERN can name. -/
theorem modeAllowed_iff (a : AppMode) {m : GovMode} (h : m ≠ .off) : modeAllowed a m = true ↔
    (a = .stationaryPump ∧ m ≠ .limit) ∨ (a = .pumpAndRoll ∧ (m = .idle ∨ m = .limit)) ∨
      (a = .faultHold ∧ m = .idle) := by
  cases m
  case off => exact absurd rfl h
  all_goals cases a <;> simp [modeAllowed]

/-! ### PRESSURE_SENSOR at a change of the mode (R107) -/

/-- With the cause not in the set, a sound A0 or a mode without pressure leaves the judgement nothing to do. -/
theorem judgePressureSensor_still {s : State} (out : (s.gov.causes.get .pressureSensor).active = false)
    (h : s.image.a0.good = true ∨ (s.gov.opMode.byPressure = false ∧ s.gov.effMode.byPressure = false)) :
    s.judgePressureSensor = s := by
  unfold State.judgePressureSensor
  split
  · simp [State.causeAbsent, out]
  · next bad =>
    rcases h with good | ⟨op, eff⟩
    · exact absurd good bad
    · simp [op, eff]

@[simp] theorem State.takeEffective_saved (s : State) (m : GovMode) (x : Int) :
    (s.takeEffective m x).gov.saved = s.gov.saved := by
  simp only [State.takeEffective, State.bumpless, State.effectiveRest]
  repeat' split
  all_goals simp

@[simp] theorem State.settleRaised_saved (s : State) (c : Cause) : (s.settleRaised c).gov.saved = s.gov.saved := by
  unfold State.settleRaised
  split <;> simp

@[simp] theorem Governor.runsAtRaising_saved (g : Governor) (c : Cause) : (g.runsAtRaising c).saved = g.saved := by
  cases c <;> rfl

/-- The first cause to join the set saves the operator's request (R96, R97). -/
theorem State.raiseCause_saves {s : State} (on : s.govOff = false) (first : s.gov.noCauses = true) (c : Cause)
    (v : List Byte) : (s.raiseCause c v).gov.saved = some ⟨s.gov.opMode, s.gov.opTarget⟩ := by
  simp [State.raiseCause, on, first, (noCauses_iff s.gov).mp first c]

/-! ### GOVERN accepted with no cause active (R72, R74) -/

/-- The mode that stays moves the target alone, and IDLE not even that. -/
theorem govern_same {s : State} {m : GovMode} (x : Int) (none : s.gov.noCauses = true) (named : m ≠ .off)
    (same : m = s.gov.opMode) : s.govern m x = { s with gov := { s.gov with
      opTarget := if m = .idle then s.gov.opTarget else x
      effTarget := if m = .idle then s.gov.effTarget else s.gov.effTarget.map fun _ => x } } := by
  by_cases idle : m = .idle
  · have resting : m.working = false := by simp [idle, GovMode.working]
    simp only [State.govern, resting, Bool.false_eq_true, if_false, if_pos same, if_pos idle]
  · have working := (working_iff m).mpr ⟨named, idle⟩
    simp only [State.govern, working, ← same, State.moveTarget, none, idle, if_true, if_false, Bool.true_and]
    cases s.gov.effTarget <;> rfl

/-- IDLE as a new mode drops target and setpoint (R69, R74). -/
theorem govern_idle {s : State} (x : Int) (none : s.gov.noCauses = true) (new : .idle ≠ s.gov.opMode) :
    s.govern .idle x = ({ s with gov := { s.gov with opMode := .idle } }).effectiveRest .idle := by
  simp only [State.govern, GovMode.working, Bool.false_eq_true, if_false, if_neg new]
  refine judgePressureSensor_still ?_ (.inr (by simp [GovMode.byPressure]))
  have out := (noCauses_iff s.gov).mp none .pressureSensor
  unfold State.effectiveRest
  dsimp only
  split <;> simpa using out

/-- A new mode with a setpoint starts bumpless (R72), where A0 is sound or the mode does not read it (R107). -/
theorem govern_new {s : State} {m : GovMode} (x : Int) (none : s.gov.noCauses = true) (working : m.working = true)
    (new : m ≠ s.gov.opMode) (sound : s.image.a0.status ≠ .fault ∨ m = .rpm) :
    s.govern m x = ({ s with gov := { s.gov with opMode := m, opTarget := x } }).bumpless m x := by
  simp only [State.govern, working, if_true, if_neg new]
  refine judgePressureSensor_still (by simpa using (noCauses_iff s.gov).mp none .pressureSensor) ?_
  rcases sound with sound | rfl
  · exact .inl (by simpa [good_iff] using sound)
  · exact .inr (by simp [GovMode.byPressure, State.bumpless])

/-- A new mode by pressure under an A0 in FAULT raises PRESSURE_SENSOR, which saves the new request (R97, R107). -/
theorem govern_raises {s : State} {m : GovMode} (x : Int) (none : s.gov.noCauses = true)
    (pressure : m.byPressure = true) (new : m ≠ s.gov.opMode) (failed : s.image.a0.status = .fault) :
    ((s.govern m x).gov.causes.get .pressureSensor).active = true ∧ (s.govern m x).gov.saved = some ⟨m, x⟩ := by
  have named : m.working = true ∧ m ≠ .off := by cases m <;> simp_all [GovMode.working, GovMode.byPressure]
  obtain ⟨working, on⟩ := named
  simp only [State.govern, working, if_true, if_neg new]
  generalize started : State.bumpless _ m x = t
  have op : t.gov.opMode = m := by simp [← started]
  have target : t.gov.opTarget = x := by simp [← started]
  have out : t.gov.noCauses = true := by simpa [noCauses_iff, ← started] using none
  have governing : t.govOff = false := by simpa [State.govOff, op] using on
  have bad : t.image.a0.good = false := by simpa [Channel.good, ← started] using failed
  have judged : t.judgePressureSensor = t.raiseCause .pressureSensor (optI16 t.pDis) := by
    simp [State.judgePressureSensor, bad, op, pressure]
  rw [judged]
  exact ⟨(State.raiseCause_raises governing _ _).1, by rw [State.raiseCause_saves governing out, op, target]⟩

/-- The operator's mode and target are the request's, whichever way it is taken (R74). -/
theorem govern_operator {s : State} {m : GovMode} (x : Int) (named : m ≠ .off) : (s.govern m x).gov.opMode = m ∧
    (s.govern m x).gov.opTarget = if m = .idle then s.gov.opTarget else x := by
  by_cases idle : m = .idle
  · subst idle
    simp only [State.govern, GovMode.working]
    by_cases same : GovMode.idle = s.gov.opMode <;> simp [same]
  · have working := (working_iff m).mpr ⟨named, idle⟩
    simp only [State.govern, working, idle]
    by_cases same : m = s.gov.opMode <;> simp [same, State.moveTarget]

@[simp] theorem State.effectiveRest_absent (s : State) (m : GovMode) :
    (s.effectiveRest m).gov.effTarget = none ∧ (s.effectiveRest m).gov.effSetpoint = none := ⟨rfl, rfl⟩

/-- The setpoint that a bumpless start begins from; an absent P_dis counts as 0 (R72). -/
theorem measured_clamped (s : State) (m : GovMode) : s.config.clampSetpoint m (s.measured m) =
    if m = .rpm then clampInt s.config.idleRpm s.config.gov.rpmSetMax s.image.n
    else clampInt 0 s.config.gov.pSetMax (s.image.a0.value.getD 0) := by
  rw [clampSetpoint_eq]
  cases m <;> rfl

/-! ### The claim for GOVERN -/

theorem exec_govern {tag mode hi lo : Byte} {s t : State} {a : Answer} (listening : s.listening = true)
    (answered : answerGovern [mode, hi, lo] s.framed = (t, a)) :
    exec (.govern tag [mode, hi, lo]) s = .next ({ t with link := s.link }.answered 0x30 tag a) :=
  exec_request rfl listening (by simp) answered

/-- The setpoint as GOVERN takes it: clamped into its mode's range, and as sent with IDLE (R68, R74). -/
def State.governSetpoint (s : State) (m : GovMode) (sent : Int) : Int :=
  if m = .idle then sent
  else if m = .rpm then clampInt s.config.idleRpm s.config.gov.rpmSetMax sent
  else clampInt 0 s.config.gov.pSetMax sent

theorem governSetpoint_eq (s : State) {m : GovMode} (named : m ≠ .off) (sent : Int) :
    (if m.working then s.config.clampSetpoint m sent else sent) = s.governSetpoint m sent := by
  unfold State.governSetpoint
  by_cases idle : m = .idle
  · simp [idle, GovMode.working]
  · rw [if_pos ((working_iff m).mpr ⟨named, idle⟩), if_neg idle, clampSetpoint_eq]

theorem governRequest_off {s : State} (m : GovMode) (sent : Int) (off : s.gov.opMode = .off) :
    s.governRequest m sent = (s, s.wrongState) := by
  simp [State.governRequest, State.govOff, off, State.reads]

theorem governRequest_refused {s : State} {m : GovMode} (sent : Int) (on : s.gov.opMode ≠ .off)
    (refused : ¬modeAllowed s.matrix.mode m = true) : s.governRequest m sent =
      (s, .refused .notPermitted 0 0 (BitVec.ofNat 8 s.matrix.mode.code)) := by
  simp [State.governRequest, State.govOff, on, refused, State.reads, State.notPermitted, bitSet]

/-- A GOVERN in order goes to the operator's request, or with causes active to the saved context (R74, R76). -/
theorem governRequest_taken {s : State} {m : GovMode} (sent : Int) (named : m ≠ .off) (on : s.gov.opMode ≠ .off)
    (allowed : modeAllowed s.matrix.mode m = true) : s.governRequest m sent =
      (if s.gov.noCauses then s.govern m (s.governSetpoint m sent) else s.governSaved m (s.governSetpoint m sent),
        .done (decide (s.governSetpoint m sent ≠ sent)) (!s.gov.noCauses) []) := by
  simp only [State.governRequest, State.govOff, governSetpoint_eq s named]
  cases none : s.gov.noCauses <;> simp [on, allowed]

/-- The saved context takes the mode, and the setpoint unless the mode is IDLE (R76). -/
theorem governSaved_eq {s : State} {m : GovMode} (named : m ≠ .off) (x : Int) {ctx : SavedContext}
    (saved : s.gov.saved = some ctx) : s.governSaved m x =
      { s with gov := { s.gov with saved := some ⟨m, if m = .idle then ctx.target else x⟩ } } := by
  by_cases idle : m = .idle
  · simp [State.governSaved, saved, idle, GovMode.working]
  · simp [State.governSaved, idle, (working_iff m).mpr ⟨named, idle⟩]

/-- Settles O51: the request's checks in order, then the saved context, or of the operator's requests the mode that
stays, IDLE, a bumpless start, and a pressure mode under a failed A0. -/
theorem governSetsOrDefers : Obligations.GovernSetsOrDefers := by
  intro tag mode hi lo s listening outcome sent
  split
  · next bad => exact exec_govern (t := s.framed) listening (by simp only [answerGovern, bad]; rfl)
  next m read =>
  intro x allowed
  have named : m ≠ .off := governMode_ne_off read
  have request : answerGovern [mode, hi, lo] s.framed = s.framed.governRequest m sent := by
    simp only [answerGovern, read, sent]
  have table : modeAllowed s.framed.matrix.mode m = true ↔ allowed := modeAllowed_iff _ named
  have taken (on : s.gov.opMode ≠ .off) (ok : allowed) :=
    request.trans (governRequest_taken (s := s.framed) sent named on (table.mpr ok))
  refine ⟨fun off => ?_, fun on refused => ?_, fun on ok active ctx saved => ?_, fun on ok none => ?_⟩
  · exact exec_govern (t := s.framed) listening (request.trans (governRequest_off (s := s.framed) m sent off))
  · exact exec_govern (t := s.framed) listening
      (request.trans (governRequest_refused (s := s.framed) sent on (mt table.mp refused)))
  · have taken := taken on ok
    have active : s.framed.gov.noCauses = false := active
    rw [active, if_neg (by simp), governSaved_eq named _ (by exact saved)] at taken
    exact exec_govern listening taken
  · have taken := taken on ok
    have none : s.framed.gov.noCauses = true := none
    rw [none, if_pos rfl] at taken
    obtain ⟨op, target⟩ := govern_operator (s := s.framed) x named
    refine ⟨_, exec_govern listening taken, ?_, op, target, State.govern_demand s.framed m x, fun same => ?_,
      fun new idle => ?_, fun new driven sound => ?_, fun new pressure failed => ?_⟩
    · ext1 <;> simp [State.framed]
    · rw [govern_same (s := s.framed) _ none named same]
      rfl
    · subst idle
      rw [govern_idle (s := s.framed) _ none new]
      simp [State.framed]
    · rw [govern_new (s := s.framed) _ none ((working_iff m).mpr ⟨named, driven⟩) new sound]
      exact ⟨rfl, congrArg some (measured_clamped s m)⟩
    · exact govern_raises (s := s.framed) x none (by rcases pressure with rfl | rfl <;> rfl) new failed

/-! ### The claim for NUDGE -/

/-- The count as NUDGE takes it (R75). -/
def nudgeSteps (count : Nat) : Nat := if count < 1 then 1 else if 10 < count then 10 else count

theorem nudgeSteps_ne (count : Nat) : nudgeSteps count ≠ count ↔ count < 1 ∨ 10 < count := by
  unfold nudgeSteps
  split_ifs <;> omega

/-- A nudge is 25 a step (R75). -/
theorem add_nudgeBy (target : Int) (up : Bool) (steps : Nat) :
    target + nudgeBy up steps = if up = true then target + 25 * steps else target - 25 * steps := by
  cases up <;> simp [nudgeBy] <;> omega

/-- A NUDGE moves the operator's target, which the effective one follows, or that of the saved context (R75, R76). -/
theorem nudgeTo_eq (s : State) (x : Int) : s.nudgeTo x = { s with gov :=
    if s.gov.noCauses = true then { s.gov with opTarget := x, effTarget := s.gov.effTarget.map fun _ => x }
    else { s.gov with saved := some ⟨s.nudgeContext.mode, x⟩ } } := by
  unfold State.nudgeTo State.moveTarget
  split
  · next none => cases target : s.gov.effTarget <;> simp [none]
  · rfl

theorem nudgeRequest_refused {s : State} (up : Bool) (count : Nat)
    (h : s.gov.opMode = .off ∨ s.nudgeContext.mode = .off ∨ s.nudgeContext.mode = .idle) :
    s.nudgeRequest up count = (s, s.wrongState) := by
  have resting : s.gov.opMode = .off ∨ s.nudgeContext.mode.working = false :=
    h.imp id fun mode => by rcases mode with mode | mode <;> rw [mode] <;> rfl
  rcases resting with off | resting
  · simp [State.nudgeRequest, State.govOff, off, State.reads]
  · simp [State.nudgeRequest, resting, State.reads]

theorem nudgeRequest_taken {s : State} (up : Bool) (count : Nat)
    (h : ¬(s.gov.opMode = .off ∨ s.nudgeContext.mode = .off ∨ s.nudgeContext.mode = .idle)) {want x : Int}
    (hwant : want = s.nudgeContext.target + nudgeBy up (nudgeSteps count))
    (hx : x = s.config.clampSetpoint s.nudgeContext.mode want) :
    s.nudgeRequest up count = (s.nudgeTo x,
      .done (decide (count < 1 ∨ 10 < count ∨ x ≠ want)) (!s.gov.noCauses) []) := by
  obtain ⟨on, named, driven⟩ := not_or.mp h |>.imp id not_or.mp
  have clamped : clampNat 1 10 count = nudgeSteps count := rfl
  simp [State.nudgeRequest, State.govOff, on, (working_iff _).mpr ⟨named, driven⟩, clamped, ← hwant, ← hx,
    nudgeSteps_ne, Bool.or_assoc]

theorem exec_nudge {tag dir count : Byte} {s t : State} {a : Answer} (listening : s.listening = true)
    (answered : answerNudge [dir, count] s.framed = (t, a)) :
    exec (.nudge tag [dir, count]) s = .next ({ t with link := s.link }.answered 0x31 tag a) :=
  exec_request rfl listening (by simp) answered

theorem answerNudge_malformed {dir : Byte} (h : 2 ≤ dir.toNat) (count : Byte) (s : State) :
    answerNudge [dir, count] s = (s, .refused .malformed 2 1 0) := by
  have up : dir ≠ 0#8 := by rintro rfl; simp at h
  have down : dir ≠ 1#8 := by rintro rfl; simp at h
  simp only [answerNudge, if_neg up, if_neg down]
  rfl

/-- A direction in order is up or down (R75). -/
theorem answerNudge_direction {dir : Byte} (h : ¬2 ≤ dir.toNat) (count : Byte) (s : State) :
    answerNudge [dir, count] s = s.nudgeRequest (dir == 0) count.toNat := by
  have two : dir = 0#8 ∨ dir = 1#8 := by bv_omega
  rcases two with rfl | rfl <;> rfl

/-- Settles O52: the direction, then the states that refuse, then the target moved by the clamped steps. -/
theorem nudgeStepsTheTarget : Obligations.NudgeStepsTheTarget := by
  intro tag dir count s listening outcome own ctx
  by_cases bad : 2 ≤ dir.toNat
  · rw [if_pos bad]
    exact exec_nudge (t := s.framed) listening (answerNudge_malformed bad count _)
  have request := answerNudge_direction bad count s.framed
  have context : s.framed.nudgeContext = ctx := rfl
  rw [if_neg bad]
  by_cases refused : s.gov.opMode = .off ∨ ctx.mode = .off ∨ ctx.mode = .idle
  · rw [if_pos refused]
    exact exec_nudge (t := s.framed) listening (request.trans (nudgeRequest_refused (s := s.framed) _ _ refused))
  rw [if_neg refused]
  intro steps want x
  have hwant : want = ctx.target + nudgeBy (dir == 0) (nudgeSteps count.toNat) := by
    rw [add_nudgeBy]
    simp only [beq_iff_eq]
    rfl
  have hx : x = s.config.clampSetpoint ctx.mode want := (clampSetpoint_eq ..).symm
  have taken := request.trans (nudgeRequest_taken (s := s.framed) _ _ refused hwant hx)
  rw [nudgeTo_eq] at taken
  exact exec_nudge listening taken

end Sys2Proof.Machine

/-! # GOV_READ and TANK_READ (R77, R129, R130, R133, R157) -/

namespace Sys2Proof.Machine

/-! ### Fields -/

theorem bitSet_getLsbD (codes : List Nat) {k : Nat} (h : k < 8) :
    (loByte (bitSet codes)).getLsbD k = decide (k ∈ codes) := by
  rw [loByte, BitVec.getLsbD_ofNat, bitSet_testBit, decide_eq_true h, Bool.true_and]

theorem causeCode_lt (c : Cause) : causeCode c < 8 := by cases c <;> decide

theorem causeCode_injective : Function.Injective causeCode := by
  intro a b h
  cases a <;> cases b <;> simp_all [causeCode]

/-- A set of causes shows each cause at its own bit (R155). -/
theorem causeSet_getLsbD (p : Cause → Bool) (c : Cause) :
    (loByte (bitSet ((Cause.all.filter p).map causeCode))).getLsbD (causeCode c) = p c := by
  rw [bitSet_getLsbD _ (causeCode_lt c)]
  simp only [List.mem_map_of_injective causeCode_injective, List.mem_filter, Cause.mem_all, true_and, Bool.decide_eq_true]

theorem loByte_bit (b : Bool) : loByte (bit b) = 1 ↔ b = true := by cases b <;> decide

theorem toNat_loByte {n : Nat} (h : n < 256) : (loByte n).toNat = n := by
  simpa [loByte] using h

theorem u32_eq (n : Nat) : u32 n = [hiByte (n / 65536), loByte (n / 65536), hiByte n, loByte n] := rfl

theorem natOfBytes_u32_of_lt {n : Nat} (h : n < 4294967296) : natOfBytes (u32 n) = n := by
  rw [natOfBytes_u32, Nat.mod_eq_of_lt h]

/-- The number whose byte shows the saved context's mode, 255 where there is none (R77). -/
def savedMode (c : Option SavedContext) : Nat := (c.map (·.mode.code)).getD 255

/-- The number whose two bytes show the saved context's target. -/
def savedTarget (c : Option SavedContext) : Nat :=
  match c with
  | some c => fieldOf (some c.target)
  | none => Config.absentSavedTarget.toNat

theorem savedBytes_eq (c : Option SavedContext) :
    savedBytes c = [loByte (savedMode c), hiByte (savedTarget c), loByte (savedTarget c)] := by
  cases c <;> rfl

theorem optU16_eq (v : Option Nat) : optU16 v = u16 (v.getD 65535) := by cases v <;> rfl

/-- The number whose four bytes show a litre count (R129). -/
def litresField (v : Option Nat) : Nat :=
  match v with
  | some x => if x < 4294967296 then x else (Config.wideLitres x).toNat
  | none => 4294967295

theorem optU32_eq (v : Option Nat) : optU32 v = u32 (litresField v) := by cases v <;> rfl

/-! ### The governor record (R77) -/

theorem govRecord_eq (s : State) : s.govRecord =
    let g := s.gov
    [loByte g.opMode.code, hiByte (fieldOf (some g.opTarget)), loByte (fieldOf (some g.opTarget)),
      loByte g.effMode.code, hiByte (fieldOf g.effTarget), loByte (fieldOf g.effTarget),
      hiByte (fieldOf g.effSetpoint), loByte (fieldOf g.effSetpoint),
      hiByte (g.integrator / 65536), loByte (g.integrator / 65536), hiByte g.integrator, loByte g.integrator,
      hiByte g.demand, loByte g.demand, hiByte s.matrix.cap, loByte s.matrix.cap, loByte (flagSet g.flags),
      loByte g.causeSet, loByte g.presentSet, loByte (savedMode g.saved), hiByte (savedTarget g.saved),
      loByte (savedTarget g.saved), loByte g.suspect, loByte g.ring.length, loByte (bit g.primer.isSome),
      hiByte (s.primerMs / 100), loByte (s.primerMs / 100), loByte (bit g.reliefOpen)] := by
  simp only [State.govRecord, optI16_eq, savedBytes_eq]
  rfl

theorem govRecord_integrator (s : State) : (s.govRecord.drop 8).take 4 = u32 s.gov.integrator := by
  rw [govRecord_eq]
  rfl

theorem exec_govRead {tag : Byte} {s : State} (listening : s.listening = true) :
    exec (.govRead tag []) s = .next (s.answered 0x34 tag (.done false false s.govRecord)) :=
  exec_request (answer := answerGovRead []) (t := s.framed) rfl listening rfl rfl

/-! ### The tank records (R129, R130) -/

/-- An index that names a tank is its number (R155). -/
theorem tankOfNo_eq {n : Nat} {t : TankIx} (h : tankOfNo n = some t) : n = tankNo t := by
  obtain ⟨bound, e⟩ := List.getElem?_eq_some_iff.mp h
  have number : ∀ k : Fin 3, tankNo (TankIx.all[k.val]'k.isLt) = k.val := by decide
  rw [← e]
  exact (number ⟨n, bound⟩).symm

theorem loByte_tankNo {index : Byte} {t : TankIx} (h : tankOfNo index.toNat = some t) : loByte (tankNo t) = index := by
  rw [← tankOfNo_eq h]
  simp [loByte]

/-- The metered litres as the difference of two pulse counts modulo 4294967296 (R133). -/
theorem litresSince_eq (now : BitVec 32) (mark : Option (BitVec 32)) (k : Nat) : litresSince now mark k =
    match mark with
    | some m => 100 * ((now.toNat + 4294967296 - m.toNat) % 4294967296) / k
    | none => 0 := by
  cases mark with
  | none => rfl
  | some m =>
    have difference : (now - m).toNat = (now.toNat + 4294967296 - m.toNat) % 4294967296 := by
      rw [BitVec.toNat_sub]
      have := m.isLt
      omega
    simp only [litresSince, difference]

theorem metering_iff (r : TankRun) : r.metering = true ↔
    r.basis = .metered ∧ (r.state = .travel ∨ r.state = .settling ∨ r.state = .blind) := by
  simp [TankRun.metering, or_assoc]

/-- The litres that part STATE shows of a metered figure (R129). -/
def TankRun.shown (r : TankRun) (litres : Nat) : Nat := litresField (if r.metering then some litres else none)

theorem natOfBytes_shown {r : TankRun} {litres : Nat} (metered : r.metering = true) (h : litres < 4294967296) :
    natOfBytes (u32 (r.shown litres)) = litres := by
  have fits : r.shown litres = litres := by simp [TankRun.shown, metered, litresField, h]
  rw [fits, natOfBytes_u32_of_lt h]

theorem shown_absent {r : TankRun} (litres : Nat) (h : ¬r.metering = true) : r.shown litres = 4294967295 := by
  simp [TankRun.shown, h, litresField]

/-- Part STATE byte by byte (R129, R155). -/
theorem tankStateRecord_eq (s : State) (t : TankIx) : s.tankStateRecord t =
    let c := s.config.tanks.get t
    let r := s.tanks.get t
    let volume := r.volume.getD 65535
    let h := fieldOf (r.h.map fun h => (h : Int))
    let fore := fieldOf (s.image.levels.get c.fore).chan.value
    let aft := fieldOf (c.aft.bind fun a => (s.image.levels.get a).chan.value)
    let out := r.shown (s.meteredOutflow t)
    let into := r.shown (s.meteredInflow t)
    let target := (s.fillTarget t).getD 65535
    [loByte (tankNo t), loByte c.role.code, loByte r.state.code, loByte r.basis.code, hiByte volume, loByte volume,
      hiByte h, loByte h, hiByte fore, loByte fore, hiByte aft, loByte aft, hiByte (fieldOf r.tilt),
      loByte (fieldOf r.tilt), loByte r.band.code, loByte (packBits [r.single, r.tilted]),
      hiByte (out / 65536), loByte (out / 65536), hiByte out, loByte out,
      hiByte (into / 65536), loByte (into / 65536), hiByte into, loByte into, hiByte target, loByte target] := by
  simp only [State.tankStateRecord, State.levelField, optI16_eq, optU16_eq, optU32_eq]
  rfl

theorem tankStateRecord_litres (s : State) (t : TankIx) :
    ((s.tankStateRecord t).drop 16).take 4 = u32 ((s.tanks.get t).shown (s.meteredOutflow t)) ∧
    ((s.tankStateRecord t).drop 20).take 4 = u32 ((s.tanks.get t).shown (s.meteredInflow t)) ∧
    ((s.tankStateRecord t).drop 16).take 8 = u32 ((s.tanks.get t).shown (s.meteredOutflow t)) ++
      u32 ((s.tanks.get t).shown (s.meteredInflow t)) := by
  rw [tankStateRecord_eq]
  exact ⟨rfl, rfl, rfl⟩

/-- Part SETTINGS byte by byte (R130, R155). -/
theorem tankSettingsRecord_eq (s : State) (t : TankIx) : s.tankSettingsRecord t =
    let c := s.config.tanks.get t
    [loByte (tankNo t), BitVec.ofNat 8 c.role.code] ++ u16 c.capacity ++ [BitVec.ofNat 8 (levelNo c.fore)]
      ++ [match c.aft with | some a => BitVec.ofNat 8 (levelNo a) | none => 255]
      ++ [if c.outMeter then 2 else 255, if c.inMeter then 3 else 255]
      ++ u16 c.emptyL ++ u16 c.reserveL ++ u16 c.fullL
      ++ [BitVec.ofNat 8 c.tolerance, BitVec.ofNat 8 c.table.length] ++ u16 (max 10 (c.capacity * 2 / 100)) := by
  dsimp only
  generalize same : s.config.tanks.get t = c
  have out : u8 (meterCode 2 c.outMeter) = [if c.outMeter then 2 else 255] := by cases c.outMeter <;> rfl
  have into : u8 (meterCode 3 c.inMeter) = [if c.inMeter then 3 else 255] := by cases c.inMeter <;> rfl
  have aft : u8 (aftCode c.aft) = [match c.aft with | some a => BitVec.ofNat 8 (levelNo a) | none => 255] := by
    cases c.aft <;> rfl
  simp only [State.tankSettingsRecord, same, out, into, aft]
  rfl

theorem answerTankRead_state {index : Byte} {t : TankIx} (named : tankOfNo index.toNat = some t) (s : State) :
    answerTankRead [index, 0] s = (s, .record (s.tankStateRecord t)) := by
  simp only [answerTankRead, named]
  rfl

theorem answerTankRead_settings {index : Byte} {t : TankIx} (named : tankOfNo index.toNat = some t) (s : State) :
    answerTankRead [index, 1] s = (s, .record (s.tankSettingsRecord t)) := by
  simp only [answerTankRead, named]
  rfl

theorem answerTankRead_table {index : Byte} {t : TankIx} (named : tankOfNo index.toNat = some t) (s : State) :
    answerTankRead [index, 2] s = (s, .record (s.tankTableRecord t)) := by
  simp only [answerTankRead, named]
  rfl

theorem answerTankRead_other {index part : Byte} {t : TankIx} (named : tankOfNo index.toNat = some t)
    (other : 3 ≤ part.toNat) (s : State) :
    answerTankRead [index, part] s = (s, .refused .unknownItem 0 part 0) := by
  simp only [answerTankRead, named, unknownItem_byte]
  split
  case h_4 => rfl
  all_goals omega

theorem exec_tankRead {tag index part : Byte} {s : State} {a : Answer} (listening : s.listening = true)
    (answered : answerTankRead [index, part] s.framed = (s.framed, a)) :
    exec (.tankRead tag [index, part]) s = .next (s.answered 0x40 tag a) :=
  exec_request (t := s.framed) rfl listening (by simp) answered

/-- Settles O55: each field of the records (`govRecord_eq`, `tankStateRecord_eq`) read back from its place. -/
theorem govReadAndTankReadShowTheRecords : Obligations.GovReadAndTankReadShowTheRecords := by
  constructor
  · intro tag s listening
    refine ⟨s.govRecord, exec_govRead listening, ?_⟩
    rw [govRecord_integrator]
    simp only [govRecord_eq, List.getD_cons_succ, List.getD_cons_zero]
    refine ⟨rfl, rfl, rfl, (fieldOf_spec (some _)).1 _ rfl, (fieldOf_spec _).1, (fieldOf_spec _).2, (fieldOf_spec _).2,
      (fieldOf_spec _).1, natOfBytes_u32_of_lt, readU16_of_lt, readU16_of_lt, flags_getLsbD _ (by decide),
      flags_getLsbD _ (by decide), flags_getLsbD _ (by decide), flags_getLsbD _ (by decide), flags_getLsbD _ (by decide),
      causeSet_getLsbD _, causeSet_getLsbD _, fun ctx saved => ?_, fun none => ?_, toNat_loByte, toNat_loByte,
      fun short => ?_, ?_, loByte_bit _⟩
    · rw [saved]
      exact ⟨rfl, (fieldOf_spec (some _)).1 _ rfl⟩
    · rw [none]
      rfl
    · have short : s.primerMs < 6553600 := short
      exact readU16_of_lt (by omega)
    · rw [loByte_bit, Option.isSome_iff_ne_none]
  intro tag index part s listening outcome
  split
  · next absent => exact exec_tankRead listening (by simp [answerTankRead, absent, State.reads, unknownItem_byte])
  next t named =>
  intro c run litres metered outflow inflow
  have number := loByte_tankNo named
  have asked (p : Byte) (a : Answer) (h : answerTankRead [index, p] s.framed = (s.framed, a)) :
      exec (.tankRead tag [index, p]) s = .next (s.answered 0x40 tag a) := exec_tankRead listening h
  refine ⟨?_, ?_, ?_, fun other => ?_⟩
  · rintro rfl
    refine ⟨s.tankStateRecord t, asked _ _ (answerTankRead_state named s.framed), ?_⟩
    obtain ⟨out, into, both⟩ := tankStateRecord_litres s t
    have metering : run.metering = true ↔ metered := metering_iff run
    have outflow_eq : s.meteredOutflow t = outflow := by
      simp only [State.meteredOutflow, litresSince_eq]
      rfl
    have inflow_eq : s.meteredInflow t = inflow := by
      simp only [State.meteredInflow, litresSince_eq]
      rfl
    rw [out, into, both, outflow_eq, inflow_eq]
    simp only [tankStateRecord_eq, List.getD_cons_succ, List.getD_cons_zero]
    refine ⟨rfl, number, rfl, rfl, rfl, fun v volume fits => ?_, fun absent => ?_, fun h level fits => ?_, fun absent => ?_,
      (fieldOf_spec _).1, (fieldOf_spec _).2, fun aft x bound value => ?_, fun absent => ?_, (fieldOf_spec _).1,
      (fieldOf_spec _).2, fun shown => natOfBytes_shown (metering.mpr shown),
      fun shown => natOfBytes_shown (metering.mpr shown), fun hidden => ?_, fun f fill zero fits => ?_,
      fun idle => ?_, rfl, flags_getLsbD _ (by decide), flags_getLsbD _ (by decide)⟩
    · have volume : (s.tanks.get t).volume = some v := volume
      rw [volume]
      exact readU16_of_lt fits
    · have absent : (s.tanks.get t).volume = none := absent
      rw [absent]
      exact readU16_of_lt (by decide)
    · have level : (s.tanks.get t).h = some h := level
      exact (fieldOf_spec _).1 h (by rw [level]; rfl) (by omega) (by omega)
    · have absent : (s.tanks.get t).h = none := absent
      exact (fieldOf_spec _).2 (by rw [absent]; rfl)
    · have bound : (s.config.tanks.get t).aft = some aft := bound
      exact (fieldOf_spec _).1 x (by rw [bound]; exact value)
    · exact (fieldOf_spec _).2 (Option.bind_eq_none_iff.mpr absent)
    · rw [shown_absent _ (mt metering.mp hidden), shown_absent _ (mt metering.mp hidden)]
      rfl
    · have target : s.fillTarget t = some f.target := by simp [State.fillTarget, zero, fill]
      rw [target]
      exact readU16_of_lt fits
    · have target : s.fillTarget t = none := by rcases idle with idle | other <;> simp [State.fillTarget, *]
      rw [target]
      exact readU16_of_lt (by decide)
  · rintro rfl
    refine asked _ _ ?_
    rw [answerTankRead_settings named, tankSettingsRecord_eq, number]
    rfl
  · rintro rfl
    refine asked _ _ ?_
    rw [answerTankRead_table named, State.tankTableRecord]
    exact congrArg (fun b => (s.framed, Answer.record ([b] ++ _ ++ _))) number
  · exact asked _ _ (answerTankRead_other named other s.framed)

end Sys2Proof.Machine

/-! # What the protection tests of an update can do to the governor (R97 to R105) -/

namespace Sys2Proof.Machine

/-- What the tests may do to what an update has driven: the demand and its flags stand, the integrator may be preset from
the demand, and where the set of causes is as it was the effective mode and its target, the ramped setpoint and the
integrator stand too. -/
structure Governor.Tested (g h : Governor) : Prop where
  demand : h.demand = g.demand
  flags : h.flags = g.flags
  capCut : h.capCut = g.capCut
  integrator : h.integrator = g.integrator ∨ h.integrator = min (g.demand * 256) 256000
  suspect : h.suspect = g.suspect ∨ h.suspect = 0
  still : (∀ c, (h.causes.get c).active = (g.causes.get c).active) →
    h.effMode = g.effMode ∧ h.effTarget = g.effTarget ∧ h.effSetpoint = g.effSetpoint ∧ h.integrator = g.integrator

/-- What a raising or an absence may do: no cause leaves the set, and OVERPRESSURE joins it with its return run at 0. -/
structure Governor.Raises (g h : Governor) : Prop extends Governor.Tested g h where
  joined : ∀ c, (g.causes.get c).active = true → (h.causes.get c).active = true
  returnRun : h.returnRun = g.returnRun ∨ h.returnRun = 0
  overpressure : (h.causes.get .overpressure).active = true →
    (g.causes.get .overpressure).active = true ∨ h.returnRun = 0

namespace Governor.Raises

/-- A change of the other runs and of the conditions' presence alone, which leaves the set as it is. -/
theorem of_counts {g h : Governor} (active : ∀ c, (h.causes.get c).active = (g.causes.get c).active)
    (rest : h = { g with causes := h.causes, overRun := h.overRun, primeLossRun := h.primeLossRun
                         primeReturnRun := h.primeReturnRun, cavClearRun := h.cavClearRun }) : g.Raises h := by
  have kept : h.effMode = g.effMode ∧ h.effTarget = g.effTarget ∧ h.effSetpoint = g.effSetpoint ∧
      h.integrator = g.integrator ∧ h.demand = g.demand ∧ h.flags = g.flags ∧ h.capCut = g.capCut ∧
      h.suspect = g.suspect ∧ h.returnRun = g.returnRun := by
    rw [rest]
    simp only [and_self]
  obtain ⟨mode, target, setpoint, integrator, demand, flags, capCut, suspect, run⟩ := kept
  exact {
    demand, flags, capCut
    integrator := .inl integrator
    suspect := .inl suspect
    still := fun _ => ⟨mode, target, setpoint, integrator⟩
    joined := fun c here => (active c).trans here
    returnRun := .inl run
    overpressure := fun here => .inl ((active _).symm.trans here) }

theorem refl (g : Governor) : g.Raises g := of_counts (fun _ => rfl) rfl

theorem trans {g h k : Governor} (a : g.Raises h) (b : h.Raises k) : g.Raises k where
  demand := b.demand.trans a.demand
  flags := b.flags.trans a.flags
  capCut := b.capCut.trans a.capCut
  integrator := by
    rcases b.integrator with e | e
    · rw [e]
      exact a.integrator
    · exact .inr (by rw [e, a.demand])
  suspect := b.suspect.elim (fun e => e ▸ a.suspect) .inr
  still := fun same => by
    have between (c : Cause) : (h.causes.get c).active = (g.causes.get c).active := by
      have first := a.joined c
      have second := b.joined c
      rw [same c] at second
      exact Bool.eq_iff_iff.mpr ⟨second, first⟩
    obtain ⟨mode, target, setpoint, integrator⟩ := a.still between
    obtain ⟨mode', target', setpoint', integrator'⟩ := b.still fun c => (same c).trans (between c).symm
    exact ⟨mode'.trans mode, target'.trans target, setpoint'.trans setpoint, integrator'.trans integrator⟩
  joined := fun c here => b.joined c (a.joined c here)
  returnRun := b.returnRun.elim (fun e => e ▸ a.returnRun) .inr
  overpressure := fun here => by
    rcases b.overpressure here with old | zero
    · refine (a.overpressure old).imp id fun zero => ?_
      rcases b.returnRun with e | e
      · exact e.trans zero
      · exact e
    · exact .inr zero

end Governor.Raises

/-! ### The shared operations -/

@[simp] theorem State.takeEffective_limits (s : State) (m : GovMode) (x : Int) :
    (s.takeEffective m x).gov.flags = s.gov.flags ∧ (s.takeEffective m x).gov.capCut = s.gov.capCut ∧
    (s.takeEffective m x).gov.returnRun = s.gov.returnRun := by
  simp only [State.takeEffective, State.bumpless, State.effectiveRest, Governor.emptyRing]
  repeat' split
  all_goals simp

/-- The effective mode taken presets the integrator from the demand, or leaves it (R69, R72). -/
theorem takeEffective_integrator (s : State) (m : GovMode) (x : Int) :
    (s.takeEffective m x).gov.integrator = s.gov.integrator ∨
    (s.takeEffective m x).gov.integrator = min (s.gov.demand * 256) 256000 := by
  unfold State.takeEffective
  split
  · exact .inr rfl
  · exact .inl (by simp)

theorem takeEffective_suspect (s : State) (m : GovMode) (x : Int) :
    (s.takeEffective m x).gov.suspect = s.gov.suspect ∨ (s.takeEffective m x).gov.suspect = 0 := by
  unfold State.takeEffective State.effectiveRest
  dsimp only
  split
  · exact .inr rfl
  · split
    · exact .inl rfl
    · exact .inr rfl

@[simp] theorem State.settleRaised_limits (s : State) (c : Cause) :
    (s.settleRaised c).gov.flags = s.gov.flags ∧ (s.settleRaised c).gov.capCut = s.gov.capCut ∧
    (s.settleRaised c).gov.returnRun = s.gov.returnRun := by
  unfold State.settleRaised
  split <;> simp

theorem settleRaised_integrator (s : State) (c : Cause) :
    (s.settleRaised c).gov.integrator = s.gov.integrator ∨
    (s.settleRaised c).gov.integrator = min (s.gov.demand * 256) 256000 := by
  unfold State.settleRaised
  split
  · exact takeEffective_integrator _ _ _
  · exact .inl rfl

theorem settleRaised_suspect (s : State) (c : Cause) :
    (s.settleRaised c).gov.suspect = s.gov.suspect ∨ (s.settleRaised c).gov.suspect = 0 := by
  unfold State.settleRaised
  split
  · exact takeEffective_suspect _ _ _
  · exact .inl rfl

/-- The state as a cause's raising leaves it before the effective mode is settled (R97). -/
def State.joined (s : State) (c : Cause) (v : List Byte) : State :=
  ((({ s with gov := ({ s.gov with
      saved := if s.gov.noCauses then some ⟨s.gov.opMode, s.gov.opTarget⟩ else s.gov.saved }).runsAtRaising c }).setCause c
    { active := true, present := true, target := s.actionTarget c }).reportRaised c v).hornArises

theorem raiseCause_joins {s : State} {c : Cause} (v : List Byte) (on : s.govOff = false)
    (out : (s.gov.causes.get c).active = false) : s.raiseCause c v = (s.joined c v).settleRaised c := by
  simp only [State.raiseCause, on, out]
  rfl

/-- The condition of a cause that is in the set is found present again (R97). -/
theorem raiseCause_again {s : State} {c : Cause} (v : List Byte) (on : s.govOff = false)
    (here : (s.gov.causes.get c).active = true) : s.raiseCause c v =
      if (s.gov.causes.get c).present then s
      else (s.setCause c { active := true, present := true, target := (s.gov.causes.get c).target }).reportRaised c v := by
  simp [State.raiseCause, on, here]

/-- A cause that joins the set changes it, and only OVERPRESSURE touches the return run (R97, R105). -/
theorem joined_gov (s : State) (c : Cause) (v : List Byte) :
    (s.joined c v).gov = { s.gov with
      causes := s.gov.causes.set c { active := true, present := true, target := s.actionTarget c }
      saved := if s.gov.noCauses then some ⟨s.gov.opMode, s.gov.opTarget⟩ else s.gov.saved
      cavClearRun := if c = .cavitation then 0 else s.gov.cavClearRun
      primeReturnRun := if c = .primeLost then 0 else s.gov.primeReturnRun
      returnRun := if c = .overpressure then 0 else s.gov.returnRun } := by
  cases c <;> rfl

theorem joined_raises {s : State} {c : Cause} (v : List Byte) (out : (s.gov.causes.get c).active = false) :
    s.gov.Raises ((s.joined c v).settleRaised c).gov := by
  have gov := joined_gov s c v
  have integrator := settleRaised_integrator (s.joined c v) c
  have suspect := settleRaised_suspect (s.joined c v) c
  have causes : ((s.joined c v).settleRaised c).gov.causes =
      s.gov.causes.set c { active := true, present := true, target := s.actionTarget c } := by simp [gov]
  have run : ((s.joined c v).settleRaised c).gov.returnRun = if c = .overpressure then 0 else s.gov.returnRun := by
    simp [gov]
  exact {
    demand := by simp [gov]
    flags := by simp [gov]
    capCut := by simp [gov]
    integrator := by simpa [gov] using integrator
    suspect := by simpa [gov] using suspect
    still := fun same => by
      have new := same c
      rw [causes] at new
      simp [out] at new
    joined := fun d here => by
      rw [causes, PerCause.get_set]
      split <;> simp [here]
    returnRun := by
      rw [run]
      split <;> simp
    overpressure := fun here => by
      rw [causes, PerCause.get_set] at here
      rw [run]
      by_cases new : c = .overpressure
      · exact .inr (if_pos new)
      · rw [if_neg (Ne.symm new)] at here
        exact .inl here }

theorem raiseCause_raises (s : State) (c : Cause) (v : List Byte) : s.gov.Raises (s.raiseCause c v).gov := by
  cases off : s.govOff
  · cases here : (s.gov.causes.get c).active
    · rw [raiseCause_joins v off here]
      exact joined_raises v here
    · rw [raiseCause_again v off here]
      split
      · exact .refl _
      · refine .of_counts (fun d => ?_) (by simp)
        by_cases same : d = c <;> simp [same, here, PerCause.get_set_ne]
  · simpa [State.raiseCause, off] using Governor.Raises.refl s.gov

theorem causeAbsent_raises (s : State) (c : Cause) (v : List Byte) : s.gov.Raises (s.causeAbsent c v).gov := by
  refine .of_counts (fun d => ?_) ?_
  · unfold State.causeAbsent
    dsimp only
    split
    · next here => by_cases same : d = c <;> simp_all [PerCause.get_set_ne]
    · rfl
  · rw [State.causeAbsent_gov]

theorem judgePressureSensor_raises (s : State) : s.gov.Raises s.judgePressureSensor.gov := by
  unfold State.judgePressureSensor
  repeat' split
  · exact causeAbsent_raises s _ _
  · exact raiseCause_raises s _ _
  · exact .refl _

theorem raise_raises (s : State) (c : Cause) (v : List Byte) : s.gov.Raises (s.raise c v).gov := by
  unfold State.raise
  dsimp only
  split
  · exact raiseCause_raises s c v
  · exact (raiseCause_raises s c v).trans (judgePressureSensor_raises _)

/-! ### The tests in their order (R101, R102, R104) -/

theorem judgeCavitation_raises (s : State) : s.gov.Raises s.judgeCavitation.gov := by
  unfold State.judgeCavitation
  dsimp only
  split_ifs
  · exact raise_raises s _ _
  · exact causeAbsent_raises s _ _
  · exact .refl _

theorem judgePrimeLost_raises (s : State) : s.gov.Raises s.judgePrimeLost.gov := by
  unfold State.judgePrimeLost
  dsimp only
  split_ifs
  · exact raise_raises s _ _
  · exact causeAbsent_raises s _ _
  · exact .refl _

theorem primeRuns_raises (s : State) : s.gov.Raises s.primeRuns.gov := .of_counts (fun _ => rfl) rfl

theorem judgeOverLimit_raises (s : State) (m : GovMode) : s.gov.Raises (s.judgeOverLimit m).gov := by
  have counted (run : Nat) : s.gov.Raises { s.gov with overRun := run } := .of_counts (fun _ => rfl) rfl
  unfold State.judgeOverLimit
  dsimp only
  split
  · exact (counted _).trans (raise_raises { s with gov := { s.gov with overRun := _ } } _ _)
  · exact counted _

/-- The tests of an update up to the return of OVERPRESSURE. -/
def State.raisingTests (s : State) (m : GovMode) : State :=
  (s.judgeCavitation.primeRuns.judgePrimeLost).judgeOverLimit m

theorem protectionTests_eq (s : State) (m : GovMode) :
    s.protectionTests m = (s.cavitationCounts.raisingTests m).judgeReturn := rfl

theorem raisingTests_raises (s : State) (m : GovMode) : s.gov.Raises (s.raisingTests m).gov :=
  (((judgeCavitation_raises s).trans (primeRuns_raises _)).trans (judgePrimeLost_raises _)).trans
    (judgeOverLimit_raises _ m)

end Sys2Proof.Machine

/-! # The return of OVERPRESSURE, and the tests as a whole (R94, R99, R105, R109) -/

namespace Sys2Proof.Machine

/-! ### Causes that leave the set (R99, R109) -/

@[simp] theorem State.causeLeaves_limits (s : State) (c : Cause) :
    (s.causeLeaves c).gov.integrator = s.gov.integrator ∧ (s.causeLeaves c).gov.flags = s.gov.flags ∧
    (s.causeLeaves c).gov.capCut = s.gov.capCut ∧ (s.causeLeaves c).gov.suspect = s.gov.suspect := by
  unfold State.causeLeaves
  split <;> simp

theorem causeLeaves_get (s : State) (c d : Cause) : (s.causeLeaves c).gov.causes.get d =
    if d = c then (if (s.gov.causes.get c).active then noCause else s.gov.causes.get c) else s.gov.causes.get d := by
  unfold State.causeLeaves
  split
  · simp [PerCause.get_set]
  · by_cases same : d = c <;> simp [same]

theorem causeLeaves_out (s : State) (c : Cause) : ((s.causeLeaves c).gov.causes.get c).active = false := by
  rw [causeLeaves_get, if_pos rfl]
  split
  · rfl
  · next out => simpa using out

@[simp] theorem State.allCausesLeave_limits (s : State) :
    s.allCausesLeave.gov.flags = s.gov.flags ∧ s.allCausesLeave.gov.capCut = s.gov.capCut :=
  foldl_keeps (fun t : State => t.gov.flags = s.gov.flags ∧ t.gov.capCut = s.gov.capCut) State.causeLeaves Cause.all s
    ⟨rfl, rfl⟩ fun t c h => by simpa using h

theorem allCausesLeave_out (s : State) (c : Cause) : (s.allCausesLeave.gov.causes.get c).active = false := by
  have left : s.allCausesLeave.gov.causes.get c = if c ∈ Cause.all then
      (if (s.gov.causes.get c).active then noCause else s.gov.causes.get c) else s.gov.causes.get c :=
    foldl_own (own := fun (s : State) c => s.gov.causes.get c)
      (g := fun s c => if (s.gov.causes.get c).active then noCause else s.gov.causes.get c) causeLeaves_get
      (fun s j i apart => by simp only [causeLeaves_get, if_neg apart]) Cause.all (by decide) s c
  rw [left, if_pos c.mem_all]
  split
  · rfl
  · next out => simpa using out

/-! ### OVERPRESSURE returns (R105) -/

/-- What the return of OVERPRESSURE may do to the governor: the throttle as the tests may leave it, and the cause out of
the set. -/
structure Governor.Returns (g h : Governor) : Prop where
  demand : h.demand = g.demand
  flags : h.flags = g.flags
  capCut : h.capCut = g.capCut
  integrator : h.integrator = g.integrator ∨ h.integrator = min (g.demand * 256) 256000
  suspect : h.suspect = g.suspect ∨ h.suspect = 0
  out : (h.causes.get .overpressure).active = false

/-- The state with every cause out and the saved context restored, before the effective mode follows (R105, R109). -/
def State.contextRestored (s : State) : State :=
  let t := s.allCausesLeave
  let context := t.gov.saved.getD ⟨t.gov.opMode, t.gov.opTarget⟩
  { t with gov := { t.gov.emptyRing with
      opMode := context.mode, opTarget := context.target, saved := none
      returnRun := 0, primeLossRun := 0, primeReturnRun := 0, cavClearRun := 0 } }

theorem returnToOperator_eq (s : State) : s.returnToOperator =
    ((s.contextRestored.takeEffective s.contextRestored.gov.opMode
      s.contextRestored.gov.opTarget).judgeHorn).judgePressureSensor := rfl

theorem contextRestored_returns (s : State) : s.gov.Returns s.contextRestored.gov := by
  unfold State.contextRestored Governor.emptyRing
  exact {
    demand := by simp
    flags := by simp
    capCut := by simp
    integrator := .inl (by simp)
    suspect := .inr rfl
    out := allCausesLeave_out s .overpressure }

/-- The judgement of PRESSURE_SENSOR and a bumpless start do no more to a return than the tests may. -/
theorem Governor.Returns.resumed {g : Governor} {s : State} (h : g.Returns s.gov) (m : GovMode) (x : Int) :
    g.Returns ((s.takeEffective m x).judgeHorn).judgePressureSensor.gov := by
  have judged := judgePressureSensor_raises (s.takeEffective m x).judgeHorn
  have integrator := takeEffective_integrator s m x
  have suspect := takeEffective_suspect s m x
  have own := State.judgePressureSensor_other (s.takeEffective m x).judgeHorn (d := .overpressure) (by decide)
  exact {
    demand := by simp [h.demand]
    flags := by simp [judged.flags, h.flags]
    capCut := by simp [judged.capCut, h.capCut]
    integrator := by
      have judged := judged.integrator
      simp only [State.judgeHorn_frame, State.takeEffective_operator, h.demand] at judged integrator
      rcases judged with e | e
      · rw [e]
        rcases integrator with e | e
        · rw [e]
          exact h.integrator
        · exact .inr e
      · exact .inr e
    suspect := by
      have judged := judged.suspect
      simp only [State.judgeHorn_frame] at judged
      rcases judged with e | e
      · rw [e]
        rcases suspect with e | e
        · rw [e]
          exact h.suspect
        · exact .inr e
      · exact .inr e
    out := by
      rw [own]
      simpa using h.out }

theorem overpressureReturns_returns (s : State) : s.gov.Returns s.overpressureReturns.gov := by
  unfold State.overpressureReturns
  split
  · rw [returnToOperator_eq]
    exact (contextRestored_returns s).resumed _ _
  · dsimp only
    exact {
      demand := by simp
      flags := by simp
      capCut := by simp
      integrator := .inl (by simp)
      suspect := .inl (by simp)
      out := by simpa using causeLeaves_out s .overpressure }

/-- The return run moves its count alone, or ends OVERPRESSURE where it stood at 99 or more. -/
theorem judgeReturn_cases (s : State) : s.gov.Raises { s.judgeReturn.gov with returnRun := s.gov.returnRun } ∨
    (s.gov.causes.get .overpressure).active = true ∧ s.gov.returnRun ≠ 0 ∧ s.gov.Returns s.judgeReturn.gov := by
  unfold State.judgeReturn
  split
  · next here =>
    dsimp only
    split_ifs with short engaged
    · exact .inl (.refl _)
    · refine .inr ⟨here, fun zero => short ?_, ?_⟩
      · rw [zero]
        unfold runNext
        split <;> simp
      · have returned := overpressureReturns_returns
          { s with gov := { s.gov with returnRun := runNext 100 s.underReturn s.gov.returnRun } }
        exact ⟨returned.demand, returned.flags, returned.capCut, returned.integrator, returned.suspect, returned.out⟩
    · refine .inl ?_
      have absent := causeAbsent_raises
        { s with gov := { s.gov with returnRun := runNext 100 s.underReturn s.gov.returnRun } } .overpressure
          (optI16 s.pDis)
      exact {
        demand := absent.demand, flags := absent.flags, capCut := absent.capCut
        integrator := absent.integrator, suspect := absent.suspect, still := absent.still, joined := absent.joined
        returnRun := .inl rfl
        overpressure := fun _ => .inl here }
  · exact .inl (.refl _)

/-- The tests of an update do no more than `Tested` says: a return ends a cause that was in the set before them. -/
theorem protectionTests_tested (s : State) (m : GovMode) :
    s.cavitationCounts.gov.Tested (s.protectionTests m).gov := by
  rw [protectionTests_eq]
  have raised := raisingTests_raises s.cavitationCounts m
  rcases judgeReturn_cases (s.cavitationCounts.raisingTests m) with counted | ⟨here, run, returned⟩
  · have whole := raised.trans counted
    exact ⟨whole.demand, whole.flags, whole.capCut, whole.integrator, whole.suspect, whole.still⟩
  · exact {
      demand := returned.demand.trans raised.demand
      flags := returned.flags.trans raised.flags
      capCut := returned.capCut.trans raised.capCut
      integrator := by
        rcases returned.integrator with e | e
        · rw [e]
          exact raised.integrator
        · exact .inr (by rw [e, raised.demand])
      suspect := returned.suspect.elim (fun e => e ▸ raised.suspect) .inr
      still := fun same => by
        have before := (raised.overpressure here).resolve_right run
        have after := same .overpressure
        rw [before, returned.out] at after
        cases after }

end Sys2Proof.Machine

/-! # GOVERNOR_UPDATE: what it drives, its suspect count, and the claim (R71, R84 to R94, R100, R101) -/

namespace Sys2Proof.Machine

/-! ### The stages (R71, R86 to R92) -/

/-- The ramp of R71, by its step. -/
theorem ramp_eq {m : GovMode} {step : Int} (h : rampStep m = step) (sp target : Int) : ramp m sp target =
    if target - sp ≤ step ∧ sp - target ≤ step then target else if sp < target then sp + step else sp - step := by
  have near : (target - sp).natAbs ≤ (rampStep m).natAbs ↔ target - sp ≤ step ∧ sp - target ≤ step := by
    have positive : 0 ≤ rampStep m := by cases m <;> decide
    omega
  simp only [ramp, near]
  rw [h]

theorem ramped_eq {g : Governor} {sp target : Int} (hsp : g.effSetpoint = some sp) (ht : g.effTarget = some target) :
    g.ramped = some (ramp g.effMode sp target) := by
  simp only [Governor.ramped, hsp, ht]

/-- The freeze of R88 in words. -/
theorem frozenTest_eq (g : Governor) (e : Int) : frozenTest g e =
    decide (((g.flags.satHigh = true ∨ g.capCut = true) ∧ 0 < e) ∨ (g.flags.satLow = true ∧ e < 0)) := by
  simp [frozenTest]

/-- In IDLE an update's raw demand and integrator are 0 (R91). -/
theorem updateStages_idle {s : State} (idle : s.gov.effMode = .idle) :
    s.updateStages = limitStages s.gov s.config.gov.rateStep s.matrix.cap 0 0 false := by
  simp only [State.updateStages, idle]
  rfl

/-- RPM governs N by its own gains (R84, R86). -/
theorem updateStages_rpm {s : State} (rpm : s.gov.effMode = .rpm) : s.updateStages =
    workingStages s.gov s.config.gov.kpN s.config.gov.kiN s.config.gov.rateStep s.matrix.cap
      (s.gov.ramped.getD 0 - s.image.n) := by
  simp only [State.updateStages, State.updateError, rpm]

/-- PRESSURE and LIMIT govern P_dis, an absent one as 0 (R84, R86). -/
theorem updateStages_pressure {s : State} (pressure : s.gov.effMode = .pressure ∨ s.gov.effMode = .limit) :
    s.updateStages = workingStages s.gov s.config.gov.kpP s.config.gov.kiP s.config.gov.rateStep s.matrix.cap
      (s.gov.ramped.getD 0 - s.image.a0.value.getD 0) := by
  rcases pressure with mode | mode <;> simp only [State.updateStages, State.updateError, mode, State.pDis]

/-! ### The record an update drives, and the tests behind it (R94) -/

theorem primerAtDemand_gov (s : State) :
    ∃ primer elapsed, s.primerAtDemand.gov = { s.gov with primer := primer, primerElapsed := elapsed } := by
  unfold State.primerAtDemand
  split
  · obtain ⟨elapsed, gov⟩ := stopPrimer_gov s
    exact ⟨none, elapsed, gov⟩
  · exact ⟨s.gov.primer, s.gov.primerElapsed, rfl⟩

/-- The ring as an update leaves it to the tests (R100). -/
def State.nextRing (s : State) : List RingEntry := pushHistory s.gov.ring s.ringEntry

/-- The governor record as the tests find it: driven, and with the suspect count of the new ring (R94, R100). -/
def State.driven (s : State) : Governor := { s.driveUpdate.gov with suspect := s.suspectAfter s.nextRing }

/-- The suspect count reads the image, the configuration and the count alone. -/
theorem suspectAfter_congr {s t : State} (image : t.image = s.image) (config : t.config = s.config)
    (count : t.gov.suspect = s.gov.suspect) (ring : List RingEntry) : t.suspectAfter ring = s.suspectAfter ring := by
  unfold State.suspectAfter State.ringEntry State.pDis State.pIn
  rw [image, config, count]

/-- The count of the driven state is that of the state itself: the stages move neither ring nor count. -/
theorem cavitationCounts_suspect (s : State) : s.driveUpdate.primerAtDemand.cavitationCounts.gov.suspect =
    s.suspectAfter s.nextRing := by
  obtain ⟨primer, elapsed, gov⟩ := primerAtDemand_gov s.driveUpdate
  have ring : s.driveUpdate.primerAtDemand.gov.ring = s.gov.ring := by
    rw [gov]
    rfl
  have count : s.driveUpdate.primerAtDemand.gov.suspect = s.gov.suspect := by
    rw [gov]
    rfl
  have entry : s.driveUpdate.primerAtDemand.ringEntry = s.ringEntry := by
    simp [State.ringEntry, State.pDis, State.pIn]
  unfold State.cavitationCounts State.nextRing
  dsimp only
  rw [ring, entry]
  exact suspectAfter_congr (by simp) (by simp) count _

/-- An update with the governor on: drive, then test (R84, R94). -/
theorem governorUpdate_eq {s : State} (on : s.govOff = false) :
    s.governorUpdate = s.driveUpdate.primerAtDemand.protectionTests s.gov.effMode := by
  simp [State.governorUpdate, on]

theorem governorUpdate_tested {s : State} (on : s.govOff = false) : s.driven.Tested s.governorUpdate.gov := by
  have tested := protectionTests_tested s.driveUpdate.primerAtDemand s.gov.effMode
  have suspect := tested.suspect
  rw [cavitationCounts_suspect] at suspect
  obtain ⟨primer, elapsed, gov⟩ := primerAtDemand_gov s.driveUpdate
  rw [← governorUpdate_eq on] at tested suspect
  obtain ⟨demand, flags, capCut, integrator, -, still⟩ := tested
  simp only [State.cavitationCounts, gov] at demand flags capCut integrator still
  exact ⟨demand, flags, capCut, integrator, suspect, still⟩

/-! ### The suspect count (R100) -/

/-- Seven entries, or eight with the oldest gone, and this update's make a full ring. -/
theorem nextRing_full {s : State} {old : RingEntry} {rest : List RingEntry}
    (ring : s.gov.ring = old :: rest ∨ ∃ x, s.gov.ring = x :: old :: rest) (six : rest.length = 6) :
    s.nextRing = old :: (rest ++ [s.ringEntry]) := by
  unfold State.nextRing pushHistory
  rcases ring with ring | ⟨x, ring⟩ <;> simp [ring, six]

/-- With sound sensors a full ring counts a suspect update, and any other makes the count 0. -/
theorem suspectAfter_full {s : State} {old : RingEntry} {rest : List RingEntry} (six : rest.length = 6)
    (a0 : s.image.a0.status ≠ .fault) (a1 : s.image.a1.status ≠ .fault) :
    s.suspectAfter (old :: (rest ++ [s.ringEntry])) =
      if suspectTest s.config.gov.cavThreshold (old :: (rest ++ [s.ringEntry])) s.ringEntry old
      then min (s.gov.suspect + 1) 255 else 0 := by
  simp [State.suspectAfter, suspectNext, six, (good_iff _).mpr a0, (good_iff _).mpr a1]

/-- The suspect test in words: every P_in there, the newest at or below the threshold, N up by 100 and P_dis not up. -/
theorem suspectTest_iff (threshold : Int) (ring : List RingEntry) (newest oldest : RingEntry) :
    suspectTest threshold ring newest oldest = true ↔ (∀ q ∈ ring, q.pIn ≠ none) ∧
      (∃ p, newest.pIn = some p ∧ p ≤ threshold) ∧ oldest.n + 100 ≤ newest.n ∧
      ∃ p q, newest.pDis = some p ∧ oldest.pDis = some q ∧ p ≤ q := by
  have low : optAny newest.pIn (fun p => decide (p ≤ threshold)) = true ↔ ∃ p, newest.pIn = some p ∧ p ≤ threshold := by
    cases newest.pIn <;> simp [optAny]
  have notUp : optLe newest.pDis oldest.pDis = true ↔ ∃ p q, newest.pDis = some p ∧ oldest.pDis = some q ∧ p ≤ q := by
    cases newest.pDis <;> cases oldest.pDis <;> simp [optLe]
  simp [suspectTest, low, notUp, and_assoc, Option.isSome_iff_ne_none]

/-! ### CAVITATION (R101) -/

/-- A raising moves its own cause and PRESSURE_SENSOR alone (R97, R107). -/
theorem raise_other (s : State) {c d : Cause} (apart : d ≠ c) (sensor : d ≠ .pressureSensor) (v : List Byte) :
    (s.raise c v).gov.causes.get d = s.gov.causes.get d := by
  unfold State.raise
  dsimp only
  split
  · exact s.raiseCause_other apart v
  · rw [State.judgePressureSensor_other _ sensor, s.raiseCause_other apart v]

theorem judgePrimeLost_other (s : State) {d : Cause} (apart : d ≠ .primeLost) (sensor : d ≠ .pressureSensor) :
    s.judgePrimeLost.gov.causes.get d = s.gov.causes.get d := by
  unfold State.judgePrimeLost
  dsimp only
  split_ifs
  · exact raise_other s apart sensor _
  · exact s.causeAbsent_other apart _
  · rfl

theorem judgeOverLimit_other (s : State) (m : GovMode) {d : Cause} (apart : d ≠ .overpressure)
    (sensor : d ≠ .pressureSensor) : (s.judgeOverLimit m).gov.causes.get d = s.gov.causes.get d := by
  unfold State.judgeOverLimit
  dsimp only
  split
  · exact raise_other _ apart sensor _
  · rfl

/-- The return of OVERPRESSURE leaves a CAVITATION that is in the set as it is: OVERPRESSURE is not the only cause
(R105). -/
theorem judgeReturn_cavitation {s : State} (here : (s.gov.causes.get .cavitation).active = true) :
    s.judgeReturn.gov.causes.get .cavitation = s.gov.causes.get .cavitation := by
  have notOnly {t : State} (same : t.gov.causes = s.gov.causes) : t.gov.onlyOverpressure = false := by
    simp only [Governor.onlyOverpressure, same, List.all_eq_false]
    exact ⟨.cavitation, Cause.mem_all _, by simp [here]⟩
  unfold State.judgeReturn
  dsimp only
  split_ifs
  · rfl
  · rw [State.overpressureReturns, notOnly (by rfl)]
    simp [causeLeaves_get]
  · exact State.causeAbsent_other _ (by decide) _
  · rfl

/-- Ten suspect updates raise CAVITATION, and no later test of the update takes it back (R101). -/
theorem protectionTests_cavitation {s : State} (m : GovMode) (on : s.govOff = false)
    (ten : 10 ≤ s.cavitationCounts.gov.suspect) :
    ((s.protectionTests m).gov.causes.get .cavitation).active = true ∧
    ((s.protectionTests m).gov.causes.get .cavitation).present = true := by
  have raised := State.raise_raises (s := s.cavitationCounts) on (c := .cavitation) (by decide)
    (u16 s.cavitationCounts.image.n ++ optI16 s.cavitationCounts.pIn)
  have kept : (s.cavitationCounts.raisingTests m).gov.causes.get .cavitation =
      s.cavitationCounts.judgeCavitation.gov.causes.get .cavitation := by
    unfold State.raisingTests
    rw [judgeOverLimit_other _ m (by decide) (by decide), judgePrimeLost_other _ (by decide) (by decide)]
    rfl
  have judged : s.cavitationCounts.judgeCavitation = s.cavitationCounts.raise .cavitation
      (u16 s.cavitationCounts.image.n ++ optI16 s.cavitationCounts.pIn) := if_pos ten
  rw [← judged, ← kept] at raised
  rw [protectionTests_eq, judgeReturn_cavitation raised.1]
  exact raised

theorem governorUpdate_cavitation {s : State} (on : s.govOff = false) (ten : 10 ≤ s.suspectAfter s.nextRing) :
    (s.governorUpdate.gov.causes.get .cavitation).active = true ∧
    (s.governorUpdate.gov.causes.get .cavitation).present = true := by
  obtain ⟨primer, elapsed, gov⟩ := primerAtDemand_gov s.driveUpdate
  have still : s.driveUpdate.primerAtDemand.govOff = false := by
    rw [State.govOff, gov]
    exact on
  rw [governorUpdate_eq on]
  exact protectionTests_cavitation _ still ((cavitationCounts_suspect s).symm ▸ ten)

/-! ### The claim -/

/-- What an update with that raw demand, integrator and freeze leaves in the governor record (R92, R94, R97). -/
def State.Limited (s : State) (h : Governor) (raw : Int) (integrator : Nat) (frozen : Bool) : Prop :=
  let r := clampInt (s.gov.demand - s.config.gov.rateStep) (s.gov.demand + s.config.gov.rateStep) raw
  (h.demand : Int) = clampInt 0 s.matrix.cap r ∧
  h.flags = { satHigh := decide ((s.matrix.cap : Int) < raw), satLow := decide (raw < 0)
              rate := decide (r ≠ raw), capCut := decide ((s.matrix.cap : Int) < r) || s.gov.capCut, frozen } ∧
  (h.integrator = integrator ∨ h.integrator = min (h.demand * 256) 256000) ∧
  ((∀ c, (h.causes.get c).active = (s.gov.causes.get c).active) → h.integrator = integrator)

theorem clampInt_nonneg (hi : Nat) (x : Int) : 0 ≤ clampInt 0 hi x := by
  unfold clampInt
  split_ifs <;> omega

theorem governorUpdate_limited {s : State} (on : s.govOff = false) {raw : Int} {integrator : Nat} {frozen : Bool}
    (stages : s.updateStages =
      limitStages s.gov s.config.gov.rateStep s.matrix.cap raw integrator frozen) :
    s.Limited s.governorUpdate.gov raw integrator frozen := by
  have tested := governorUpdate_tested on
  have demand : s.governorUpdate.gov.demand = s.updateStages.demand := tested.demand
  have flags : s.governorUpdate.gov.flags = s.updateStages.flags := tested.flags
  have preset := tested.integrator
  rw [← tested.demand] at preset
  have held (same) : s.governorUpdate.gov.integrator = s.updateStages.integrator := (tested.still same).2.2.2
  rw [stages] at demand flags held
  refine ⟨?_, flags, ?_, held⟩
  · rw [demand]
    exact Int.toNat_of_nonneg (clampInt_nonneg ..)
  · exact preset.imp_left fun e => e.trans (congrArg UpdateResult.integrator stages)

theorem Matrix.eq_of_butHorn {m k : Matrix} (h : m.butHorn = k.butHorn) :
    m = { k with horn := m.horn, muted := m.muted, tankHorn := m.tankHorn } := by
  cases m
  cases k
  simpa [Matrix.butHorn] using h

theorem exec_governorUpdate (s : State) : exec .governorUpdate s = .next s.governorUpdate.kick := rfl

/-- Settles O56: what the stages drive, which the tests behind them leave as `Governor.Tested` says, and the suspect
count of the new ring. -/
theorem governorUpdateDrivesTheDemand : Obligations.GovernorUpdateDrivesTheDemand := by
  intro s
  refine ⟨fun off => ?_, fun governing => ?_⟩
  · simp [exec_governorUpdate, State.governorUpdate, State.govOff, off]
  have on : s.govOff = false := by simpa [State.govOff] using governing
  have tested := governorUpdate_tested on
  refine ⟨s.governorUpdate, exec_governorUpdate s, by ext1 <;> simp, ?_, tested.capCut,
    fun idle => governorUpdate_limited on (updateStages_idle idle), ?_, ?_, ?_⟩
  · exact Matrix.eq_of_butHorn (State.governorUpdate_butHorn s)
  · intro sp target hsp ht mode step sp' e kp ki frozen integrator
    have ramped : s.gov.ramped = some sp' := by
      rw [ramped_eq hsp ht, ramp_eq (step := step) rfl]
    have stages : s.updateStages = limitStages s.gov s.config.gov.rateStep s.matrix.cap
        ((integrator / 256 : Nat) + Int.tdiv (kp * e) 64) integrator frozen := by
      by_cases rpm : s.gov.effMode = .rpm
      · rw [updateStages_rpm rpm, ramped]
        simp only [workingStages, frozenTest_eq, Option.getD_some, integrator, frozen, kp, ki, e, if_pos rpm]
      · have pressure : s.gov.effMode = .pressure ∨ s.gov.effMode = .limit := by tauto
        rw [updateStages_pressure pressure, ramped]
        simp only [workingStages, frozenTest_eq, Option.getD_some, integrator, frozen, kp, ki, e, if_neg rpm]
    refine ⟨governorUpdate_limited on stages, fun same => ?_⟩
    obtain ⟨mode, target, setpoint, -⟩ := tested.still same
    exact ⟨setpoint.trans ramped, target.trans ht, mode⟩
  · intro old rest ring six nine a0 a1 low faster notUp all
    refine governorUpdate_cavitation on ?_
    obtain ⟨p, newest, below⟩ := low
    have there : ∀ q ∈ old :: (rest ++ [s.ringEntry]), q.pIn ≠ none := by
      intro q hq
      rw [← List.cons_append, List.mem_append, List.mem_singleton] at hq
      rcases hq with hq | rfl
      · exact all q hq
      · exact Option.ne_none_iff_exists'.mpr ⟨p, newest⟩
    have suspect := (suspectTest_iff s.config.gov.cavThreshold (old :: (rest ++ [s.ringEntry])) s.ringEntry old).mpr
      ⟨there, ⟨p, newest, below⟩, faster, notUp⟩
    rw [nextRing_full ring six, suspectAfter_full six a0 a1, if_pos suspect, nine]
    decide
  · intro old rest ring six a0 a1 absent
    have zero : s.suspectAfter s.nextRing = 0 := by
      rw [nextRing_full ring six, suspectAfter_full six a0 a1, if_neg]
      rw [suspectTest_iff]
      rintro ⟨all, ⟨p, newest, -⟩, -⟩
      rcases absent with absent | ⟨q, hq, absent⟩
      · exact Option.some_ne_none p (newest.symm.trans absent)
      · exact all q (by simp at hq ⊢; tauto) absent
    rcases tested.suspect with e | e
    · exact e.trans zero
    · exact e

end Sys2Proof.Machine

/-! # Integrator and demand in range, through every operation of the governor (R72, R78 to R80, R88 to R109) -/

namespace Sys2Proof.Machine

/-! ### The governor record -/

/-- Integrator and demand within their ranges (R89). -/
def Governor.InRange (g : Governor) : Prop := g.integrator ≤ 256000 ∧ g.demand ≤ 1000

namespace Governor.InRange

theorem of_same {g h : Governor} (r : g.InRange) (integrator : h.integrator = g.integrator)
    (demand : h.demand = g.demand) : h.InRange := by
  rwa [Governor.InRange, integrator, demand]

/-- A bumpless start presets the integrator from the demand, at 256000 at most (R72). -/
theorem of_preset {g h : Governor} (r : g.InRange)
    (integrator : h.integrator = g.integrator ∨ h.integrator = min (g.demand * 256) 256000)
    (demand : h.demand = g.demand) : h.InRange := by
  obtain ⟨hi, hd⟩ := r
  unfold Governor.InRange
  omega

/-- What is let go is in range (R79, R80). -/
theorem of_zero {g : Governor} (integrator : g.integrator = 0) (demand : g.demand = 0) : g.InRange := by
  simp [Governor.InRange, integrator, demand]

theorem raises {g h : Governor} (r : g.InRange) (k : g.Raises h) : h.InRange := r.of_preset k.integrator k.demand

theorem returns {g h : Governor} (r : g.InRange) (k : g.Returns h) : h.InRange := r.of_preset k.integrator k.demand

/-- The matrix can only lower the demand (R93). -/
theorem eased {s t : State} (r : s.gov.InRange) (k : s.Eased t) : t.gov.InRange := by
  obtain ⟨hi, hd⟩ := r
  obtain ⟨-, -, -, integrator, -⟩ := k.kept
  exact ⟨integrator.trans_le hi, k.demand.trans hd⟩

theorem takeEffective {s : State} (r : s.gov.InRange) (m : GovMode) (x : Int) : (s.takeEffective m x).gov.InRange :=
  r.of_preset (takeEffective_integrator s m x) (by simp)

theorem takeGoverning {s : State} (r : s.gov.InRange) : s.takeGoverning.gov.InRange := by
  unfold State.takeGoverning
  split
  · exact r.takeEffective _ _
  · exact r.takeEffective _ _

end Governor.InRange

/-! ### The causes judged outside the update (R103, R106, R107) -/

theorem judgeOverheat_raises (s : State) : s.gov.Raises s.judgeOverheat.gov := by
  unfold State.judgeOverheat
  split
  · exact .refl _
  · dsimp only
    split_ifs
    · exact raise_raises s _ _
    · exact causeAbsent_raises s _ _
    · exact .refl _

theorem judgeTankEmpty_raises (s : State) : s.gov.Raises s.judgeTankEmpty.gov := by
  unfold State.judgeTankEmpty
  dsimp only
  split
  · exact raise_raises s _ _
  · exact causeAbsent_raises s _ _

@[simp] theorem State.judgeRelief_integrator (s : State) : s.judgeRelief.gov.integrator = s.gov.integrator := by
  simp only [State.judgeRelief]
  repeat' split
  all_goals simp

namespace Governor.InRange

theorem judgePressureSensor {s : State} (r : s.gov.InRange) : s.judgePressureSensor.gov.InRange :=
  r.raises (judgePressureSensor_raises s)

theorem judgeTankEmpty {s : State} (r : s.gov.InRange) : s.judgeTankEmpty.gov.InRange :=
  r.raises (judgeTankEmpty_raises s)

theorem judgeOverheat {s : State} (r : s.gov.InRange) : s.judgeOverheat.gov.InRange :=
  r.raises (judgeOverheat_raises s)

theorem judgeRelief {s : State} (r : s.gov.InRange) : s.judgeRelief.gov.InRange := r.of_same (by simp) (by simp)

/-! ### The governor engaged, its requests and the source (R73 to R78, R105, R109, R140) -/

theorem governorEngage {s : State} (r : s.gov.InRange) : s.governorEngage.gov.InRange := by
  unfold State.governorEngage
  dsimp only
  split
  · have taken : ({ s with gov := { s.gov.emptyRing with opMode := .idle } } : State).takeGoverning.gov.InRange :=
      takeGoverning (r.of_same (by simp) (by simp))
    exact taken.judgeOverheat.judgeTankEmpty.judgePressureSensor
  · have taken : ({ s with gov := { s.gov with opMode := .idle } } : State).takeGoverning.gov.InRange :=
      takeGoverning (r.of_same rfl rfl)
    exact taken.judgePressureSensor

theorem governorOff (s : State) : s.governorOff.gov.InRange := by
  obtain ⟨-, demand, integrator⟩ := governorOff_gov s
  exact of_zero integrator demand

theorem governorHold (s : State) : s.governorHold.gov.InRange := by
  obtain ⟨-, demand, integrator, -⟩ := governorHold_gov s
  exact of_zero integrator demand

theorem stopPrimer {s : State} (r : s.gov.InRange) : s.stopPrimer.gov.InRange := r.eased (stopPrimer_eased s)

theorem discardProtection {s : State} (r : s.gov.InRange) : s.discardProtection.gov.InRange := by
  obtain ⟨-, -, -, -, demand, integrator⟩ := discardProtection_gov s
  exact r.of_same integrator demand

theorem returnToOperator {s : State} (r : s.gov.InRange) : s.returnToOperator.gov.InRange := by
  rw [returnToOperator_eq]
  exact r.returns ((contextRestored_returns s).resumed _ _)

theorem govern {s : State} (r : s.gov.InRange) (m : GovMode) (x : Int) : (s.govern m x).gov.InRange := by
  unfold State.govern
  split_ifs
  · exact r
  · exact judgePressureSensor (r.of_preset (.inr rfl) (by simp))
  · exact r
  · exact judgePressureSensor (r.of_same (by simp) (by simp))

theorem governRequest {s : State} (r : s.gov.InRange) (m : GovMode) (x : Int) :
    (s.governRequest m x).1.gov.InRange := by
  unfold State.governRequest
  dsimp only
  generalize (if m.working then s.config.clampSetpoint m x else x) = clamped
  split_ifs
  · exact r
  · exact r
  · exact r.govern _ _
  · exact r

theorem nudgeTo {s : State} (r : s.gov.InRange) (x : Int) : (s.nudgeTo x).gov.InRange := by
  unfold State.nudgeTo
  split
  · exact r
  · exact r

theorem reclampTargets {s : State} (r : s.gov.InRange) (ms : List GovMode) : (s.reclampTargets ms).gov.InRange := by
  unfold State.reclampTargets
  dsimp only
  split
  · exact r
  · exact r

theorem handSource {s : State} (r : s.gov.InRange) : s.handSource.gov.InRange := by
  have abandoned : (if s.supply.source = .tank then s.abandonFill .abandoned else s).gov.InRange := by
    split
    · exact r.eased (abandonFill_eased s _)
    · exact r
  have stopped (t : State) (h : t.gov.InRange) :
      (if s.supply.source = .intake then t.stopPrimer else t).gov.InRange := by
    split
    · exact h.stopPrimer
    · exact h
  unfold State.handSource
  dsimp only
  exact (stopped _ abandoned).judgeTankEmpty.of_same (by simp) (by simp)

theorem changeSource {s : State} (r : s.gov.InRange) (w : WaterSource) : (s.changeSource w).gov.InRange := by
  unfold State.changeSource
  split
  · exact r
  · exact handSource (r.of_same (by simp) (by simp))

theorem judgePrimer {s : State} (r : s.gov.InRange) : s.judgePrimer.gov.InRange := by
  unfold State.judgePrimer
  split
  · exact r
  · extract_lets n
    split
    · exact r.stopPrimer.raises (causeAbsent_raises _ _ _)
    · exact r

theorem judgeChangeover {s : State} (r : s.gov.InRange) : s.judgeChangeover.gov.InRange := by
  unfold State.judgeChangeover State.completeChangeover
  split
  · exact r
  · extract_lets n
    split
    · exact handSource (r.of_same (by simp) (by simp))
    · exact r

end Governor.InRange

/-! ### The update (R88 to R92) -/

/-- The integral term is clamped where it is not frozen (R88, R89). -/
theorem workingStages_integrator {g : Governor} (h : g.integrator ≤ 256000) (kp ki rate cap : Nat) (e : Int) :
    (workingStages g kp ki rate cap e).integrator ≤ 256000 := by
  simp only [workingStages, limitStages, clampInt]
  split_ifs <;> omega

theorem updateStages_integrator {s : State} (h : s.gov.integrator ≤ 256000) :
    s.updateStages.integrator ≤ 256000 := by
  simp only [State.updateStages]
  split
  · exact workingStages_integrator h ..
  · exact workingStages_integrator h ..
  · exact workingStages_integrator h ..
  · exact Nat.zero_le _
  · exact Nat.zero_le _

/-- The demand driven is within the cap, and the tests leave it (R92, R94). -/
theorem governorUpdate_inRange {s : State} (r : s.gov.InRange) (cap : s.matrix.cap ≤ 1000) :
    s.governorUpdate.gov.InRange := by
  cases off : s.govOff
  · obtain ⟨integrator, -⟩ := r
    have driven : s.driven.InRange := ⟨updateStages_integrator integrator, (updateStages_demand s).trans cap⟩
    have tested := governorUpdate_tested off
    exact driven.of_preset tested.integrator tested.demand
  · simpa [State.governorUpdate, off] using r

end Sys2Proof.Machine

/-! # The ranges through the matrix, the sequencer, the tanks and the events (R27, R89, R93) -/

namespace Sys2Proof.Machine

/-! ### The matrix -/

theorem rangeLaw_iff (s : State) :
    s.RangeLaw ↔ s.gov.InRange ∧ s.matrix.cap ≤ 1000 ∧ s.config.rollCap ≤ 1000 := and_assoc.symm

theorem throttleCap_le {s : State} (rollCap : s.config.rollCap ≤ 1000) : s.throttleCap ≤ 1000 := by
  unfold State.throttleCap
  repeat' split
  all_goals omega

namespace State.RangeLaw

theorem governor {s : State} (h : s.RangeLaw) : s.gov.InRange := ((rangeLaw_iff s).mp h).1

theorem of_same {s t : State} (h : s.RangeLaw) (cap : t.matrix.cap = s.matrix.cap)
    (rollCap : t.config.rollCap = s.config.rollCap) (gov : t.gov = s.gov) : t.RangeLaw := by
  rwa [State.RangeLaw, cap, rollCap, gov]

/-- The horn aside, only the governor moves, and stays in range. -/
theorem of_governor {s t : State} (h : s.RangeLaw) (matrix : t.matrix.butHorn = s.matrix.butHorn)
    (config : t.config = s.config) (gov : t.gov.InRange) : t.RangeLaw := by
  obtain ⟨-, cap, rollCap⟩ := (rangeLaw_iff s).mp h
  obtain ⟨-, -, -, same, -⟩ := Matrix.fields_of_butHorn matrix
  exact (rangeLaw_iff t).mpr ⟨gov, same.trans_le cap, by rwa [config]⟩

/-- What ends with the cap judged afresh, the governor doing no more than give way (R27, R93). -/
theorem of_judged {s t : State} (h : s.RangeLaw) (eased : s.Eased t) (cap : t.CapLaw) (config : t.config = s.config) :
    t.RangeLaw := by
  obtain ⟨gov, -, rollCap⟩ := (rangeLaw_iff s).mp h
  rw [← config] at rollCap
  exact (rangeLaw_iff t).mpr ⟨gov.eased eased, (Eq.le cap).trans (throttleCap_le rollCap), rollCap⟩

variable {s : State}

theorem matrixRecompute (h : s.RangeLaw) : s.matrixRecompute.RangeLaw :=
  h.of_judged (matrixRecompute_eased s) (matrixRecompute_law s) (by simp)

theorem matrixJudge (h : s.RangeLaw) (sel : LockCond → Bool) : (s.matrixJudge sel).RangeLaw :=
  h.of_judged (matrixJudge_eased s sel) (matrixJudge_law s sel) (by simp)

theorem enterMode (h : s.RangeLaw) (m : AppMode) : (s.enterMode m).RangeLaw :=
  h.of_judged (enterMode_eased s m) (enterMode_law s m) (by simp)

/-! ### The sequencer: its operations end with the matrix taking the state they leave (R18) -/

/-- A new sequencer record that the matrix takes. -/
theorem taken (h : s.RangeLaw) (q : Sequencer) : (s.setSeq q).matrixTake.RangeLaw :=
  enterMode (h.of_same (by simp) (by simp) (by simp)) _

/-- The end of an engagement, whatever record the sequencer enters (R64). -/
theorem ended (h : s.RangeLaw) (q : Sequencer) : ((s.setSeq q).discardProtection.endSupply).matrixTake.RangeLaw := by
  have discarded : (s.setSeq q).discardProtection.gov.InRange :=
    .discardProtection (h.governor.of_same (by simp) (by simp))
  exact enterMode (h.of_governor (by simp) (by simp) (by simpa using discarded)) _

theorem enterIdle (h : s.RangeLaw) : s.enterIdle.RangeLaw := h.ended _

theorem enterHeldTimeout (h : s.RangeLaw) : s.enterHeldTimeout.RangeLaw :=
  ended (s := s.reportFault .releaseTimeout []) (h.of_same (by simp) (by simp) (by simp)) _

theorem judgeRoadShift (h : s.RangeLaw) : s.judgeRoadShift.RangeLaw := by
  have recomputed (q : Sequencer) : ({ s with seq := q }).matrixRecompute.RangeLaw :=
    matrixRecompute (s := { s with seq := q }) h
  unfold State.judgeRoadShift
  repeat' split
  · exact h
  · exact recomputed _
  · exact recomputed _
  · exact h
  · exact h

theorem enterReleasing (h : s.RangeLaw) : s.enterReleasing.RangeLaw := by
  have clutch (t : State) (ht : t.RangeLaw) : (if t.lineClear .d4 then t.enterIdle else t).RangeLaw := by
    split
    · exact ht.enterIdle
    · exact ht
  have split (t : State) (ht : t.RangeLaw) : (if t.lineClear .d3 then t.enterIdle else t.judgeRoadShift).RangeLaw := by
    split
    · exact ht.enterIdle
    · exact ht.judgeRoadShift
  unfold State.enterReleasing
  split
  · exact clutch _ (h.taken _)
  · exact split _ (h.taken _)
  · exact split _ (h.taken _)

theorem judgeIdlingDown (h : s.RangeLaw) : s.judgeIdlingDown.RangeLaw := by
  unfold State.judgeIdlingDown
  split
  · exact h.enterReleasing
  · exact h

theorem enterIdlingDown (h : s.RangeLaw) (r : SeqReason) : (s.enterIdlingDown r).RangeLaw :=
  judgeIdlingDown (enterMode (h.of_governor (by simp) (by simp) (.governorOff _)) _)

theorem faultToIdlingDown (h : s.RangeLaw) (f : SeqFault) (r : SeqReason) : (s.faultToIdlingDown f r).RangeLaw :=
  enterIdlingDown (h.of_same (by simp) (by simp) (by simp)) r

theorem enterAwaitRange (h : s.RangeLaw) : s.enterAwaitRange.RangeLaw := by
  have passed (t : State) (ht : t.RangeLaw) : (if t.lineSet .d2 then t.enterAwaitConfirm else t).RangeLaw := by
    split
    · exact ht.taken _
    · exact ht
  exact passed _ (h.taken _)

theorem enterEngaged (h : s.RangeLaw) : s.enterEngaged.RangeLaw :=
  enterMode (h.of_governor (by simp) (by simp) (.governorEngage (h.governor.of_same (by simp) (by simp)))) _

theorem enterHeldFeedback (h : s.RangeLaw) : s.enterHeldFeedback.RangeLaw :=
  enterMode (h.of_governor (by simp) (by simp) (.governorHold _)) _

theorem seqLineChange (h : s.RangeLaw) (l : Line) : (s.seqLineChange l).RangeLaw := by
  rcases s.seqLineChange_cases l with e | ⟨-, e⟩ | ⟨-, e⟩ | ⟨-, e⟩ | ⟨-, e⟩ | ⟨-, e | e⟩ <;> rw [e]
  · exact h
  · exact h.enterAwaitRange
  · exact h.taken _
  · exact h.faultToIdlingDown _ _
  · exact h.enterHeldFeedback
  · exact h.enterIdle
  · exact h.judgeRoadShift

theorem seqEngineGate (h : s.RangeLaw) : s.seqEngineGate.RangeLaw := by
  unfold State.seqEngineGate
  split
  · exact h.judgeIdlingDown
  · exact h.judgeRoadShift
  all_goals exact h

theorem seqRoadGate (h : s.RangeLaw) (made : Bool) : (s.seqRoadGate made).RangeLaw := by
  have fault : (if made then s.faultToIdlingDown .motion .motion else s).RangeLaw := by
    split
    · exact h.faultToIdlingDown _ _
    · exact h
  unfold State.seqRoadGate
  split
  · exact fault
  · exact fault
  · exact h.judgeRoadShift
  all_goals exact h

/-! ### The tanks, which hand their band and basis to the matrix and to TANK_EMPTY (R30, R106, R145) -/

theorem handTank (h : s.RangeLaw) (t : TankIx) (b : TankRun) : (s.handTank t b).RangeLaw := by
  have abandoned (p : Prop) [Decidable p] : (if p then s.abandonFill .abandoned else s).RangeLaw := by
    split
    · exact h.of_same (by simp) (by simp) (by simp)
    · exact h
  have judged (p : Prop) [Decidable p] (u : State) (hu : u.RangeLaw) :
      (if p then u else u.matrixJudge (onTank t)).RangeLaw := by
    split
    · exact hu
    · exact hu.matrixJudge _
  have emptied (p : Prop) [Decidable p] (u : State) (hu : u.RangeLaw) :
      (if p then u.judgeTankEmpty else u).RangeLaw := by
    split
    · exact hu.of_governor (by simp) (by simp) hu.governor.judgeTankEmpty
    · exact hu
  exact emptied _ _ (judged _ _ (abandoned _))

theorem tanksAtRoadGate (h : s.RangeLaw) (was : Bool) : (s.tanksAtRoadGate was).RangeLaw := by
  have set (t : State) (i : TankIx) (r : TankRun) (ht : t.RangeLaw) : (t.setTank i r).RangeLaw :=
    ht.of_same (by simp) (by simp) (by simp)
  have travel (t : State) (i : TankIx) (ht : t.RangeLaw) : (t.enterTravel i).RangeLaw := by
    unfold State.enterTravel
    dsimp only
    split
    · exact handTank (set t i _ ht) _ _
    · exact set t i _ ht
    · exact set t i _ ht
    all_goals exact ht
  have settle (t : State) (i : TankIx) (ht : t.RangeLaw) : (t.enterSettling i).RangeLaw :=
    ht.of_same (by simp) (by simp) (by simp)
  unfold State.tanksAtRoadGate
  repeat' split
  · exact h
  · exact foldl_keeps State.RangeLaw _ _ s h travel
  · exact foldl_keeps State.RangeLaw _ _ s h settle
  · exact h

theorem tankUpdate (h : s.RangeLaw) (t : TankIx) : (s.tankUpdate t).RangeLaw := by
  have risen (u : State) (hu : u.RangeLaw) : (if t = .t0 then u.judgeRise else u).RangeLaw := by
    split
    · exact hu.of_same (by simp) (by simp) (by simp)
    · exact hu
  have filled (u : State) (hu : u.RangeLaw) : (if t = .t0 then u.judgeFillDone else u).RangeLaw := by
    split
    · exact hu.of_same (by simp) (by simp) (by simp)
    · exact hu
  have settled : ((s.setTank t (s.workLevel (s.config.tanks.get t) (s.tanks.get t))).settleVolume t).RangeLaw :=
    h.of_same (by simp) (by simp) (by simp)
  unfold State.tankUpdate
  dsimp only
  split
  · exact h
  · exact filled _ (handTank (risen _ settled) t _)

theorem settleExpiry (h : s.RangeLaw) (t : TankIx) : (s.settleExpiry t).RangeLaw := by
  unfold State.settleExpiry
  dsimp only
  repeat' split
  · exact handTank (h.of_same (by simp) (by simp) (by simp)) _ _
  · exact h.of_same (by simp) (by simp) (by simp)
  · exact h

/-! ### The events of the apparatus, the store and the timers -/

theorem judgeComplete (h : s.RangeLaw) : s.judgeComplete.RangeLaw := by
  rcases judgeComplete_cases s with ⟨-, e⟩ | ⟨-, -, e⟩ <;> rw [e]
  · exact h
  · have decided : s.completed.startDecision.judgeRoll.RangeLaw := by
      refine h.of_same ?_ ?_ ?_ <;> simp [State.judgeRoll]
    exact decided.enterMode _

theorem engineGateEnd (h : s.RangeLaw) : s.engineGateEnd.RangeLaw := by
  have gated : s.engineGated.RangeLaw := h
  rw [engineGateEnd_eq]
  exact (gated.seqEngineGate.matrixJudge _).judgeComplete

theorem roadGateEnd (h : s.RangeLaw) : s.roadGateEnd.RangeLaw := by
  have limits : s.roadGated.judgeRoll.judgeOverspeed.RangeLaw :=
    h.of_same (by simp [State.judgeRoll]) (by simp) (by simp)
  rw [roadGateEnd_eq]
  exact (((limits.seqRoadGate _).matrixJudge _).tanksAtRoadGate _).judgeComplete

theorem flowGateEnd (h : s.RangeLaw) (m : Meter) : (s.flowGateEnd m).RangeLaw :=
  judgeComplete (h.of_same (s := s) rfl rfl rfl)

theorem lineSample (h : s.RangeLaw) (raw : BitVec 12) : (s.lineSample raw).RangeLaw := by
  have changed (t : State) (ls : List Line) (ht : t.RangeLaw) : (t.linesChanged ls).RangeLaw := by
    unfold State.linesChanged
    split
    · exact ht
    · exact matrixJudge (foldl_keeps State.RangeLaw _ _ t ht fun _ l hu => hu.seqLineChange l) _
  have sampled : (s.linesSampled raw (s.changedLines raw)).RangeLaw := by
    refine h.of_same ?_ ?_ ?_ <;> simp [State.linesSampled]
  rw [lineSample_eq]
  exact (changed _ _ sampled).judgeComplete

theorem windowExpiry (h : s.RangeLaw) (st : SeqState) (w : StepWindow) (f : SeqFault) :
    (s.windowExpiry st w f).RangeLaw := by
  unfold State.windowExpiry
  split
  · exact h.faultToIdlingDown _ _
  · exact h

theorem releaseExpiry (h : s.RangeLaw) : s.releaseExpiry.RangeLaw := by
  unfold State.releaseExpiry
  split
  · exact h.enterHeldTimeout
  · exact h

theorem temperatureSample (h : s.RangeLaw) (c : Code) : (s.temperatureSample c).RangeLaw := by
  unfold State.temperatureSample
  dsimp only
  split
  · exact h.of_same (by simp) (by simp) (by simp)
  · exact matrixJudge (h.of_governor (by simp) (by simp)
      (Governor.InRange.judgeRelief (h.governor.of_same (by simp) (by simp))).judgeOverheat) _

/-- A pressure sample has A0's status, a running primer and a changeover judged (R107, R114, R142). -/
theorem pressureSample (h : s.RangeLaw) (c0 c1 : Code) : (s.pressureSample c0 c1).RangeLaw := by
  refine h.of_governor (by simp) (by simp) ?_
  have sensed (p : Prop) [Decidable p] (t : State) (gov : t.gov = s.gov) :
      (if p then t else t.judgePressureSensor).gov.InRange := by
    have same : t.gov.InRange := gov ▸ h.governor
    split
    · exact same
    · exact same.judgePressureSensor
  unfold State.pressureSample
  exact ((sensed _ _ (by simp)).judgePrimer).judgeChangeover

theorem lockDelayExpiry (h : s.RangeLaw) (i : EntryIx) : (s.lockDelayExpiry i).RangeLaw := by
  unfold State.lockDelayExpiry
  repeat' split
  · exact h
  · exact matrixRecompute (h.of_same (by simp) (by simp) (by simp))
  · exact h

theorem rollOverspeedExpiry (h : s.RangeLaw) : s.rollOverspeedExpiry.RangeLaw := by
  unfold State.rollOverspeedExpiry
  split
  · exact h
  · exact of_governor (s := { s with matrix := { s.matrix with overspeed := true, overspeedTimer := none } }) h
      (by simp) (by simp) (h.governor.of_same (by simp) (by simp))

theorem governorUpdate (h : s.RangeLaw) : s.governorUpdate.RangeLaw := by
  obtain ⟨gov, cap, -⟩ := (rangeLaw_iff s).mp h
  exact h.of_governor (by simp) (by simp) (governorUpdate_inRange gov cap)

theorem primeExpiry (h : s.RangeLaw) : s.primeExpiry.RangeLaw := by
  unfold State.primeExpiry
  split
  · exact h
  · exact h

theorem event {c : Instr} {f : State → State} (e : eventOf c = some f) (h : s.RangeLaw) : (f s).RangeLaw := by
  cases c <;> cases e
  case engineSpeedGateEnd => exact h.engineGateEnd
  case roadSpeedGateEnd => exact h.roadGateEnd
  case flowGateEnd m => exact h.flowGateEnd m
  case lineSample raw => exact h.lineSample raw
  case shiftWindowExpiry | rangeWindowExpiry | clutchWindowExpiry | confirmWindowExpiry => exact h.windowExpiry _ _ _
  case releaseWindowExpiry => exact h.releaseExpiry
  case temperatureSample c => exact h.temperatureSample c
  case pressureSample c0 c1 => exact h.pressureSample c0 c1
  case lockoutDelayExpiry i => exact h.lockDelayExpiry i
  case tankUpdate t => exact h.tankUpdate t
  case settleTimerExpiry t => exact h.settleExpiry t
  case governorUpdate => exact h.governorUpdate
  case primeTimeExpiry => exact h.primeExpiry
  case rollOverspeedExpiry => exact h.rollOverspeedExpiry
  all_goals exact h.of_same (by simp) (by simp) (by simp)

end State.RangeLaw

end Sys2Proof.Machine

/-! # The ranges through every request, and the claim (R27, R66, R89) -/

namespace Sys2Proof.Machine

namespace State.RangeLaw

variable {s : State}

/-! ### The requests of the matrix and the sequencer -/

theorem writeEntry (h : s.RangeLaw) (i : EntryIx) (new : Option LockoutEntry) : (s.writeEntry i new).RangeLaw := by
  unfold State.writeEntry
  split
  · exact matrixRecompute (h.of_same (by simp) (by simp) (by simp))
  · exact matrixRecompute (h.of_same (by simp) (by simp) (by simp))

theorem answerLockoutSet (h : s.RangeLaw) (p : List Byte) : (answerLockoutSet p s).1.RangeLaw := by
  have set (i : EntryIx) (e : Option LockoutEntry) : (s.lockoutSet i e).1.RangeLaw := by
    unfold State.lockoutSet
    repeat' split
    · exact h
    · exact h
    · exact h.writeEntry i _
  unfold Machine.answerLockoutSet
  repeat' split
  · exact h
  · exact h
  · exact set _ _
  · exact set _ _
  · exact h

theorem latchClearOne (h : s.RangeLaw) (i : EntryIx) : (s.latchClearOne i).1.RangeLaw := by
  unfold State.latchClearOne
  split
  case h_2 => exact matrixRecompute (h.of_same (by simp) (by simp) (by simp))
  all_goals exact h

theorem latchClearAll (h : s.RangeLaw) : s.latchClearAll.1.RangeLaw := by
  have cleared := foldl_keeps State.RangeLaw State.clearLatch s.latchedEntries s h fun _ i ht =>
    ht.of_same (by simp) (by simp) (by simp)
  exact matrixRecompute (foldl_keeps State.RangeLaw State.judgeLock s.latchedEntries _ cleared fun _ i ht =>
    ht.of_same (by simp) (by simp) (by simp))

theorem answerLatchClear (h : s.RangeLaw) (p : List Byte) : (answerLatchClear p s).1.RangeLaw := by
  unfold Machine.answerLatchClear
  repeat' split
  · exact h.latchClearAll
  · exact h
  · exact h
  · exact h.latchClearOne _
  · exact h

theorem answerEngage (h : s.RangeLaw) (p : List Byte) : (answerEngage p s).1.RangeLaw := by
  have engage (roll : Bool) : (s.engage roll).1.RangeLaw := by
    unfold State.engage
    repeat' split
    · exact h
    · exact h.taken _
    · exact h.taken _
    · exact h
  unfold Machine.answerEngage
  repeat' split
  · exact engage false
  · exact engage true
  · exact h
  · exact h

theorem answerConfirm (h : s.RangeLaw) (p : List Byte) : (answerConfirm p s).1.RangeLaw := by
  have source : s.confirmSource.1.RangeLaw := by
    unfold State.confirmSource
    split
    · exact h
    · exact h.enterEngaged
  unfold Machine.answerConfirm
  split
  · split
    · exact source
    · split
      · exact source
      · exact h
    all_goals exact h
  · exact h

theorem answerDisengage (h : s.RangeLaw) (p : List Byte) : (answerDisengage p s).1.RangeLaw := by
  unfold Machine.answerDisengage
  split
  · split
    · exact h
    · exact h
    · exact h
    · exact enterIdlingDown (h.of_same (by simp) (by simp) (by simp)) _
    all_goals exact h.enterIdlingDown _
  · exact h

/-! ### The tank unit's requests, and PARAM_SET -/

theorem configureTank (h : s.RangeLaw) (t : TankIx) (c : TankSettings) : (s.configureTank t c).RangeLaw := by
  unfold State.configureTank State.restartTank
  dsimp only
  split
  · exact handTank (h.of_same (by simp) (by simp [WorkingConfig.setTank]) (by simp)) _ _
  · exact handTank (h.of_same (by simp) (by simp [WorkingConfig.setTank]) (by simp)) _ _

theorem answerTankSet (h : s.RangeLaw) (p : List Byte) : (answerTankSet p s).1.RangeLaw := by
  have set (t : TankIx) (c : TankSettings) : (s.tankSet t c).1.RangeLaw := by
    unfold State.tankSet
    dsimp only
    repeat' split
    case h_2 => exact h.configureTank _ _
    all_goals exact h
  unfold Machine.answerTankSet
  repeat' split
  · exact h
  · exact h
  · exact set _ _
  · exact h

theorem answerTankTable (h : s.RangeLaw) (p : List Byte) : (answerTankTable p s).1.RangeLaw := by
  have set (t : TankIx) (table : List Breakpoint) : (s.tankTable t table).1.RangeLaw := by
    unfold State.tankTable
    repeat' split
    case h_2 => exact h.configureTank _ _
    all_goals exact h
  unfold Machine.answerTankTable
  repeat' split
  case h_2.isFalse => exact set _ _
  all_goals exact h

/-- A value clamped to the range of its parameter keeps roll_cap within 1000 (R168). -/
theorem parameterWritten (h : s.RangeLaw) (p : Param) (x : Int) :
    State.RangeLaw { s with config := s.config.setParam p (paramClamp p x) } := by
  obtain ⟨gov, cap, rollCap⟩ := (rangeLaw_iff s).mp h
  refine (rangeLaw_iff _).mpr ⟨gov, cap, ?_⟩
  by_cases roll : p = .rollCap
  · subst roll
    obtain ⟨-, hi⟩ := paramClamp_range .rollCap x
    exact Int.toNat_le.mpr hi
  · exact (setParam_rollCap s.config _ roll).trans_le rollCap

/-- An owner goes to the matrix or to the governor, or moves nothing that the law bounds (R169). -/
theorem ownerActs (h : s.RangeLaw) (p : Param) : (s.ownerActs p).RangeLaw := by
  cases p
  case idleRpm | rollCap => exact h.matrixRecompute
  case rollCeiling => exact matrixRecompute (h.of_same (s := s) rfl rfl rfl)
  case tempCut | tempReliefOn =>
    exact h.of_governor (by simp [State.ownerActs]) (by simp [State.ownerActs]) h.governor.judgeRelief.judgeOverheat
  case pSetMax | rpmSetMax =>
    exact h.of_governor (by simp [State.ownerActs]) (by simp [State.ownerActs]) (h.governor.reclampTargets _)
  all_goals exact h

theorem writeParam (h : s.RangeLaw) (p : Param) (x : Int) : (s.writeParam p (paramClamp p x)).RangeLaw := by
  unfold State.writeParam
  split
  · exact h
  · exact (h.parameterWritten p x).ownerActs p

theorem answerParamSet (h : s.RangeLaw) (p : List Byte) : (answerParamSet p s).1.RangeLaw := by
  unfold Machine.answerParamSet State.paramSet
  repeat' split
  case h_2.isFalse.isFalse => exact h.writeParam _ _
  all_goals exact h

/-! ### The governor's requests and SOURCE -/

theorem answerGovern (h : s.RangeLaw) (p : List Byte) : (answerGovern p s).1.RangeLaw := by
  refine h.of_governor (by simp) (by simp) ?_
  unfold Machine.answerGovern
  repeat' split
  · exact h.governor
  · exact h.governor.governRequest _ _
  · exact h.governor

theorem answerNudge (h : s.RangeLaw) (p : List Byte) : (answerNudge p s).1.RangeLaw := by
  refine h.of_governor (by simp) (by simp) ?_
  have nudged (up : Bool) (n : Nat) : (s.nudgeRequest up n).1.gov.InRange := by
    unfold State.nudgeRequest
    split_ifs
    · exact h.governor
    · exact h.governor
    · exact h.governor.nudgeTo _
  unfold Machine.answerNudge
  repeat' split
  · exact nudged _ _
  · exact nudged _ _
  · exact h.governor
  · exact h.governor

theorem answerResume (h : s.RangeLaw) (p : List Byte) : (answerResume p s).1.RangeLaw := by
  refine h.of_governor (by simp) (by simp) ?_
  unfold Machine.answerResume
  repeat' split
  · exact h.governor
  · exact h.governor
  · exact h.governor.returnToOperator
  · exact h.governor

theorem answerPrime (h : s.RangeLaw) (p : List Byte) : (answerPrime p s).1.RangeLaw := by
  refine h.of_governor (by simp) (by simp) ?_
  have start : s.primeStart.1.gov.InRange := by
    unfold State.primeStart
    split_ifs
    · exact h.governor
    · exact h.governor
    · exact h.governor
  unfold Machine.answerPrime
  repeat' split
  · exact start
  · exact h.governor.stopPrimer
  · exact h.governor
  · exact h.governor

theorem answerSource (h : s.RangeLaw) (p : List Byte) : (answerSource p s).1.RangeLaw := by
  refine h.of_governor (by simp) (by simp) ?_
  have engaged (w : WaterSource) : (s.sourceEngaged w).1.gov.InRange := by
    unfold State.sourceEngaged
    repeat' split
    case h_3.isFalse | h_4.isFalse => exact h.governor.changeSource _
    all_goals exact h.governor
  have requested (w : WaterSource) : (s.sourceRequest w).1.gov.InRange := by
    unfold State.sourceRequest
    repeat' split
    case h_5 | h_6 => exact engaged w
    case h_4.isTrue | h_4.isFalse => exact h.governor
    all_goals exact h.governor.changeSource w
  unfold Machine.answerSource
  repeat' split
  · exact h.governor
  · exact requested _
  · exact h.governor

/-! ### Every command and every step -/

theorem answerKind (h : s.RangeLaw) (kind : Byte) (p : List Byte) : (answerKind kind p s).1.RangeLaw := by
  generalize e : Machine.answerKind kind p = answer
  unfold Machine.answerKind at e
  split at e <;> subst e
  case h_3 =>
    unfold answerGate
    repeat' split
    all_goals exact h
  case h_5 => exact h.answerLockoutSet p
  case h_7 => exact h.answerLatchClear p
  case h_9 => exact h.answerEngage p
  case h_10 => exact h.answerConfirm p
  case h_11 => exact h.answerDisengage p
  case h_12 => exact h.answerGovern p
  case h_13 => exact h.answerNudge p
  case h_14 => exact h.answerResume p
  case h_15 => exact h.answerPrime p
  case h_18 => exact h.answerTankTable p
  case h_19 => exact h.answerTankSet p
  case h_20 => exact h.answerSource p
  case h_22 => exact h.answerParamSet p
  all_goals
    exact h.of_governor (by simp [answerUnknown]) (by simp [answerUnknown])
      (h.governor.of_same (by simp [answerUnknown]) (by simp [answerUnknown]))

end State.RangeLaw

/-- Start-up lets the throttle and the cap go, and loads roll_cap within its range (R167, R172). -/
theorem startUp_rangeLaw (s : State) (found : List (Nat × StoreWord)) : (s.startUp found).RangeLaw := by
  obtain ⟨params, -⟩ := loadStore_inRange (writeCells s.store.cells found)
  have hi := (paramClamp_range .rollCap ((loadStore (writeCells s.store.cells found)).config.param .rollCap)).2
  rw [params .rollCap] at hi
  exact (rangeLaw_iff _).mpr ⟨.of_zero rfl rfl, Nat.zero_le _, Int.ofNat_le.mp hi⟩

/-- Settles O14: the cap moves only to what R27 gives, at most 1000 or roll_cap, the demand only gives way to it or is
driven within it, and the integrator is preset, clamped or let go within its range (R72, R79, R80, R88). -/
theorem rangeLawIsKept : Obligations.RangeLawIsKept := by
  intro s t h e
  refine step_keeps (P := State.RangeLaw) (fun _ _ h => h) (fun _ _ _ h e => ?_) h e
  exact exec_keeps (P := State.RangeLaw) (fun _ _ _ h => h) (fun s found _ => startUp_rangeLaw s found)
    (fun kind p _ h => h.answerKind kind p) (fun _ ef _ h => h.event ef) h e

end Sys2Proof.Machine

/-! # The saved context and the horn, through the governor and the causes (R40, R41, R96, R97, R99) -/

namespace Sys2Proof.Machine

/-! ### What the two laws are worked from -/

/-- The set of active causes, whether a context is saved, the horn with its mute, and all that a horn condition is
worked from stand as they did (R40, R96). -/
structure State.Still (s t : State) : Prop where
  active : ∀ c, (t.gov.causes.get c).active = (s.gov.causes.get c).active
  saved : t.gov.saved.isSome = s.gov.saved.isSome
  matrix : t.matrix = s.matrix
  entries : t.config.entries = s.config.entries
  band : (t.tanks.get .t0).band = (s.tanks.get .t0).band
  source : t.supply.source = s.supply.source
  seq : t.seq.state = s.seq.state

/-- What leaves the governor leaves its part of the laws. -/
theorem State.Still.of_gov {s t : State} (gov : t.gov = s.gov) (matrix : t.matrix = s.matrix)
    (entries : t.config.entries = s.config.entries) (band : (t.tanks.get .t0).band = (s.tanks.get .t0).band)
    (source : t.supply.source = s.supply.source) (seq : t.seq.state = s.seq.state) : s.Still t :=
  ⟨fun c => by rw [gov], by rw [gov], matrix, entries, band, source, seq⟩

/-- What moves the governor alone, and there neither the set of causes nor whether a context is saved. -/
theorem State.Still.of_governor {s t : State} (active : ∀ c, (t.gov.causes.get c).active = (s.gov.causes.get c).active)
    (saved : t.gov.saved.isSome = s.gov.saved.isSome) (matrix : t.matrix = s.matrix) (config : t.config = s.config)
    (tanks : t.tanks = s.tanks) (supply : t.supply = s.supply) (seq : t.seq = s.seq) : s.Still t :=
  ⟨active, saved, matrix, by rw [config], by rw [tanks], by rw [supply], by rw [seq]⟩

theorem noCauses_congr {g h : Governor} (active : ∀ c, (h.causes.get c).active = (g.causes.get c).active) :
    h.noCauses = g.noCauses := by
  simp only [Governor.noCauses, active]

theorem State.Still.conditions {s t : State} (k : s.Still t) :
    t.hornCondition = s.hornCondition ∧ t.tankHornCondition = s.tankHornCondition := by
  obtain ⟨active, -, matrix, entries, band, source, seq⟩ := k
  have tank : t.tankHornCondition = s.tankHornCondition := by
    simp only [State.tankHornCondition, band, source, seq]
  have effects : t.effectApplies hornBit = s.effectApplies hornBit := by
    funext i
    simp only [State.effectApplies, State.lockHolds, entries, matrix]
  exact ⟨by simp only [State.hornCondition, effects, noCauses_congr active, matrix, tank], tank⟩

/-- Both laws outlast what leads from the first state to the second (R40, R41, R96). -/
structure State.Minds (s t : State) : Prop where
  context : s.ContextLaw → t.ContextLaw
  horn : s.HornLaw → t.HornLaw

namespace State.Minds

theorem refl (s : State) : s.Minds s := ⟨id, id⟩

theorem trans {s t u : State} (h : s.Minds t) (k : t.Minds u) : s.Minds u :=
  ⟨k.context ∘ h.context, k.horn ∘ h.horn⟩

theorem of_still {s t : State} (k : s.Still t) : s.Minds t := by
  obtain ⟨any, tank⟩ := k.conditions
  refine ⟨fun h => ?_, fun h => ?_⟩
  · rwa [State.ContextLaw, k.saved, noCauses_congr k.active]
  · rwa [State.HornLaw, any, tank, k.matrix]

/-- What ends with the horn judged afresh. -/
theorem of_judged {s t : State} (context : s.ContextLaw → t.ContextLaw) (horn : t.HornLaw) : s.Minds t :=
  ⟨context, fun _ => horn⟩

end State.Minds

/-- The horn judged meets its law, whatever it was before (R40, R41). -/
theorem judgeHorn_law (s : State) : s.judgeHorn.HornLaw := by
  have any : s.judgeHorn.hornCondition = s.hornCondition := rfl
  have tank : s.judgeHorn.tankHornCondition = s.tankHornCondition := rfl
  rw [State.HornLaw, any, tank]
  simp [State.judgeHorn]

theorem hornArises_law (s : State) : s.hornArises.HornLaw := judgeHorn_law _

theorem noCauses_false {g : Governor} {c : Cause} (here : (g.causes.get c).active = true) : g.noCauses = false := by
  rw [Bool.eq_false_iff, ne_eq, noCauses_iff]
  exact fun none => by simp [none c] at here

/-! ### Causes raised and found absent (R97, R99) -/

theorem setCause_active {s : State} {c : Cause} {r : CauseRecord} (same : r.active = (s.gov.causes.get c).active)
    (d : Cause) : ((s.setCause c r).gov.causes.get d).active = (s.gov.causes.get d).active := by
  rw [State.setCause_gov, PerCause.get_set]
  split
  · next own => rw [own, same]
  · rfl

theorem causeAbsent_still (s : State) (c : Cause) (v : List Byte) : s.Still (s.causeAbsent c v) := by
  refine .of_governor (fun d => ?_) ?_ ?_ ?_ ?_ ?_ ?_
  · unfold State.causeAbsent
    dsimp only
    split
    · exact setCause_active (s := s) (c := c) (r := { s.gov.causes.get c with present := false }) rfl d
    · rfl
  · rw [State.causeAbsent_gov]
  all_goals simp

theorem takeEffective_still (s : State) (m : GovMode) (x : Int) : s.Still (s.takeEffective m x) := by
  apply State.Still.of_governor <;> simp

theorem settleRaised_still (s : State) (c : Cause) : s.Still (s.settleRaised c) := by
  apply State.Still.of_governor <;> simp

/-- The first cause saves the operator's request, and a further one finds it saved (R96, R97). -/
theorem joined_context {s : State} (c : Cause) (v : List Byte) (h : s.ContextLaw) : (s.joined c v).ContextLaw := by
  have some : (s.joined c v).gov.noCauses = false := noCauses_false (c := c) (by simp [joined_gov])
  rw [State.ContextLaw, some, joined_gov]
  split
  · rfl
  · next others => simpa [State.ContextLaw, others] using h

theorem raiseCause_minds (s : State) (c : Cause) (v : List Byte) : s.Minds (s.raiseCause c v) := by
  cases off : s.govOff
  · cases here : (s.gov.causes.get c).active
    · rw [raiseCause_joins v off here]
      exact (State.Minds.of_judged (joined_context c v) (hornArises_law _)).trans (.of_still (settleRaised_still _ c))
    · rw [raiseCause_again v off here]
      split
      · exact .refl s
      · refine .of_still (.of_governor (fun d => ?_) ?_ ?_ ?_ ?_ ?_ ?_)
        · exact setCause_active here.symm d
        all_goals simp
  · simpa [State.raiseCause, off] using State.Minds.refl s

theorem causeAbsent_minds (s : State) (c : Cause) (v : List Byte) : s.Minds (s.causeAbsent c v) :=
  .of_still (causeAbsent_still s c v)

theorem judgePressureSensor_minds (s : State) : s.Minds s.judgePressureSensor := by
  unfold State.judgePressureSensor
  repeat' split
  · exact causeAbsent_minds s _ _
  · exact raiseCause_minds s _ _
  · exact .refl s

theorem raise_minds (s : State) (c : Cause) (v : List Byte) : s.Minds (s.raise c v) := by
  unfold State.raise
  dsimp only
  split
  · exact raiseCause_minds s c v
  · exact (raiseCause_minds s c v).trans (judgePressureSensor_minds _)

theorem judgeOverheat_minds (s : State) : s.Minds s.judgeOverheat := by
  unfold State.judgeOverheat
  split
  · exact .refl s
  · dsimp only
    split_ifs
    · exact raise_minds s _ _
    · exact causeAbsent_minds s _ _
    · exact .refl s

theorem judgeTankEmpty_minds (s : State) : s.Minds s.judgeTankEmpty := by
  unfold State.judgeTankEmpty
  dsimp only
  split
  · exact raise_minds s _ _
  · exact causeAbsent_minds s _ _

theorem judgeRelief_minds (s : State) : s.Minds s.judgeRelief := by
  have gov : ∃ b, s.judgeRelief.gov = { s.gov with reliefOpen := b } := by
    cases temp : s.casingTemp with
    | none => exact ⟨s.gov.reliefOpen, by simp [State.judgeRelief, temp]⟩
    | some t => exact ⟨_, State.judgeRelief_gov temp⟩
  obtain ⟨b, gov⟩ := gov
  refine .of_still ?_
  apply State.Still.of_governor <;> simp [gov]

/-! ### The governor engaged, held, off and in IDLE (R78 to R80, R111) -/

theorem takeGoverning_minds (s : State) : s.Minds s.takeGoverning := by
  unfold State.takeGoverning
  split <;> exact .of_still (takeEffective_still _ _ _)

@[simp] theorem State.effectiveRest_protection (s : State) (m : GovMode) :
    (s.effectiveRest m).gov.causes = s.gov.causes ∧ (s.effectiveRest m).gov.saved = s.gov.saved := by
  simp only [State.effectiveRest]
  split <;> simp

theorem governorOff_minds (s : State) : s.Minds s.governorOff := by
  refine State.Minds.trans (.of_still ?_) (judgePressureSensor_minds _)
  apply State.Still.of_governor <;> simp

theorem governorHold_minds (s : State) : s.Minds s.governorHold := by
  refine State.Minds.trans (.of_still ?_) (judgePressureSensor_minds _)
  apply State.Still.of_governor <;> simp

theorem governorEngage_minds (s : State) : s.Minds s.governorEngage := by
  have idle (g : Governor) (causes : g.causes = s.gov.causes) (saved : g.saved = s.gov.saved) :
      s.Minds ({ s with gov := { g with opMode := .idle } } : State).takeGoverning := by
    refine State.Minds.trans (.of_still ?_) (takeGoverning_minds _)
    apply State.Still.of_governor <;> simp [causes, saved]
  unfold State.governorEngage
  dsimp only
  split
  · exact (idle _ (by simp) (by simp)).trans ((judgeOverheat_minds _).trans ((judgeTankEmpty_minds _).trans
      (judgePressureSensor_minds _)))
  · exact (idle _ rfl rfl).trans (judgePressureSensor_minds _)

theorem stopPrimer_still (s : State) : s.Still s.stopPrimer := by
  obtain ⟨elapsed, gov⟩ := stopPrimer_gov s
  apply State.Still.of_governor <;> simp [gov]

/-- With nothing in the set and nothing saved the law of the context holds (R96, R111). -/
theorem contextLaw_of_none {s : State} (out : ∀ c, (s.gov.causes.get c).active = false) (saved : s.gov.saved = none) :
    s.ContextLaw := by
  rw [State.ContextLaw, saved, (noCauses_iff s.gov).mpr out]
  rfl

theorem discardProtection_context (s : State) : s.discardProtection.ContextLaw := by
  obtain ⟨saved, -, causes, -⟩ := discardProtection_gov s
  exact contextLaw_of_none (fun c => by simp [causes, noCause]) saved

/-! ### Control returned to the operator (R99, R105, R109) -/

theorem contextRestored_out (s : State) (c : Cause) : (s.contextRestored.gov.causes.get c).active = false := by
  simpa [State.contextRestored] using allCausesLeave_out s c

theorem returnToOperator_minds (s : State) : s.Minds s.returnToOperator := by
  rw [returnToOperator_eq]
  refine State.Minds.trans (.of_judged (fun _ => ?_) (judgeHorn_law _)) (judgePressureSensor_minds _)
  exact contextLaw_of_none (fun c => by simpa using contextRestored_out s c) (by simp [State.contextRestored])

/-- Where another cause stays in the set, so does the context saved with the first (R99). -/
theorem causeLeaves_context {s : State} {c d : Cause} (other : d ≠ c) (here : (s.gov.causes.get d).active = true)
    (h : s.ContextLaw) : (s.causeLeaves c).ContextLaw := by
  have saved : (s.causeLeaves c).gov.saved = s.gov.saved := by
    unfold State.causeLeaves
    split <;> simp
  have stays : ((s.causeLeaves c).gov.causes.get d).active = true := by
    rw [causeLeaves_get, if_neg other, here]
  rw [State.ContextLaw, saved, noCauses_false stays, ← noCauses_false here]
  exact h

theorem notOnly_iff (g : Governor) : g.onlyOverpressure = false ↔
    ∃ c, c ≠ .overpressure ∧ (g.causes.get c).active = true := by
  simp [Governor.onlyOverpressure, Cause.mem_all]

theorem overpressureReturns_minds (s : State) : s.Minds s.overpressureReturns := by
  unfold State.overpressureReturns
  split
  · exact returnToOperator_minds s
  · next others =>
    obtain ⟨d, other, here⟩ := (notOnly_iff s.gov).mp (by simpa using others)
    exact .of_judged (fun h => causeLeaves_context other here h) (judgeHorn_law _)

/-! ### The update (R84, R94, R100 to R105) -/

theorem judgeReturn_minds (s : State) : s.Minds s.judgeReturn := by
  have counted (run : Nat) : s.Minds { s with gov := { s.gov with returnRun := run } } := .of_still (.of_governor
    (fun _ => rfl) rfl rfl rfl rfl rfl rfl)
  unfold State.judgeReturn
  dsimp only
  split_ifs
  · exact counted _
  · exact (counted _).trans (overpressureReturns_minds _)
  · exact (counted _).trans (causeAbsent_minds _ _ _)
  · exact .refl s

theorem raisingTests_minds (s : State) (m : GovMode) : s.Minds (s.raisingTests m) := by
  have cavitation : s.Minds s.judgeCavitation := by
    unfold State.judgeCavitation
    dsimp only
    split_ifs
    · exact raise_minds s _ _
    · exact causeAbsent_minds s _ _
    · exact .refl s
  have runs (t : State) : t.Minds t.primeRuns := .of_still (.of_governor (fun _ => rfl) rfl rfl rfl rfl rfl rfl)
  have prime (t : State) : t.Minds t.judgePrimeLost := by
    unfold State.judgePrimeLost
    dsimp only
    split_ifs
    · exact raise_minds t _ _
    · exact causeAbsent_minds t _ _
    · exact .refl t
  have limit (t : State) : t.Minds (t.judgeOverLimit m) := by
    have counted (run : Nat) : t.Minds { t with gov := { t.gov with overRun := run } } := .of_still (.of_governor
      (fun _ => rfl) rfl rfl rfl rfl rfl rfl)
    unfold State.judgeOverLimit
    dsimp only
    split
    · exact (counted _).trans (raise_minds _ _ _)
    · exact counted _
  exact ((cavitation.trans (runs _)).trans (prime _)).trans (limit _)

theorem governorUpdate_minds (s : State) : s.Minds s.governorUpdate := by
  cases off : s.govOff
  · rw [governorUpdate_eq off, protectionTests_eq]
    obtain ⟨primer, elapsed, gov⟩ := primerAtDemand_gov s.driveUpdate
    have causes : s.driveUpdate.primerAtDemand.gov.causes = s.gov.causes := by rw [gov]; rfl
    have saved : s.driveUpdate.primerAtDemand.gov.saved = s.gov.saved := by rw [gov]; rfl
    have driven : s.Still s.driveUpdate.primerAtDemand.cavitationCounts := by
      apply State.Still.of_governor <;> simp [State.cavitationCounts, causes, saved]
    exact (State.Minds.of_still driven).trans ((raisingTests_minds _ _).trans (judgeReturn_minds _))
  · simpa [State.governorUpdate, off] using State.Minds.refl s

end Sys2Proof.Machine

/-! # The saved context and the horn, through the matrix, the sequencer and the tanks (R18, R30, R40, R41, R106) -/

namespace Sys2Proof.Machine

/-! ### The matrix, which judges the horn last (R40) -/

theorem matrixRecompute_hornLaw (s : State) : s.matrixRecompute.HornLaw := judgeHorn_law _

theorem matrixJudge_hornLaw (s : State) (sel : LockCond → Bool) : (s.matrixJudge sel).HornLaw := judgeHorn_law _

theorem enterMode_hornLaw (s : State) (m : AppMode) : (s.enterMode m).HornLaw := by
  unfold State.enterMode
  split
  · exact matrixRecompute_hornLaw s
  · exact matrixJudge_hornLaw _ _

/-- The matrix leaves the protection record (R93, R114). -/
theorem State.Eased.context {s t : State} (k : s.Eased t) (h : s.ContextLaw) : t.ContextLaw := by
  obtain ⟨-, -, -, -, -, saved, causes⟩ := k.kept
  rwa [State.ContextLaw, saved, noCauses_congr (g := s.gov) (h := t.gov) fun c => by rw [causes]]

theorem State.ContextLaw.of_gov {s t : State} (h : s.ContextLaw) (gov : t.gov = s.gov) : t.ContextLaw := by
  rwa [State.ContextLaw, gov]

namespace State.Minds

/-- What the matrix judges in the end has only its context to answer for. -/
theorem of_matrixRecompute {s t : State} (context : s.ContextLaw → t.ContextLaw) : s.Minds t.matrixRecompute :=
  .of_judged ((matrixRecompute_eased t).context ∘ context) (matrixRecompute_hornLaw t)

theorem of_matrixJudge {s t : State} (sel : LockCond → Bool) (context : s.ContextLaw → t.ContextLaw) :
    s.Minds (t.matrixJudge sel) :=
  .of_judged ((matrixJudge_eased t sel).context ∘ context) (matrixJudge_hornLaw t sel)

theorem of_enterMode {s t : State} (m : AppMode) (context : s.ContextLaw → t.ContextLaw) : s.Minds (t.enterMode m) :=
  .of_judged ((enterMode_eased t m).context ∘ context) (enterMode_hornLaw t m)

theorem of_matrixTake {s t : State} (context : s.ContextLaw → t.ContextLaw) : s.Minds t.matrixTake :=
  of_enterMode _ context

end State.Minds

/-! ### The sequencer: its operations end with the matrix taking the state they leave (R18) -/

theorem taken_minds (s : State) (q : Sequencer) : s.Minds (s.setSeq q).matrixTake :=
  .of_matrixTake fun h => h.of_gov (by simp)

/-- The end of an engagement leaves no cause and no context, whatever was there (R111). -/
theorem endSupply_context (s : State) : s.discardProtection.endSupply.ContextLaw :=
  (discardProtection_context s).of_gov (by simp)

theorem enterIdle_minds (s : State) : s.Minds s.enterIdle := .of_matrixTake fun _ => endSupply_context _

theorem enterHeldTimeout_minds (s : State) : s.Minds s.enterHeldTimeout := .of_matrixTake fun _ => endSupply_context _

theorem judgeRoadShift_minds (s : State) : s.Minds s.judgeRoadShift := by
  have recomputed (q : Sequencer) : s.Minds ({ s with seq := q }).matrixRecompute :=
    .of_matrixRecompute fun h => h.of_gov (s := s) rfl
  unfold State.judgeRoadShift
  repeat' split
  · exact .refl s
  · exact recomputed _
  · exact recomputed _
  · exact .refl s
  · exact .refl s

theorem enterReleasing_minds (s : State) : s.Minds s.enterReleasing := by
  have clutch (t : State) : t.Minds (if t.lineClear .d4 then t.enterIdle else t) := by
    split
    · exact enterIdle_minds t
    · exact .refl t
  have split (t : State) : t.Minds (if t.lineClear .d3 then t.enterIdle else t.judgeRoadShift) := by
    split
    · exact enterIdle_minds t
    · exact judgeRoadShift_minds t
  unfold State.enterReleasing
  split
  · exact (taken_minds s _).trans (clutch _)
  · exact (taken_minds s _).trans (split _)
  · exact (taken_minds s _).trans (split _)

theorem judgeIdlingDown_minds (s : State) : s.Minds s.judgeIdlingDown := by
  unfold State.judgeIdlingDown
  split
  · exact enterReleasing_minds s
  · exact .refl s

theorem enterIdlingDown_minds (s : State) (r : SeqReason) : s.Minds (s.enterIdlingDown r) :=
  .trans (.of_matrixTake fun h => (governorOff_minds _).context (h.of_gov (by simp))) (judgeIdlingDown_minds _)

theorem faultToIdlingDown_minds (s : State) (f : SeqFault) (r : SeqReason) : s.Minds (s.faultToIdlingDown f r) := by
  have reported : s.Still (s.reportFault f []) := by apply State.Still.of_gov <;> simp
  exact (State.Minds.of_still reported).trans (enterIdlingDown_minds _ r)

theorem enterAwaitRange_minds (s : State) : s.Minds s.enterAwaitRange := by
  have passed (t : State) : t.Minds (if t.lineSet .d2 then t.enterAwaitConfirm else t) := by
    split
    · exact taken_minds t _
    · exact .refl t
  exact (taken_minds s _).trans (passed _)

theorem enterEngaged_minds (s : State) : s.Minds s.enterEngaged :=
  .of_matrixTake fun h => (governorEngage_minds _).context (h.of_gov (by simp))

theorem enterHeldFeedback_minds (s : State) : s.Minds s.enterHeldFeedback :=
  .of_matrixTake fun h => (governorHold_minds _).context (h.of_gov (by simp))

theorem seqLineChange_minds (s : State) (l : Line) : s.Minds (s.seqLineChange l) := by
  rcases s.seqLineChange_cases l with e | ⟨-, e⟩ | ⟨-, e⟩ | ⟨-, e⟩ | ⟨-, e⟩ | ⟨-, e | e⟩ <;> rw [e]
  · exact .refl s
  · exact enterAwaitRange_minds s
  · exact taken_minds s _
  · exact faultToIdlingDown_minds s _ _
  · exact enterHeldFeedback_minds s
  · exact enterIdle_minds s
  · exact judgeRoadShift_minds s

theorem seqEngineGate_minds (s : State) : s.Minds s.seqEngineGate := by
  unfold State.seqEngineGate
  split
  · exact judgeIdlingDown_minds s
  · exact judgeRoadShift_minds s
  all_goals exact .refl s

theorem seqRoadGate_minds (s : State) (made : Bool) : s.Minds (s.seqRoadGate made) := by
  have fault : s.Minds (if made then s.faultToIdlingDown .motion .motion else s) := by
    split
    · exact faultToIdlingDown_minds s _ _
    · exact .refl s
  unfold State.seqRoadGate
  split
  · exact fault
  · exact fault
  · exact judgeRoadShift_minds s
  all_goals exact .refl s

theorem judgeComplete_minds (s : State) : s.Minds s.judgeComplete := by
  rcases judgeComplete_cases s with ⟨-, e⟩ | ⟨-, -, e⟩ <;> rw [e]
  · exact .refl s
  · exact .of_enterMode _ fun h => h.of_gov (by simp)

/-! ### The tanks, whose band is handed on where it changes (R40, R106, R124) -/

theorem abandonFill_still (s : State) (st : ReportState) : s.Still (s.abandonFill st) := by
  have source : (s.abandonFill st).supply.source = s.supply.source := by
    unfold State.abandonFill
    split <;> simp
  apply State.Still.of_gov <;> simp [source]

/-- A tank's change as it stands before it is handed on: where the tank keeps its band, the laws stand. -/
structure State.Unhanded (s u : State) (t : TankIx) : Prop where
  gov : u.gov = s.gov
  same : (u.tanks.get t).band = (s.tanks.get t).band → s.Still u

/-- Only tank `t` has changed, and neither the source nor an entry. -/
theorem State.Unhanded.of_tank {s u : State} {t : TankIx} (gov : u.gov = s.gov) (matrix : u.matrix = s.matrix)
    (entries : u.config.entries = s.config.entries) (source : u.supply.source = s.supply.source) (seq : u.seq = s.seq)
    (others : ∀ i, i ≠ t → u.tanks.get i = s.tanks.get i) : s.Unhanded u t := by
  refine ⟨gov, fun band => .of_gov gov matrix entries ?_ source (by rw [seq])⟩
  by_cases own : TankIx.t0 = t
  · rw [own, band]
  · rw [others .t0 own]

/-- A changed band goes to the matrix, which judges the horn (R124). -/
theorem handTank_minds {s u : State} {t : TankIx} (k : s.Unhanded u t) : s.Minds (u.handTank t (s.tanks.get t)) := by
  have abandoned (p : Prop) [Decidable p] : u.Still (if p then u.abandonFill .abandoned else u) := by
    split
    · exact abandonFill_still u _
    · exact .of_gov rfl rfl rfl rfl rfl rfl
  have emptied (p : Prop) [Decidable p] (v : State) : v.Minds (if p then v.judgeTankEmpty else v) := by
    split
    · exact judgeTankEmpty_minds v
    · exact .refl v
  unfold State.handTank
  extract_lets r s1 s2
  have filled : u.Minds s1 := .of_still (abandoned _)
  have judged : s.Minds s2 := by
    unfold s2
    split
    · next same => exact (State.Minds.of_still (k.same same.1)).trans filled
    · exact .of_matrixJudge _ fun h => filled.context (h.of_gov k.gov)
  exact judged.trans (emptied _ _)

theorem setTank_others (s : State) {t i : TankIx} (r : TankRun) (other : i ≠ t) :
    (s.setTank t r).tanks.get i = s.tanks.get i := PerTank.get_set_ne _ _ other

theorem evalBand_others (s : State) {t i : TankIx} (other : i ≠ t) : (s.evalBand t).tanks.get i = s.tanks.get i := by
  unfold State.evalBand
  dsimp only
  repeat' split
  · rfl
  · rfl
  · rfl
  · simpa using setTank_others s _ other

theorem reconcile_others (s : State) {t i : TankIx} (v : Nat) (other : i ≠ t) :
    (s.reconcile t v).tanks.get i = s.tanks.get i := by
  unfold State.reconcile
  dsimp only
  rw [evalBand_others _ other, setTank_others _ _ other]
  simp

theorem settleVolume_others (s : State) {t i : TankIx} (other : i ≠ t) :
    (s.settleVolume t).tanks.get i = s.tanks.get i := by
  unfold State.settleVolume
  dsimp only
  split
  · rfl
  · rw [evalBand_others _ other, setTank_others _ _ other]
  · rw [evalBand_others _ other, setTank_others _ _ other]
  · exact reconcile_others s _ other
  all_goals rw [evalBand_others _ other, setTank_others _ _ other]

theorem setTank_unhanded (s : State) (t : TankIx) (r : TankRun) : s.Unhanded (s.setTank t r) t :=
  .of_tank (by simp) (by simp) (by simp) (by simp) (by simp) fun _ other => setTank_others s r other

/-- A tank that keeps its band moves nothing that the laws are worked from. -/
theorem setTank_still {s : State} {t : TankIx} {r : TankRun} (band : r.band = (s.tanks.get t).band) :
    s.Still (s.setTank t r) :=
  (setTank_unhanded s t r).same (by simpa [State.setTank] using band)

theorem tanksAtRoadGate_minds (s : State) (was : Bool) : s.Minds (s.tanksAtRoadGate was) := by
  have travel (t : State) (i : TankIx) : t.Minds (t.enterTravel i) := by
    unfold State.enterTravel
    dsimp only
    split
    · exact handTank_minds (setTank_unhanded t i _)
    · exact .of_still (setTank_still rfl)
    · exact .of_still (setTank_still rfl)
    all_goals exact .refl t
  have settle (t : State) (i : TankIx) : t.Minds (t.enterSettling i) := by
    unfold State.enterSettling
    dsimp only
    split
    · exact .of_still (setTank_still rfl)
    all_goals exact .refl t
  unfold State.tanksAtRoadGate
  repeat' split
  · exact .refl s
  · exact foldl_keeps s.Minds _ _ s (.refl s) fun t i h => h.trans (travel t i)
  · exact foldl_keeps s.Minds _ _ s (.refl s) fun t i h => h.trans (settle t i)
  · exact .refl s

@[simp] theorem State.judgeRise_source (s : State) : s.judgeRise.supply.source = s.supply.source := by
  unfold State.judgeRise
  repeat' split
  all_goals rfl

theorem judgeFillDone_still (s : State) : s.Still s.judgeFillDone := by
  have source : s.judgeFillDone.supply.source = s.supply.source := by
    unfold State.judgeFillDone
    dsimp only
    repeat' split
    all_goals simp
  apply State.Still.of_gov <;> simp [source]

theorem tankUpdate_minds (s : State) (t : TankIx) : s.Minds (s.tankUpdate t) := by
  have filled (u : State) : u.Minds (if t = .t0 then u.judgeFillDone else u) := by
    split
    · exact .of_still (judgeFillDone_still u)
    · exact .refl u
  unfold State.tankUpdate
  dsimp only
  split
  · exact .refl s
  · refine (handTank_minds ?_).trans (filled _)
    have settled (i : TankIx) (other : i ≠ t) :
        ((s.setTank t (s.workLevel (s.config.tanks.get t) (s.tanks.get t))).settleVolume t).tanks.get i = s.tanks.get i :=
      (settleVolume_others _ other).trans (setTank_others s _ other)
    split
    all_goals exact .of_tank (by simp) (by simp) (by simp) (by simp) (by simp) fun i other => by simpa using settled i other

theorem settleExpiry_minds (s : State) (t : TankIx) : s.Minds (s.settleExpiry t) := by
  unfold State.settleExpiry
  dsimp only
  repeat' split
  · exact handTank_minds (.of_tank (by simp) (by simp) (by simp) (by simp) (by simp) fun _ other =>
      reconcile_others s _ other)
  · exact .of_still (setTank_still rfl)
  · exact .refl s

theorem configureTank_minds (s : State) (t : TankIx) (c : TankSettings) : s.Minds (s.configureTank t c) := by
  have handed (u : State) (k : s.Unhanded u t) : s.Minds (u.handTank t (s.tanks.get t)) := handTank_minds k
  unfold State.configureTank State.restartTank
  dsimp only
  split
  all_goals
    refine handed _ (.of_tank (by simp) (by simp) (by simp [WorkingConfig.setTank]) (by simp) (by simp) fun i other => ?_)
    simp [State.setTank, PerTank.get_set_ne _ _ other]

/-! ### The source, which the horn reads with the band (R40, R106, R142) -/

theorem handSource_minds {s t : State} (gov : t.gov = s.gov) : s.Minds t.handSource := by
  have abandoned : t.Minds (if t.supply.source = .tank then t.abandonFill .abandoned else t) := by
    split
    · exact .of_still (abandonFill_still t _)
    · exact .refl t
  have stopped (u : State) : u.Minds (if t.supply.source = .intake then u.stopPrimer else u) := by
    split
    · exact .of_still (stopPrimer_still u)
    · exact .refl u
  unfold State.handSource
  dsimp only
  refine .of_judged (fun h => ?_) (judgeHorn_law _)
  exact ((abandoned.trans (stopped _)).trans (judgeTankEmpty_minds _)).context (h.of_gov gov)

theorem changeSource_minds (s : State) (w : WaterSource) : s.Minds (s.changeSource w) := by
  unfold State.changeSource
  split
  · exact .refl s
  · exact handSource_minds (by simp)

theorem setChangeover_still (s : State) (c : Option Changeover) : s.Still (s.setChangeover c) := by
  apply State.Still.of_gov <;> simp [State.setChangeover, State.judgeValve]

theorem judgeChangeover_minds (s : State) : s.Minds s.judgeChangeover := by
  unfold State.judgeChangeover
  split
  · exact .refl s
  · extract_lets n
    split
    · exact handSource_minds (by simp)
    · exact .of_still (.of_gov rfl rfl rfl rfl rfl rfl)

end Sys2Proof.Machine

/-! # The saved context and the horn, kept by every event and every request (R40, R41, R96, R97, R109, R111) -/

namespace Sys2Proof.Machine

/-! ### The events of the apparatus, the store and the timers -/

theorem engineGateEnd_minds (s : State) : s.Minds s.engineGateEnd := by
  rw [engineGateEnd_eq]
  exact (State.Minds.of_matrixJudge _ fun h => (seqEngineGate_minds _).context (h.of_gov (by simp))).trans
    (judgeComplete_minds _)

/-- The roll limits may clear roll overspeed before the matrix judges the horn (R28, R40). -/
theorem roadGateEnd_minds (s : State) : s.Minds s.roadGateEnd := by
  rw [roadGateEnd_eq]
  refine (State.Minds.of_matrixJudge _ fun h => ?_).trans ((tanksAtRoadGate_minds _ _).trans (judgeComplete_minds _))
  exact (seqRoadGate_minds _ _).context (h.of_gov (by simp))

theorem flowGateEnd_minds (s : State) (m : Meter) : s.Minds (s.flowGateEnd m) := by
  refine State.Minds.trans ?_ (judgeComplete_minds _)
  exact .of_still (.of_gov rfl rfl rfl rfl rfl rfl)

theorem linesChanged_minds (s : State) (ls : List Line) : s.Minds (s.linesChanged ls) := by
  unfold State.linesChanged
  split
  · exact .refl s
  · exact .of_matrixJudge _
      (foldl_keeps s.Minds _ _ s (.refl s) fun t l h => h.trans (seqLineChange_minds t l)).context

theorem lineSample_minds (s : State) (raw : BitVec 12) : s.Minds (s.lineSample raw) := by
  have sampled : s.Still (s.linesSampled raw (s.changedLines raw)) := by
    apply State.Still.of_gov <;> simp [State.linesSampled]
  rw [lineSample_eq]
  exact (State.Minds.of_still sampled).trans ((linesChanged_minds _ _).trans (judgeComplete_minds _))

theorem windowExpiry_minds (s : State) (st : SeqState) (w : StepWindow) (f : SeqFault) :
    s.Minds (s.windowExpiry st w f) := by
  unfold State.windowExpiry
  split
  · exact faultToIdlingDown_minds s _ _
  · exact .refl s

theorem releaseExpiry_minds (s : State) : s.Minds s.releaseExpiry := by
  unfold State.releaseExpiry
  split
  · exact enterHeldTimeout_minds s
  · exact .refl s

theorem temperatureSample_minds (s : State) (c : Code) : s.Minds (s.temperatureSample c) := by
  have taken : s.Still (s.temperatureTaken c) := by
    apply State.Still.of_gov <;> simp [State.temperatureTaken]
  rw [temperatureSample_eq]
  split
  · exact .of_still taken
  · exact .of_matrixJudge _
      ((State.Minds.of_still taken).trans ((judgeRelief_minds _).trans (judgeOverheat_minds _))).context

theorem judgePrimer_minds (s : State) : s.Minds s.judgePrimer := by
  unfold State.judgePrimer
  split
  · exact .refl s
  · extract_lets n
    split
    · exact (State.Minds.of_still (stopPrimer_still s)).trans (causeAbsent_minds _ _ _)
    · exact .of_still (.of_governor (fun _ => rfl) rfl rfl rfl rfl rfl rfl)

theorem pressureSample_minds (s : State) (c0 c1 : Code) : s.Minds (s.pressureSample c0 c1) := by
  have sensed (p : Prop) [Decidable p] (t : State) (k : s.Still t) : s.Minds (if p then t else t.judgePressureSensor) := by
    split
    · exact .of_still k
    · exact (State.Minds.of_still k).trans (judgePressureSensor_minds t)
  unfold State.pressureSample
  refine ((sensed _ _ ?_).trans (judgePrimer_minds _)).trans (judgeChangeover_minds _)
  apply State.Still.of_gov <;> simp

theorem lockDelayExpiry_minds (s : State) (i : EntryIx) : s.Minds (s.lockDelayExpiry i) := by
  unfold State.lockDelayExpiry
  repeat' split
  · exact .refl s
  · exact .of_matrixRecompute fun h => h.of_gov (by simp)
  · exact .refl s

theorem rollOverspeedExpiry_minds (s : State) : s.Minds s.rollOverspeedExpiry := by
  unfold State.rollOverspeedExpiry
  split
  · exact .refl s
  · exact .of_judged (fun h => h.of_gov (by simp)) (hornArises_law _)

theorem primeExpiry_still (s : State) : s.Still s.primeExpiry := by
  unfold State.primeExpiry
  split
  · exact .of_gov rfl rfl rfl rfl rfl rfl
  · exact .of_governor (fun _ => rfl) rfl rfl rfl rfl rfl rfl

theorem changeoverExpiry_still (s : State) : s.Still s.changeoverExpiry := by
  unfold State.changeoverExpiry
  split
  · exact .of_gov rfl rfl rfl rfl rfl rfl
  · apply State.Still.of_gov <;> simp [State.setChangeover, State.judgeValve]

theorem riseExpiry_still (s : State) : s.Still s.riseExpiry := by
  rcases s.riseExpiry_cases with e | e <;> rw [e]
  · exact .of_gov rfl rfl rfl rfl rfl rfl
  · exact abandonFill_still s _

/-- The waits that go on with no timer leave the sequencer's state (R60, R62). -/
@[simp] theorem State.timerExpiry_state (s : State) :
    s.idleDownExpiry.seq.state = s.seq.state ∧ s.neutralExpiry.seq.state = s.seq.state := by
  unfold State.idleDownExpiry State.neutralExpiry State.stopStepTimer
  constructor <;> split <;> simp

theorem eventOf_minds {c : Instr} {f : State → State} (e : eventOf c = some f) (s : State) : s.Minds (f s) := by
  cases c <;> cases e
  case engineSpeedGateEnd => exact engineGateEnd_minds s
  case roadSpeedGateEnd => exact roadGateEnd_minds s
  case flowGateEnd m => exact flowGateEnd_minds s m
  case lineSample raw => exact lineSample_minds s raw
  case shiftWindowExpiry | rangeWindowExpiry | clutchWindowExpiry | confirmWindowExpiry =>
    exact windowExpiry_minds s _ _ _
  case releaseWindowExpiry => exact releaseExpiry_minds s
  case temperatureSample c => exact temperatureSample_minds s c
  case pressureSample c0 c1 => exact pressureSample_minds s c0 c1
  case lockoutDelayExpiry i => exact lockDelayExpiry_minds s i
  case rollOverspeedExpiry => exact rollOverspeedExpiry_minds s
  case tankUpdate t => exact tankUpdate_minds s t
  case settleTimerExpiry t => exact settleExpiry_minds s t
  case governorUpdate => exact governorUpdate_minds s
  case primeTimeExpiry => exact .of_still (primeExpiry_still s)
  case changeoverWindowExpiry => exact .of_still (changeoverExpiry_still s)
  case riseTimerExpiry => exact .of_still (riseExpiry_still s)
  case pulseArrival p => exact .of_still (.of_gov rfl rfl rfl rfl rfl rfl)
  all_goals exact .of_still (by apply State.Still.of_gov <;> simp)

/-! ### The requests of the matrix and the sequencer -/

theorem writeEntry_minds (s : State) (i : EntryIx) (new : Option LockoutEntry) : s.Minds (s.writeEntry i new) := by
  unfold State.writeEntry
  split
  · exact .of_matrixRecompute fun h => h.of_gov (by simp)
  · exact .of_matrixRecompute fun h => h.of_gov (by simp)

theorem answerLockoutSet_minds (s : State) (p : List Byte) : s.Minds (answerLockoutSet p s).1 := by
  have set (i : EntryIx) (e : Option LockoutEntry) : s.Minds (s.lockoutSet i e).1 := by
    unfold State.lockoutSet
    repeat' split
    · exact .refl s
    · exact .refl s
    · exact writeEntry_minds s i _
  unfold answerLockoutSet
  repeat' split
  · exact .refl s
  · exact .refl s
  · exact set _ _
  · exact set _ _
  · exact .refl s

theorem latchClearOne_minds (s : State) (i : EntryIx) : s.Minds (s.latchClearOne i).1 := by
  unfold State.latchClearOne
  split
  case h_2 => exact .of_matrixRecompute fun h => h.of_gov (by simp)
  all_goals exact .refl s

theorem latchClearAll_minds (s : State) : s.Minds s.latchClearAll.1 := by
  have cleared := foldl_keeps (fun t : State => t.gov = s.gov) State.clearLatch s.latchedEntries s rfl
    fun t i h => by simpa using h
  have judged := foldl_keeps (fun t : State => t.gov = s.gov) State.judgeLock s.latchedEntries _ cleared
    fun t i h => by simpa using h
  exact .of_matrixRecompute fun h => h.of_gov judged

theorem answerLatchClear_minds (s : State) (p : List Byte) : s.Minds (answerLatchClear p s).1 := by
  unfold answerLatchClear
  repeat' split
  · exact latchClearAll_minds s
  · exact .refl s
  · exact .refl s
  · exact latchClearOne_minds s _
  · exact .refl s

/-- A mute is accepted while a condition holds, and the horn is judged with it (R41). -/
theorem answerSilence_minds (s : State) (p : List Byte) : s.Minds (answerSilence p s).1 := by
  have silenced : s.Minds s.silence := by
    unfold State.silence
    split
    · exact .of_judged (fun h => h.of_gov (by simp)) (judgeHorn_law _)
    · exact .refl s
  unfold answerSilence
  split
  · exact silenced
  · exact .refl s

theorem answerEngage_minds (s : State) (p : List Byte) : s.Minds (answerEngage p s).1 := by
  have engage (roll : Bool) : s.Minds (s.engage roll).1 := by
    unfold State.engage
    repeat' split
    · exact .refl s
    · exact taken_minds s _
    · exact taken_minds s _
    · exact .refl s
  unfold answerEngage
  repeat' split
  · exact engage false
  · exact engage true
  · exact .refl s
  · exact .refl s

theorem answerConfirm_minds (s : State) (p : List Byte) : s.Minds (answerConfirm p s).1 := by
  have source : s.Minds s.confirmSource.1 := by
    unfold State.confirmSource
    split
    · exact .refl s
    · exact enterEngaged_minds s
  unfold answerConfirm
  split
  · split
    · exact source
    · split
      · exact source
      · exact .refl s
    all_goals exact .refl s
  · exact .refl s

theorem answerDisengage_minds (s : State) (p : List Byte) : s.Minds (answerDisengage p s).1 := by
  have cleared : s.Still s.clearFeedbackLost := by apply State.Still.of_gov <;> simp
  unfold answerDisengage
  split
  · split
    · exact .refl s
    · exact .refl s
    · exact .refl s
    · exact (State.Minds.of_still cleared).trans (enterIdlingDown_minds _ _)
    all_goals exact enterIdlingDown_minds s _
  · exact .refl s

/-! ### The tank unit's requests, SOURCE, FILL and PARAM_SET -/

theorem answerTankSet_minds (s : State) (p : List Byte) : s.Minds (answerTankSet p s).1 := by
  have set (t : TankIx) (c : TankSettings) : s.Minds (s.tankSet t c).1 := by
    unfold State.tankSet
    dsimp only
    repeat' split
    case h_2 => exact configureTank_minds s _ _
    all_goals exact .refl s
  unfold answerTankSet
  repeat' split
  · exact .refl s
  · exact .refl s
  · exact set _ _
  · exact .refl s

theorem answerTankTable_minds (s : State) (p : List Byte) : s.Minds (answerTankTable p s).1 := by
  have set (t : TankIx) (table : List Breakpoint) : s.Minds (s.tankTable t table).1 := by
    unfold State.tankTable
    repeat' split
    case h_2 => exact configureTank_minds s _ _
    all_goals exact .refl s
  unfold answerTankTable
  repeat' split
  case h_2.isFalse => exact set _ _
  all_goals exact .refl s

theorem answerSource_minds (s : State) (p : List Byte) : s.Minds (answerSource p s).1 := by
  have engaged (w : WaterSource) : s.Minds (s.sourceEngaged w).1 := by
    unfold State.sourceEngaged
    repeat' split
    case h_3.isFalse | h_4.isFalse => exact changeSource_minds s w
    case h_1.isFalse | h_2.isTrue => exact .of_still (setChangeover_still s _)
    all_goals exact .refl s
  have requested (w : WaterSource) : s.Minds (s.sourceRequest w).1 := by
    unfold State.sourceRequest
    repeat' split
    case h_5 | h_6 => exact engaged w
    case h_4.isTrue | h_4.isFalse => exact .refl s
    all_goals exact changeSource_minds s w
  unfold answerSource
  repeat' split
  · exact .refl s
  · exact requested _
  · exact .refl s

/-- FILL moves the fill in progress alone (R144). -/
theorem answerFill_still (s : State) (p : List Byte) : s.Still (answerFill p s).1 := by
  have source : (answerFill p s).1.supply.source = s.supply.source := by
    simp only [answerFill, State.fillRequest, State.fillStop, State.beginFill]
    repeat' split
    all_goals rfl
  apply State.Still.of_gov <;> simp [source]

/-- A parameter is no lockout entry, and its owner goes to the matrix, to OVERHEAT_CUT, or to the targets (R169). -/
theorem writeParam_minds (s : State) (p : Param) (x : Int) : s.Minds (s.writeParam p x) := by
  have written : s.Still { s with config := s.config.setParam p x } := by
    apply State.Still.of_gov <;> simp
  have reclamped (t : State) (ms : List GovMode) : t.Still (t.reclampTargets ms) := by
    refine .of_governor ?_ ?_ (by simp) (by simp) (by simp) (by simp) (by simp)
    all_goals
      unfold State.reclampTargets
      dsimp only
      split <;> simp [State.moveTarget]
  unfold State.writeParam
  split
  · exact .refl s
  · refine (State.Minds.of_still written).trans ?_
    cases p
    case idleRpm | rollCap | rollCeiling => exact .of_matrixRecompute fun h => h.of_gov (by rfl)
    case tempCut | tempReliefOn => exact (judgeRelief_minds _).trans (judgeOverheat_minds _)
    case pSetMax | rpmSetMax => exact .of_still (reclamped _ _)
    case kDis | kFill => exact .of_still (.of_gov rfl rfl rfl rfl rfl rfl)
    all_goals exact .refl _

theorem answerParamSet_minds (s : State) (p : List Byte) : s.Minds (answerParamSet p s).1 := by
  unfold answerParamSet State.paramSet
  repeat' split
  case h_2.isFalse.isFalse => exact writeParam_minds s _ _
  all_goals exact .refl s

/-! ### The governor's requests -/

theorem govern_minds (s : State) (m : GovMode) (x : Int) : s.Minds (s.govern m x) := by
  have started (t : State) (k : s.Still t) : s.Minds t.judgePressureSensor :=
    (State.Minds.of_still k).trans (judgePressureSensor_minds t)
  unfold State.govern
  split_ifs
  · exact .of_still (.of_governor (fun _ => rfl) rfl rfl rfl rfl rfl rfl)
  · refine started _ ?_
    apply State.Still.of_governor <;> simp [State.bumpless]
  · exact .refl s
  · refine started _ ?_
    apply State.Still.of_governor <;> simp

/-- A change of the saved context keeps one saved where a cause is active (R76, R96). -/
theorem saved_minds {s : State} (active : s.gov.noCauses = false) (ctx : SavedContext) :
    s.Minds { s with gov := { s.gov with saved := some ctx } } := by
  have same : ({ s.gov with saved := some ctx } : Governor).noCauses = s.gov.noCauses := rfl
  refine ⟨fun _ => ?_, fun h => h⟩
  rw [State.ContextLaw, same, active]
  rfl

theorem answerGovern_minds (s : State) (p : List Byte) : s.Minds (answerGovern p s).1 := by
  have requested (m : GovMode) (x : Int) : s.Minds (s.governRequest m x).1 := by
    unfold State.governRequest
    dsimp only
    generalize (if m.working then s.config.clampSetpoint m x else x) = clamped
    split_ifs with off refused none
    · exact .refl s
    · exact .refl s
    · exact govern_minds s _ _
    · exact saved_minds (by simpa using none) _
  unfold answerGovern
  repeat' split
  · exact .refl s
  · exact requested _ _
  · exact .refl s

theorem answerNudge_minds (s : State) (p : List Byte) : s.Minds (answerNudge p s).1 := by
  have nudged (x : Int) : s.Minds (s.nudgeTo x) := by
    unfold State.nudgeTo
    split
    · exact .of_still (.of_governor (fun _ => rfl) rfl rfl rfl rfl rfl rfl)
    · next some => exact saved_minds (by simpa using some) _
  have requested (up : Bool) (n : Nat) : s.Minds (s.nudgeRequest up n).1 := by
    unfold State.nudgeRequest
    split_ifs
    · exact .refl s
    · exact .refl s
    · exact nudged _
  unfold answerNudge
  repeat' split
  · exact requested _ _
  · exact requested _ _
  · exact .refl s
  · exact .refl s

theorem answerResume_minds (s : State) (p : List Byte) : s.Minds (answerResume p s).1 := by
  unfold answerResume
  repeat' split
  · exact .refl s
  · exact .refl s
  · exact returnToOperator_minds s
  · exact .refl s

theorem answerPrime_minds (s : State) (p : List Byte) : s.Minds (answerPrime p s).1 := by
  have start : s.Minds s.primeStart.1 := by
    unfold State.primeStart
    split_ifs
    · exact .refl s
    · exact .refl s
    · exact .of_still (.of_governor (fun _ => rfl) rfl rfl rfl rfl rfl rfl)
  unfold answerPrime
  repeat' split
  · exact start
  · exact .of_still (stopPrimer_still s)
  · exact .refl s
  · exact .refl s

/-! ### Every request, every command and every step -/

theorem answerKind_minds (s : State) (kind : Byte) (p : List Byte) : s.Minds (answerKind kind p s).1 := by
  generalize e : answerKind kind p = answer
  unfold answerKind at e
  split at e <;> subst e
  case h_3 =>
    unfold answerGate
    repeat' split
    case isFalse.isFalse => exact .of_still (.of_gov rfl rfl rfl rfl rfl rfl)
    all_goals exact .refl s
  case h_5 => exact answerLockoutSet_minds s p
  case h_7 => exact answerLatchClear_minds s p
  case h_8 => exact answerSilence_minds s p
  case h_9 => exact answerEngage_minds s p
  case h_10 => exact answerConfirm_minds s p
  case h_11 => exact answerDisengage_minds s p
  case h_12 => exact answerGovern_minds s p
  case h_13 => exact answerNudge_minds s p
  case h_14 => exact answerResume_minds s p
  case h_15 => exact answerPrime_minds s p
  case h_18 => exact answerTankTable_minds s p
  case h_19 => exact answerTankSet_minds s p
  case h_20 => exact answerSource_minds s p
  case h_21 => exact .of_still (answerFill_still s p)
  case h_22 => exact answerParamSet_minds s p
  all_goals exact .of_still (by apply State.Still.of_gov <;> simp [answerUnknown])

theorem startUp_minds (s : State) (found : List (Nat × StoreWord)) : s.Minds (s.startUp found) := by
  have band : ((s.startUp found).tanks.get .t0).band = .normal := by
    simp [State.startUp, startTank]
  have none : (s.startUp found).hornCondition = false ∧ (s.startUp found).tankHornCondition = false := by
    have tank : (s.startUp found).tankHornCondition = false := by simp [State.tankHornCondition, band]
    have effects : (s.startUp found).effectApplies hornBit = fun _ => false := by
      funext i
      unfold State.effectApplies State.lockHolds
      split
      · rfl
      · simp [State.startUp, startMatrix]
    refine ⟨?_, tank⟩
    rw [State.hornCondition, effects, tank]
    rfl
  refine .of_judged (fun _ => rfl) ?_
  rw [State.HornLaw, none.1, none.2]
  exact ⟨rfl, fun muted => Bool.noConfusion muted, rfl⟩

/-- Settles O15: every cause that joins or leaves the set takes the context with it, and every change of a horn condition
is followed by the judgement of the horn (`State.Minds`). -/
theorem contextAndHornLawsAreKept : Obligations.ContextAndHornLawsAreKept := by
  refine ⟨fun s t h e => ?_, fun s t h e => ?_⟩
  · refine step_keeps (P := State.ContextLaw) (fun _ _ h => h) (fun _ _ _ h e => ?_) h e
    exact exec_keeps (P := State.ContextLaw) (fun _ _ _ h => h) (fun s found => (startUp_minds s found).context)
      (fun kind p s => (answerKind_minds s kind p).context) (fun _ ef s => (eventOf_minds ef s).context) h e
  · refine step_keeps (P := State.HornLaw) (fun _ _ h => h) (fun _ _ _ h e => ?_) h e
    exact exec_keeps (P := State.HornLaw) (fun _ _ _ h => h) (fun s found => (startUp_minds s found).horn)
      (fun kind p s => (answerKind_minds s kind p).horn) (fun _ ef s => (eventOf_minds ef s).horn) h e

end Sys2Proof.Machine

/-! # One protection test of an update at a time (R97, R99, R101 to R105) -/

namespace Sys2Proof.Machine

/-! ### What is saved, and the runs (R96, R97, R101 to R105) -/

/-- What is saved stays with the set it belongs to, or the first cause to join has saved the operator's request. -/
structure Governor.Saves (g h : Governor) : Prop where
  opMode : h.opMode = g.opMode
  opTarget : h.opTarget = g.opTarget
  saved : (h.noCauses = g.noCauses ∧ h.saved = g.saved) ∨
    (g.noCauses = true ∧ h.noCauses = false ∧ h.saved = some ⟨g.opMode, g.opTarget⟩)

namespace Governor.Saves

theorem trans {g h k : Governor} (a : g.Saves h) (b : h.Saves k) : g.Saves k where
  opMode := b.opMode.trans a.opMode
  opTarget := b.opTarget.trans a.opTarget
  saved := by
    rcases b.saved with ⟨set, same⟩ | ⟨none, some, first⟩
    · rw [set, same]
      exact a.saved
    · rcases a.saved with ⟨set, same⟩ | ⟨-, before, -⟩
      · exact .inr ⟨set ▸ none, some, by rw [first, a.opMode, a.opTarget]⟩
      · exact absurd (none.symm.trans before) (by simp)

/-- With a cause in the set already, nothing is saved anew. -/
theorem of_some {g h : Governor} (k : g.Saves h) (some : g.noCauses = false) : h.saved = g.saved := by
  rcases k.saved with ⟨-, same⟩ | ⟨none, -⟩
  · exact same
  · exact absurd (none.symm.trans some) (by simp)

/-- The first cause has saved the request. -/
theorem of_first {g h : Governor} (k : g.Saves h) (none : g.noCauses = true) (some : h.noCauses = false) :
    h.saved = Option.some ⟨g.opMode, g.opTarget⟩ := by
  rcases k.saved with ⟨same, -⟩ | ⟨-, -, first⟩
  · exact absurd (same.symm.trans some) (by simp [none])
  · exact first

end Governor.Saves

/-- What the judging of cause `c` may do to the record: no other cause moves but PRESSURE_SENSOR, no run but the return
runs that a raising of `c` makes 0 (R97, R99, R107). -/
structure Governor.Judges (c : Cause) (g h : Governor) : Prop extends Governor.Saves g h where
  other : ∀ d, d ≠ c → d ≠ .pressureSensor → h.causes.get d = g.causes.get d
  overRun : h.overRun = g.overRun
  primeLossRun : h.primeLossRun = g.primeLossRun
  primeReturnRun : c ≠ .primeLost → h.primeReturnRun = g.primeReturnRun
  returnRun : c ≠ .overpressure → h.returnRun = g.returnRun

namespace Governor.Judges

theorem trans {c : Cause} {g h k : Governor} (a : Governor.Judges c g h) (b : Governor.Judges c h k) :
    Governor.Judges c g k where
  toSaves := a.toSaves.trans b.toSaves
  other := fun d apart sensor => (b.other d apart sensor).trans (a.other d apart sensor)
  overRun := b.overRun.trans a.overRun
  primeLossRun := b.primeLossRun.trans a.primeLossRun
  primeReturnRun := fun h => (b.primeReturnRun h).trans (a.primeReturnRun h)
  returnRun := fun h => (b.returnRun h).trans (a.returnRun h)

/-- A change of the record of one cause that leaves the set as it is. -/
theorem of_causes {c : Cause} {g h : Governor} (rest : h = { g with causes := h.causes })
    (active : ∀ d, (h.causes.get d).active = (g.causes.get d).active)
    (other : ∀ d, d ≠ c → d ≠ .pressureSensor → h.causes.get d = g.causes.get d) : Governor.Judges c g h := by
  have kept : h.opMode = g.opMode ∧ h.opTarget = g.opTarget ∧ h.saved = g.saved ∧ h.overRun = g.overRun ∧
      h.primeLossRun = g.primeLossRun ∧ h.primeReturnRun = g.primeReturnRun ∧ h.returnRun = g.returnRun := by
    rw [rest]
    simp only [and_self]
  obtain ⟨opMode, opTarget, saved, overRun, lossRun, primeRun, run⟩ := kept
  exact {
    opMode, opTarget, other, overRun
    saved := .inl ⟨noCauses_congr active, saved⟩
    primeLossRun := lossRun
    primeReturnRun := fun _ => primeRun
    returnRun := fun _ => run }

theorem refl (c : Cause) (g : Governor) : Governor.Judges c g g := of_causes rfl (fun _ => rfl) fun _ _ _ => rfl

end Governor.Judges

@[simp] theorem State.takeEffective_runs (s : State) (m : GovMode) (x : Int) :
    (s.takeEffective m x).gov.overRun = s.gov.overRun ∧ (s.takeEffective m x).gov.primeLossRun = s.gov.primeLossRun ∧
    (s.takeEffective m x).gov.primeReturnRun = s.gov.primeReturnRun := by
  simp only [State.takeEffective, State.bumpless, State.effectiveRest, Governor.emptyRing]
  repeat' split
  all_goals simp

@[simp] theorem State.settleRaised_runs (s : State) (c : Cause) :
    (s.settleRaised c).gov.overRun = s.gov.overRun ∧ (s.settleRaised c).gov.primeLossRun = s.gov.primeLossRun ∧
    (s.settleRaised c).gov.primeReturnRun = s.gov.primeReturnRun := by
  unfold State.settleRaised
  split <;> simp

theorem joined_judges {s : State} (c : Cause) (v : List Byte) :
    Governor.Judges c s.gov ((s.joined c v).settleRaised c).gov where
  opMode := by simp [joined_gov]
  opTarget := by simp [joined_gov]
  saved := by
    have some : ((s.joined c v).settleRaised c).gov.noCauses = false :=
      noCauses_false (c := c) (by simp [joined_gov])
    rw [some]
    cases before : s.gov.noCauses <;> simp [joined_gov, before]
  other := fun d apart _ => by simp [joined_gov, PerCause.get_set_ne _ _ apart]
  overRun := by simp [joined_gov]
  primeLossRun := by simp [joined_gov]
  primeReturnRun := fun h => by simp [joined_gov, h]
  returnRun := fun h => by simp [joined_gov, h]

theorem raiseCause_judges (s : State) (c : Cause) (v : List Byte) :
    Governor.Judges c s.gov (s.raiseCause c v).gov := by
  cases off : s.govOff
  · cases here : (s.gov.causes.get c).active
    · rw [raiseCause_joins v off here]
      exact joined_judges c v
    · rw [raiseCause_again v off here]
      split
      · exact .refl c _
      · exact .of_causes (by simp) (setCause_active here.symm) fun d apart _ => by simp [PerCause.get_set_ne _ _ apart]
  · simpa [State.raiseCause, off] using Governor.Judges.refl c s.gov

theorem causeAbsent_judges (s : State) (c : Cause) (v : List Byte) :
    Governor.Judges c s.gov (s.causeAbsent c v).gov :=
  .of_causes (s.causeAbsent_gov c v) (causeAbsent_still s c v).active fun _ apart _ => s.causeAbsent_other apart v

/-- PRESSURE_SENSOR, which a test of another cause may judge behind it (R107). -/
theorem Governor.Judges.of_sensor {g h : Governor} (k : Governor.Judges .pressureSensor g h) (c : Cause) :
    Governor.Judges c g h where
  toSaves := k.toSaves
  other := fun d _ sensor => k.other d sensor sensor
  overRun := k.overRun
  primeLossRun := k.primeLossRun
  primeReturnRun := fun _ => k.primeReturnRun (by decide)
  returnRun := fun _ => k.returnRun (by decide)

theorem judgePressureSensor_judges (s : State) : Governor.Judges .pressureSensor s.gov s.judgePressureSensor.gov := by
  unfold State.judgePressureSensor
  repeat' split
  · exact causeAbsent_judges s _ _
  · exact raiseCause_judges s _ _
  · exact .refl _ _

theorem raise_judges (s : State) (c : Cause) (v : List Byte) : Governor.Judges c s.gov (s.raise c v).gov := by
  unfold State.raise
  dsimp only
  split
  · exact raiseCause_judges s c v
  · exact (raiseCause_judges s c v).trans ((judgePressureSensor_judges _).of_sensor c)

theorem judgeCavitation_judges (s : State) : Governor.Judges .cavitation s.gov s.judgeCavitation.gov := by
  unfold State.judgeCavitation
  dsimp only
  split_ifs
  · exact raise_judges s _ _
  · exact causeAbsent_judges s _ _
  · exact .refl _ _

theorem judgePrimeLost_judges (s : State) : Governor.Judges .primeLost s.gov s.judgePrimeLost.gov := by
  unfold State.judgePrimeLost
  dsimp only
  split_ifs
  · exact raise_judges s _ _
  · exact causeAbsent_judges s _ _
  · exact .refl _ _

/-! ### A raising under a sound A0 (R97, R98, R107) -/

/-- With A0 sound, PRESSURE_SENSOR behind a raising can only be found absent. -/
theorem raise_sound {s : State} (sound : s.image.a0.good = true) (c : Cause) (v : List Byte) :
    s.raise c v = s.raiseCause c v ∨
    s.raise c v = (s.raiseCause c v).causeAbsent .pressureSensor (optI16 (s.raiseCause c v).pDis) := by
  have good : (s.raiseCause c v).image.a0.good = true := by simpa using sound
  unfold State.raise
  dsimp only
  split
  · exact .inl rfl
  · exact .inr (if_pos good)

/-- A cause that is raised newly joins the set; PRESSURE_SENSOR's own record alone may follow. -/
theorem raise_joins {s : State} (on : s.govOff = false) (sound : s.image.a0.good = true) {c : Cause}
    (out : (s.gov.causes.get c).active = false) (v : List Byte) :
    (s.raise c v).matrix = (s.joined c v).matrix ∧
    (s.raise c v).gov = { ((s.joined c v).settleRaised c).gov with causes := (s.raise c v).gov.causes } := by
  rcases raise_sound sound c v with e | e <;> rw [e, raiseCause_joins v on out]
  · exact ⟨by simp, rfl⟩
  · exact ⟨by simp, State.causeAbsent_gov ..⟩

/-- A cause in the set is a horn condition (R40). -/
theorem hornCondition_of_cause {s : State} (some : s.gov.noCauses = false) : s.hornCondition = true := by
  simp [State.hornCondition, some]

/-- A set that a raising joins makes the horn sound, with no mute (R41). -/
theorem joined_sounds (s : State) (c : Cause) (v : List Byte) :
    (s.joined c v).matrix.horn = true ∧ (s.joined c v).matrix.muted = false := by
  have some : (s.joined c v).gov.noCauses = false := noCauses_false (c := c) (by simp [joined_gov])
  unfold State.joined State.hornArises at some ⊢
  exact judgeHorn_sounds (hornCondition_of_cause (by simpa using some)) rfl

/-- With A0 sound, the judging of another cause leaves PRESSURE_SENSOR in the set or out of it. -/
theorem raise_sensor {s : State} (sound : s.image.a0.good = true) {c : Cause} (apart : c ≠ .pressureSensor)
    (v : List Byte) :
    ((s.raise c v).gov.causes.get .pressureSensor).active = (s.gov.causes.get .pressureSensor).active := by
  rcases raise_sound sound c v with e | e <;> rw [e]
  · rw [s.raiseCause_other apart.symm v]
  · rw [(causeAbsent_still ..).active, s.raiseCause_other apart.symm v]

/-- A cause that outranks the others governs from its joining (R98). -/
theorem settleRaised_governs {s : State} {c : Cause} (engaged : s.seq.state = .engaged)
    (first : s.gov.outranksAll c = true) :
    s.settleRaised c = s.takeEffective (causeMode c) (((s.gov.causes.get c).target).getD 0) :=
  if_pos ⟨engaged, first⟩

theorem outranksAll_iff (g : Governor) (c : Cause) : g.outranksAll c = true ↔
    ∀ d, d ≠ c → (g.causes.get d).active = true → causeRank c < causeRank d := by
  simp only [Governor.outranksAll, List.all_eq_true, Bool.or_eq_true, beq_iff_eq, Bool.not_eq_true', decide_eq_true_eq]
  refine ⟨fun h d apart here => ?_, fun h d _ => ?_⟩
  · rcases h d d.mem_all with (e | out) | rank
    · exact absurd e apart
    · exact absurd (out.symm.trans here) (by simp)
    · exact rank
  · by_cases apart : d = c
    · exact .inl (.inl apart)
    · cases here : (g.causes.get d).active
      · exact .inl (.inr rfl)
      · exact .inr (h d apart here)

/-! ### The return of OVERPRESSURE, by what it finds (R105) -/

/-- The state with the return run of an update counted (R105). -/
def State.returnCounted (s : State) : State :=
  { s with gov := { s.gov with returnRun := runNext 100 s.underReturn s.gov.returnRun } }

theorem judgeReturn_eq (s : State) : s.judgeReturn =
    if (s.gov.causes.get .overpressure).active then
      if runNext 100 s.underReturn s.gov.returnRun < 100 then s.returnCounted
      else if s.seq.state = .engaged then s.returnCounted.overpressureReturns
      else s.returnCounted.causeAbsent .overpressure (optI16 s.pDis)
    else s := rfl

theorem overpressureReturns_others {s : State} (others : s.gov.onlyOverpressure = false) :
    s.overpressureReturns = ({ s.causeLeaves .overpressure with
      gov := { (s.causeLeaves .overpressure).gov with returnRun := 0 } } : State).judgeHorn := by
  rw [State.overpressureReturns, others]
  rfl

theorem causeLeaves_gov (s : State) (c : Cause) :
    (s.causeLeaves c).gov = { s.gov with causes := (s.causeLeaves c).gov.causes } := by
  unfold State.causeLeaves
  split <;> simp

/-- With another cause in the set the test moves the record of OVERPRESSURE and its run alone. -/
theorem judgeReturn_gov {s : State} (others : s.gov.onlyOverpressure = false) : s.judgeReturn.gov =
    { s.gov with causes := s.judgeReturn.gov.causes, returnRun := s.judgeReturn.gov.returnRun } := by
  rw [judgeReturn_eq]
  split_ifs
  · rfl
  · rw [overpressureReturns_others (by exact others)]
    simp only [State.judgeHorn_frame]
    rw [causeLeaves_gov]
    rfl
  · rw [State.causeAbsent_gov]
    rfl
  · rfl

/-- With another cause in the set the test leaves a horn that sounds without mute as it is. -/
theorem judgeReturn_sounds {s : State} {d : Cause} (apart : d ≠ .overpressure)
    (here : (s.gov.causes.get d).active = true) (sounds : s.matrix.horn = true ∧ s.matrix.muted = false) :
    s.judgeReturn.matrix.horn = true ∧ s.judgeReturn.matrix.muted = false := by
  rw [judgeReturn_eq]
  split_ifs
  · exact sounds
  · have others : s.returnCounted.gov.onlyOverpressure = false := (notOnly_iff s.gov).mpr ⟨d, apart, here⟩
    rw [overpressureReturns_others others]
    have some : (s.returnCounted.causeLeaves .overpressure).gov.noCauses = false :=
      noCauses_false (c := d) (by rw [causeLeaves_get, if_neg apart]; exact here)
    exact judgeHorn_sounds (hornCondition_of_cause some) (by simpa [State.returnCounted] using sounds.2)
  · simpa [State.returnCounted] using sounds
  · exact sounds

/-- A cause that is in the set beside OVERPRESSURE is left as it is. -/
theorem judgeReturn_kept {s : State} {d : Cause} (apart : d ≠ .overpressure)
    (here : (s.gov.causes.get d).active = true) : s.judgeReturn.gov.causes.get d = s.gov.causes.get d := by
  have others : s.returnCounted.gov.onlyOverpressure = false := (notOnly_iff s.gov).mpr ⟨d, apart, here⟩
  rw [judgeReturn_eq]
  split_ifs
  · rfl
  · rw [overpressureReturns_others others]
    simp [causeLeaves_get, apart, State.returnCounted]
  · exact State.causeAbsent_other _ apart _
  · rfl

/-- Beside OVERPRESSURE, and PRESSURE_SENSOR judged afresh, no cause joins or leaves the set by the test. -/
theorem judgeReturn_active (s : State) {d : Cause} (apart : d ≠ .overpressure) (sensor : d ≠ .pressureSensor) :
    (s.judgeReturn.gov.causes.get d).active = (s.gov.causes.get d).active := by
  cases here : (s.gov.causes.get d).active
  · have returned (t : State) : (t.returnToOperator.gov.causes.get d).active = false := by
      rw [returnToOperator_eq, State.judgePressureSensor_other _ sensor]
      simpa using contextRestored_out t d
    rw [judgeReturn_eq]
    split_ifs
    · exact here
    · unfold State.overpressureReturns
      split
      · exact returned _
      · simpa [causeLeaves_get, apart, State.returnCounted] using here
    · rw [State.causeAbsent_other _ apart]
      exact here
    · exact here
  · rw [judgeReturn_kept apart here, here]

/-! ### The update up to its tests (R84, R94, R100) -/

/-- The state as the tests of an update find it: driven, with the ring and the counts of R100 and R101. -/
def State.counted (s : State) : State := s.driveUpdate.primerAtDemand.cavitationCounts

/-- What the drive and the counts leave of the protection record. -/
theorem counted_gov (s : State) :
    s.counted.gov.opMode = s.gov.opMode ∧ s.counted.gov.opTarget = s.gov.opTarget ∧
    s.counted.gov.causes = s.gov.causes ∧ s.counted.gov.saved = s.gov.saved ∧
    s.counted.gov.overRun = s.gov.overRun ∧ s.counted.gov.primeLossRun = s.gov.primeLossRun ∧
    s.counted.gov.primeReturnRun = s.gov.primeReturnRun ∧ s.counted.gov.returnRun = s.gov.returnRun := by
  obtain ⟨primer, elapsed, gov⟩ := primerAtDemand_gov s.driveUpdate
  have counts : s.counted.gov = { s.driveUpdate.primerAtDemand.gov with
    ring := s.counted.gov.ring, suspect := s.counted.gov.suspect, cavClearRun := s.counted.gov.cavClearRun } := rfl
  rw [counts, gov]
  exact ⟨rfl, rfl, rfl, rfl, rfl, rfl, rfl, rfl⟩

@[simp] theorem State.counted_frame (s : State) : s.counted.config = s.config ∧ s.counted.image = s.image ∧
    s.counted.matrix = s.matrix ∧ s.counted.seq = s.seq ∧ s.counted.supply = s.supply ∧
    s.counted.reports = s.reports := by
  simp [State.counted]

/-- The state as the test of PRIME_LOST finds it (R101, R102). -/
def State.primeCounted (s : State) : State := s.counted.judgeCavitation.primeRuns

@[simp] theorem State.primeCounted_frame (s : State) : s.primeCounted.config = s.config ∧
    s.primeCounted.image = s.image ∧ s.primeCounted.seq = s.seq ∧ s.primeCounted.supply = s.supply := by
  simp [State.primeCounted]

theorem governorUpdate_tests {s : State} (on : s.govOff = false) : s.governorUpdate =
    (s.primeCounted.judgePrimeLost.judgeOverLimit s.gov.effMode).judgeReturn := governorUpdate_eq on

theorem counted_saves (s : State) : s.gov.Saves s.counted.gov := by
  obtain ⟨opMode, opTarget, causes, saved, -⟩ := counted_gov s
  exact ⟨opMode, opTarget, .inl ⟨noCauses_congr fun c => by rw [causes], saved⟩⟩

theorem primeRuns_gov (s : State) : s.primeRuns.gov = { s.gov with
    primeLossRun := runNext 250 s.primeRuns.unprimed s.gov.primeLossRun
    primeReturnRun := runNext 50 s.primeRuns.primed s.gov.primeReturnRun } := rfl

/-- The test of CAVITATION has moved its own cause alone, and the two prime runs are counted (R101, R102). -/
structure State.PrimeReady (s t : State) : Prop extends Governor.Saves s.gov t.gov where
  other : ∀ d, d ≠ .cavitation → d ≠ .pressureSensor → t.gov.causes.get d = s.gov.causes.get d
  overRun : t.gov.overRun = s.gov.overRun
  primeLossRun : t.gov.primeLossRun = runNext 250 t.unprimed s.gov.primeLossRun
  primeReturnRun : t.gov.primeReturnRun = runNext 50 t.primed s.gov.primeReturnRun
  returnRun : t.gov.returnRun = s.gov.returnRun

theorem primeRuns_ready {s t : State} (judged : Governor.Judges .cavitation s.counted.gov t.gov) :
    s.PrimeReady t.primeRuns := by
  obtain ⟨-, -, causes, -, overRun, lossRun, primeRun, run⟩ := counted_gov s
  obtain ⟨opMode, opTarget, saved⟩ := (counted_saves s).trans judged.toSaves
  have gov := primeRuns_gov t
  rw [judged.primeLossRun, judged.primeReturnRun (by decide), lossRun, primeRun] at gov
  constructor
  case toSaves => exact ⟨opMode, opTarget, saved⟩
  case other => exact fun d apart sensor => (judged.other d apart sensor).trans (by rw [causes])
  case overRun => exact judged.overRun.trans overRun
  case primeLossRun => rw [gov]
  case primeReturnRun => rw [gov]
  case returnRun => exact (judged.returnRun (by decide)).trans run

theorem primeCounted_ready (s : State) : s.PrimeReady s.primeCounted :=
  primeRuns_ready (judgeCavitation_judges s.counted)

/-- The demand that the runs read is the one the update has driven, which no test moves (R94, R102). -/
theorem primeCounted_demand {s : State} (on : s.govOff = false) :
    s.primeCounted.gov.demand = s.governorUpdate.gov.demand := by
  rw [governorUpdate_tests on]
  simp

theorem primeCounted_on {s : State} (on : s.govOff = false) : s.primeCounted.govOff = false := by
  rwa [State.govOff, (primeCounted_ready s).opMode]

/-! ### The runs, and what they wait for (R102, R104, R105) -/

theorem runNext_reached {bound : Nat} (pos : 0 < bound) (holds : Bool) (run : Nat) :
    bound ≤ runNext bound holds run ↔ holds = true ∧ bound ≤ run + 1 := by
  cases holds <;> simp [runNext]
  omega

theorem unprimed_iff (s : State) : s.unprimed = true ↔ (∃ p, s.image.a0.value = some p ∧ p < 150) ∧
    300 ≤ s.gov.demand ∧ s.supply.source ≠ .intake ∧ s.image.a0.status ≠ .fault := by
  have low : optAny s.pDis (fun p => decide (p < 150)) = true ↔ ∃ p, s.image.a0.value = some p ∧ p < 150 := by
    unfold State.pDis
    cases s.image.a0.value <;> simp [optAny]
  simp [State.unprimed, low, good_iff, and_assoc]

/-- The prime-loss run of an update, by the demand it drives (R102). -/
theorem primeCounted_unprimed {s : State} (on : s.govOff = false) : s.primeCounted.unprimed = true ↔
    (∃ p, s.image.a0.value = some p ∧ p < 150) ∧ 300 ≤ s.governorUpdate.gov.demand ∧
    s.supply.source ≠ .intake ∧ s.image.a0.status ≠ .fault := by
  rw [unprimed_iff, primeCounted_demand on]
  simp only [State.primeCounted_frame]

/-- An update that does not raise PRIME_LOST leaves the set to the other tests (R102). -/
theorem judgePrimeLost_short {s : State} (short : s.gov.primeLossRun < 250) : s.judgePrimeLost =
    if 50 ≤ s.gov.primeReturnRun then s.causeAbsent .primeLost (optI16 s.pDis ++ u16 s.gov.demand) else s :=
  if_neg (not_le.mpr short)

/-- A suspending cause in the set stops the over-limit run (R104). -/
theorem judgeOverLimit_suspended {s : State} {c : Cause}
    (suspends : c ∈ [Cause.overheatCut, .primeLost, .tankEmpty, .pressureSensor])
    (here : (s.gov.causes.get c).active = true) (m : GovMode) :
    s.judgeOverLimit m = { s with gov := { s.gov with overRun := 0 } } := by
  have stopped : s.overLimit m = false := by
    rw [State.overLimit, Bool.and_eq_false_iff]
    exact .inr (List.all_eq_false.mpr ⟨c, suspends, by simp [here]⟩)
  simp [State.judgeOverLimit, stopped, runNext]

theorem causeAbsent_present {s : State} {c : Cause} (here : (s.gov.causes.get c).active = true) (v : List Byte) :
    (s.causeAbsent c v).gov.causes.get c = { s.gov.causes.get c with present := false } := by
  unfold State.causeAbsent
  cases present : (s.gov.causes.get c).present
  · have same : s.gov.causes.get c = { s.gov.causes.get c with present := false } := by rw [← present]
    simpa [present] using same
  · simp [here, present]

end Sys2Proof.Machine

/-! # PRIME, its success and its failure, and PRIME_LOST (R102, R113, R114) -/

namespace Sys2Proof.Machine

/-! ### The request (R113) -/

theorem exec_prime {tag : Byte} {payload : List Byte} {s t : State} {a : Answer} (listening : s.listening = true)
    (answered : answerPrime payload s.framed = (t, a)) :
    exec (.prime tag payload) s = .next ({ t with link := s.link }.answered 0x33 tag a) :=
  exec_request rfl listening (by simp) answered

/-- What a NOT_PERMITTED of some conditions shows (R155). -/
theorem notPermitted_shows (s : State) (names : List CondName) : ∃ d1 d2,
    s.notPermitted names none = .refused .notPermitted d1 d2 (BitVec.ofNat 8 s.matrix.mode.code) ∧
    ∀ n : CondName, n.code < 16 → ((natOfBytes [d1, d2]).testBit n.code = true ↔ n ∈ names) := by
  refine ⟨_, _, rfl, fun n low => ?_⟩
  have bytes (set : Nat) : natOfBytes [BitVec.ofNat 8 (set / 256), BitVec.ofNat 8 set] = set % 2 ^ 16 :=
    natOfBytes_u16 set
  rw [bytes, Nat.testBit_mod_two_pow, bitSet_testBit]
  simp [low, List.mem_map_of_injective condName_code_injective]

theorem primeFails_none (s : State) : s.primeFails = [] ↔
    s.matrix.mode = .stationaryPump ∧ s.supply.source ≠ .intake ∧ s.gov.demand ≤ 200 := by
  have none (name : CondName) (failing : Bool) : fails name failing = [] ↔ failing = false := by
    cases failing <;> simp [fails]
  simp [State.primeFails, none]

theorem mem_primeFails (s : State) : (.mode ∈ s.primeFails ↔ s.matrix.mode ≠ .stationaryPump) ∧
    (.source ∈ s.primeFails ↔ s.supply.source = .intake) ∧ (.demand ∈ s.primeFails ↔ 200 < s.gov.demand) := by
  simp [State.primeFails, mem_fails]

/-- START in order starts an idle primer with its count at 0, and is taken by a running one as it is (R113). -/
theorem answerPrime_ready {s : State} (ready : s.primeFails = []) : answerPrime [0] s = ({ s with gov :=
    if s.gov.primer = none then
      { s.gov with primer := some ⟨0, ⟨s.clock, s.config.gov.primeTime * 1000⟩⟩, primerElapsed := 0 }
    else s.gov }, .ok) := by
  change s.primeStart = _
  cases idle : s.gov.primer <;> simp [State.primeStart, ready, idle, State.startPrimer, State.startTimer, State.reads]

theorem answerPrime_refused {s : State} (refused : s.primeFails ≠ []) :
    answerPrime [0] s = (s, s.notPermitted s.primeFails none) := by
  change s.primeStart = _
  simp [State.primeStart, refused, State.reads]

theorem stopPrimer_eq (s : State) : s.stopPrimer = { s with gov :=
    match s.gov.primer with
    | none => s.gov
    | some r => { s.gov with primer := none, primerElapsed := s.clock - r.timer.startedAt } } := by
  cases running : s.gov.primer <;> simp [State.stopPrimer, running, State.elapsed]

theorem answerPrime_malformed {operand : Byte} (large : 2 ≤ operand.toNat) (s : State) :
    answerPrime [operand] s = (s, .refused .malformed 1 1 0) := by
  have start : operand ≠ 0#8 := by rintro rfl; simp at large
  have stop : operand ≠ 1#8 := by rintro rfl; simp at large
  simp only [answerPrime, if_neg start, if_neg stop]
  rfl

/-- START, by its conditions (R113). -/
theorem exec_primeStart {tag : Byte} {s : State} (listening : s.listening = true) :
    if s.matrix.mode = .stationaryPump ∧ s.supply.source ≠ .intake ∧ s.gov.demand ≤ 200 then
      exec (.prime tag [0]) s = .next ({ s with gov :=
        if s.gov.primer = none then
          { s.gov with primer := some ⟨0, ⟨s.clock, s.config.gov.primeTime * 1000⟩⟩, primerElapsed := 0 }
        else s.gov }.answered 0x33 tag (.done false false []))
    else ∃ d1 d2, exec (.prime tag [0]) s = .next (s.answered 0x33 tag
        (.refused .notPermitted d1 d2 (BitVec.ofNat 8 s.matrix.mode.code))) ∧
      ((natOfBytes [d1, d2]).testBit 0 = true ↔ s.matrix.mode ≠ .stationaryPump) ∧
      ((natOfBytes [d1, d2]).testBit 7 = true ↔ s.supply.source = .intake) ∧
      ((natOfBytes [d1, d2]).testBit 11 = true ↔ 200 < s.gov.demand) := by
  split
  · next ready =>
    have fails : s.framed.primeFails = [] := (primeFails_none s.framed).mpr ready
    rw [exec_prime listening (answerPrime_ready fails)]
    rfl
  · next unready =>
    have fails : s.framed.primeFails ≠ [] := fun none => unready ((primeFails_none s.framed).mp none)
    obtain ⟨d1, d2, answer, bits⟩ := notPermitted_shows s.framed s.framed.primeFails
    obtain ⟨mode, source, demand⟩ := mem_primeFails s.framed
    refine ⟨d1, d2, ?_, (bits .mode (by decide)).trans mode, (bits .source (by decide)).trans source,
      (bits .demand (by decide)).trans demand⟩
    rw [exec_prime listening (answerPrime_refused fails), answer]
    rfl

/-! ### The primer, which the judgements behind a pressure sample leave alone (R114, R142) -/

@[simp] theorem State.takeEffective_primer (s : State) (m : GovMode) (x : Int) :
    (s.takeEffective m x).gov.primer = s.gov.primer := by
  simp only [State.takeEffective, State.bumpless, State.effectiveRest, Governor.emptyRing]
  repeat' split
  all_goals rfl

@[simp] theorem State.settleRaised_primer (s : State) (c : Cause) :
    (s.settleRaised c).gov.primer = s.gov.primer := by
  unfold State.settleRaised
  split <;> simp

@[simp] theorem State.causeAbsent_primer (s : State) (c : Cause) (v : List Byte) :
    (s.causeAbsent c v).gov.primer = s.gov.primer := by
  rw [State.causeAbsent_gov]

@[simp] theorem State.raiseCause_primer (s : State) (c : Cause) (v : List Byte) :
    (s.raiseCause c v).gov.primer = s.gov.primer := by
  cases off : s.govOff
  · cases here : (s.gov.causes.get c).active
    · simp [raiseCause_joins v off here, joined_gov]
    · rw [raiseCause_again v off here]
      split <;> simp
  · simp [State.raiseCause, off]

@[simp] theorem State.judgePressureSensor_primer (s : State) :
    s.judgePressureSensor.gov.primer = s.gov.primer := by
  unfold State.judgePressureSensor
  repeat' split
  all_goals simp

@[simp] theorem State.raise_primer (s : State) (c : Cause) (v : List Byte) :
    (s.raise c v).gov.primer = s.gov.primer := by
  unfold State.raise
  dsimp only
  split <;> simp

@[simp] theorem State.judgeTankEmpty_primer (s : State) : s.judgeTankEmpty.gov.primer = s.gov.primer := by
  unfold State.judgeTankEmpty
  dsimp only
  split <;> simp

/-- The source handed on leaves an idle primer idle (R140). -/
theorem handSource_primer {s : State} (idle : s.gov.primer = none) : s.handSource.gov.primer = none := by
  obtain ⟨elapsed, stopped⟩ := stopPrimer_gov (if s.supply.source = .tank then s.abandonFill .abandoned else s)
  unfold State.handSource
  dsimp only
  simp only [State.judgeHorn_frame, State.judgeTankEmpty_primer]
  split
  · rw [stopped]
  · split <;> simpa using idle

theorem handSource_primeLost (s : State) :
    s.handSource.gov.causes.get .primeLost = s.gov.causes.get .primeLost := by
  obtain ⟨elapsed, stopped⟩ := stopPrimer_gov (if s.supply.source = .tank then s.abandonFill .abandoned else s)
  have judged (t : State) : t.judgeTankEmpty.gov.causes.get .primeLost = t.gov.causes.get .primeLost := by
    unfold State.judgeTankEmpty
    dsimp only
    split
    · exact raise_other t (by decide) (by decide) _
    · exact t.causeAbsent_other (by decide) _
  unfold State.handSource
  dsimp only
  simp only [State.judgeHorn_frame, judged]
  split
  · rw [stopped]
    dsimp only
    split <;> simp
  · split <;> simp

/-- A changeover judged at a pressure sample leaves an idle primer and PRIME_LOST as they are (R142). -/
theorem judgeChangeover_primer {s : State} (idle : s.gov.primer = none) : s.judgeChangeover.gov.primer = none ∧
    s.judgeChangeover.gov.causes.get .primeLost = s.gov.causes.get .primeLost := by
  unfold State.judgeChangeover
  split
  · exact ⟨idle, rfl⟩
  · extract_lets n
    split
    · exact ⟨handSource_primer (by simpa using idle), (handSource_primeLost _).trans (by simp)⟩
    · exact ⟨idle, rfl⟩

/-! ### Success (R114) -/

/-- The fiftieth qualifying sample in a row stops the primer, and PRIME_LOST's condition goes (R114). -/
theorem judgePrimer_succeeds {s : State} {r : PrimerRun} {p : Int} (running : s.gov.primer = some r)
    (good : s.image.a0.good = true) (value : s.image.a0.value = some p) (high : 150 ≤ p) (counted : 49 ≤ r.count) :
    s.judgePrimer = s.stopPrimer.causeAbsent .primeLost (optI16 s.pDis ++ u16 s.gov.demand) := by
  simp [State.judgePrimer, running, good, State.pDis, value, optAny, high, counted]

/-- A code in range is taken by a channel that is not in FAULT (R3, R4). -/
theorem sample_taken {ch : Channel} (scale : Nat → Int) {c : Code} (sound : ch.status ≠ .fault)
    (low : 300 ≤ c.toNat) (high : c.toNat ≤ 3700) :
    (ch.sample scale c).value = some (scale (clampedCode c)) ∧ (ch.sample scale c).good = true := by
  have inside : ¬(c.toNat < 300 ∨ 3700 < c.toNat) := by omega
  have taken : ch.proving = false := by simp [Channel.proving, sound]
  rw [Channel.sample, classify_in inside]
  dsimp only
  rw [Channel.inRange, taken, good_iff]
  exact ⟨rfl, by simp [Channel.take, markedStatus]; split <;> simp⟩

/-- A pressure sample as the primer finds it, where A0 stays out of FAULT (R2, R107). -/
theorem pressureSample_sound {s : State} {c0 c1 : Code}
    (sound : s.image.a0.good = (s.image.a0.sample scaleDischarge c0).good) : ∃ t : State,
    s.pressureSample c0 c1 = t.judgePrimer.judgeChangeover ∧ t.gov = s.gov ∧
    t.image.a0 = s.image.a0.sample scaleDischarge c0 := by
  unfold State.pressureSample
  dsimp only
  rw [if_pos sound]
  exact ⟨_, rfl, by simp, by simp⟩

theorem pressureSample_primes {s : State} {r : PrimerRun} {c0 : Code} (c1 : Code)
    (running : s.gov.primer = some r) (sound : s.image.a0.status ≠ .fault) (low : 550 ≤ c0.toNat)
    (high : c0.toNat ≤ 3600) (counted : 49 ≤ r.count) : (s.pressureSample c0 c1).gov.primer = none ∧
    ((s.gov.causes.get .primeLost).active = true →
      ((s.pressureSample c0 c1).gov.causes.get .primeLost).active = true ∧
      ((s.pressureSample c0 c1).gov.causes.get .primeLost).present = false) := by
  obtain ⟨value, good⟩ := sample_taken scaleDischarge sound (by omega : 300 ≤ c0.toNat) (by omega)
  obtain ⟨t, sampled, gov, a0⟩ := pressureSample_sound (c1 := c1) (((good_iff _).mpr sound).trans good.symm)
  have pressure : 150 ≤ scaleDischarge (clampedCode c0) := by
    unfold scaleDischarge clampedCode
    split_ifs <;> omega
  have succeeds := judgePrimer_succeeds (s := t) (by rw [gov]; exact running) (by rw [a0]; exact good)
    (by rw [a0]; exact value) pressure counted
  obtain ⟨elapsed, stopped⟩ := stopPrimer_gov t
  have idle : t.judgePrimer.gov.primer = none := by rw [succeeds, State.causeAbsent_primer, stopped]
  obtain ⟨kept, record⟩ := judgeChangeover_primer idle
  rw [sampled, record]
  refine ⟨kept, fun here => ?_⟩
  have before : (t.stopPrimer.gov.causes.get .primeLost).active = true := by rw [stopped, gov]; exact here
  rw [succeeds, causeAbsent_present before]
  exact ⟨before, rfl⟩

/-! ### PRIME_LOST at an update (R97, R98, R102) -/

/-- Behind a suspending cause the last two tests move the over-limit run, the record of OVERPRESSURE and its return run
alone, and leave a horn that sounds without mute (R104, R105). -/
theorem lastTests_suspended {s : State} {c : Cause}
    (suspends : c ∈ [Cause.overheatCut, .primeLost, .tankEmpty, .pressureSensor])
    (here : (s.gov.causes.get c).active = true) (m : GovMode) :
    (s.judgeOverLimit m).judgeReturn.gov = { s.gov with
      overRun := 0, causes := (s.judgeOverLimit m).judgeReturn.gov.causes
      returnRun := (s.judgeOverLimit m).judgeReturn.gov.returnRun } ∧
    (s.judgeOverLimit m).judgeReturn.gov.causes.get c = s.gov.causes.get c ∧
    (s.matrix.horn = true ∧ s.matrix.muted = false → (s.judgeOverLimit m).judgeReturn.matrix.horn = true ∧
      (s.judgeOverLimit m).judgeReturn.matrix.muted = false) := by
  have apart : c ≠ .overpressure := by rintro rfl; simp at suspends
  rw [judgeOverLimit_suspended suspends here]
  exact ⟨judgeReturn_gov ((notOnly_iff _).mpr ⟨c, apart, here⟩), judgeReturn_kept apart here,
    fun sounds => judgeReturn_sounds (s := { s with gov := { s.gov with overRun := 0 } }) apart here sounds⟩

/-- No PRIME_LOST raised: the set keeps it as it has it (R102). -/
theorem governorUpdate_primeLost_same {s : State} (on : s.govOff = false)
    (short : s.primeCounted.gov.primeLossRun < 250) :
    (s.governorUpdate.gov.causes.get .primeLost).active = (s.gov.causes.get .primeLost).active := by
  rw [governorUpdate_tests on, judgeReturn_active _ (by decide) (by decide),
    judgeOverLimit_other _ _ (by decide) (by decide), judgePrimeLost_short short]
  have ready := (primeCounted_ready s).other .primeLost (by decide) (by decide)
  split
  · rw [(causeAbsent_still ..).active, ready]
  · rw [ready]

/-- PRIME_LOST in the set, and no raising: fifty primed updates clear its condition (R102). -/
theorem governorUpdate_primed {s : State} {p : Int} (on : s.govOff = false) (sound : s.image.a0.status ≠ .fault)
    (value : s.image.a0.value = some p) (high : 150 ≤ p) (here : (s.gov.causes.get .primeLost).active = true) :
    (s.governorUpdate.gov.causes.get .primeLost).present =
      ((s.gov.causes.get .primeLost).present && decide (s.gov.primeReturnRun < 49)) := by
  have ready := primeCounted_ready s
  have record := ready.other .primeLost (by decide) (by decide)
  have active : (s.primeCounted.gov.causes.get .primeLost).active = true := by rw [record]; exact here
  have unprimed : s.primeCounted.unprimed = false := by
    rw [Bool.eq_false_iff, ne_eq, primeCounted_unprimed on]
    rintro ⟨⟨q, same, low⟩, -⟩
    cases value.symm.trans same
    omega
  have primed : s.primeCounted.primed = true := by
    simp [State.primed, State.pDis, (good_iff _).mpr sound, value, optAny, high]
  have short : s.primeCounted.gov.primeLossRun < 250 := by
    rw [ready.primeLossRun, unprimed]
    simp [runNext]
  have reached : 50 ≤ s.primeCounted.gov.primeReturnRun ↔ 49 ≤ s.gov.primeReturnRun := by
    rw [ready.primeReturnRun, primed, runNext_reached (by decide)]
    simp
  have judged : (s.primeCounted.judgePrimeLost.gov.causes.get .primeLost).active = true ∧
      (s.primeCounted.judgePrimeLost.gov.causes.get .primeLost).present =
        ((s.gov.causes.get .primeLost).present && decide (s.gov.primeReturnRun < 49)) := by
    rw [judgePrimeLost_short short]
    by_cases run : 49 ≤ s.gov.primeReturnRun
    · rw [if_pos (reached.mpr run), causeAbsent_present active]
      simp [active, run]
    · rw [if_neg (mt reached.mp run), record]
      simp [here, not_le.mp run]
  have joined : ((s.primeCounted.judgePrimeLost.judgeOverLimit s.gov.effMode).gov.causes.get .primeLost).active =
      true := by rw [judgeOverLimit_other _ _ (by decide) (by decide)]; exact judged.1
  rw [governorUpdate_tests on, judgeReturn_kept (by decide) joined, judgeOverLimit_other _ _ (by decide) (by decide)]
  exact judged.2

/-- The 250th unprimed update in a row raises PRIME_LOST (R102). -/
theorem judgePrimeLost_reached {s : State} (unprimed : s.primeCounted.unprimed = true)
    (run : 249 ≤ s.gov.primeLossRun) :
    s.primeCounted.judgePrimeLost = s.primeCounted.raise .primeLost
      (optI16 s.primeCounted.pDis ++ u16 s.primeCounted.gov.demand) ∧
    s.primeCounted.gov.primeLossRun = 250 := by
  have counted : s.primeCounted.gov.primeLossRun = 250 := by
    rw [(primeCounted_ready s).primeLossRun, unprimed]
    simp [runNext, run]
  exact ⟨if_pos counted.ge, counted⟩

/-- A cause that joins the set with an action of IDLE above all others takes the effective mode to rest (R69, R98). -/
theorem raise_idles {s : State} (on : s.govOff = false) (sound : s.image.a0.good = true) {c : Cause}
    (out : (s.gov.causes.get c).active = false) (v : List Byte) (idle : causeMode c = .idle)
    (engaged : s.seq.state = .engaged)
    (first : ∀ d, d ≠ c → (s.gov.causes.get d).active = true → causeRank c < causeRank d) :
    (s.raise c v).gov.effMode = .idle ∧ (s.raise c v).gov.effTarget = none ∧
    (s.raise c v).gov.effSetpoint = none := by
  have outranks : (s.joined c v).gov.outranksAll c = true := by
    refine (outranksAll_iff _ c).mpr fun d apart here => first d apart ?_
    simpa [joined_gov, PerCause.get_set_ne _ _ apart] using here
  rw [(raise_joins on sound out v).2, settleRaised_governs (by simpa [State.joined] using engaged) outranks, idle]
  exact ⟨rfl, rfl, rfl⟩

/-- PRIME_LOST raised by an update: in the set with its condition present, and with it newly there the horn sounds,
the first cause has saved the request, and above all others it takes the effective mode to IDLE (R97, R98, R102). -/
theorem governorUpdate_primeLost {s : State} (on : s.govOff = false) (unprimed : s.primeCounted.unprimed = true)
    (sound : s.image.a0.status ≠ .fault) (run : 249 ≤ s.gov.primeLossRun) :
    (s.governorUpdate.gov.causes.get .primeLost).active = true ∧
    (s.governorUpdate.gov.causes.get .primeLost).present = true ∧ s.governorUpdate.gov.primeLossRun = 250 ∧
    ((s.gov.causes.get .primeLost).active = false →
      s.governorUpdate.matrix.horn = true ∧ s.governorUpdate.matrix.muted = false ∧
      (s.gov.noCauses = true → s.governorUpdate.gov.saved = some ⟨s.gov.opMode, s.gov.opTarget⟩) ∧
      (s.seq.state = .engaged →
        (∀ c, (s.gov.causes.get c).active = true → c = .cavitation ∨ c = .pressureSensor ∨ c = .overpressure) →
        s.governorUpdate.gov.effMode = .idle ∧ s.governorUpdate.gov.effTarget = none ∧
        s.governorUpdate.gov.effSetpoint = none)) := by
  have ready := primeCounted_ready s
  have started := primeCounted_on on
  have good : s.primeCounted.image.a0.good = true := by simpa [good_iff] using sound
  obtain ⟨raised, counted⟩ := judgePrimeLost_reached unprimed run
  have judged := judgePrimeLost_judges s.primeCounted
  have saves := ready.toSaves.trans judged.toSaves
  obtain ⟨active, present⟩ : (s.primeCounted.judgePrimeLost.gov.causes.get .primeLost).active = true ∧
      (s.primeCounted.judgePrimeLost.gov.causes.get .primeLost).present = true := by
    rw [raised]
    exact State.raise_raises started (by decide) _
  obtain ⟨gov, record, sounds⟩ := lastTests_suspended (by decide) active s.gov.effMode
  rw [← governorUpdate_tests on] at gov record sounds
  have lossRun : s.governorUpdate.gov.primeLossRun = 250 := by rw [gov, ← counted, ← judged.primeLossRun]
  refine ⟨by rw [record, active], by rw [record, present], lossRun, fun out => ?_⟩
  have newly : (s.primeCounted.gov.causes.get .primeLost).active = false := by
    rw [ready.other _ (by decide) (by decide), out]
  obtain ⟨horn, muted⟩ := sounds (by
    rw [raised, (raise_joins started good newly _).1]
    exact joined_sounds ..)
  refine ⟨horn, muted, fun none => ?_, fun engaged below => ?_⟩
  · rw [gov]
    exact saves.of_first none (noCauses_false active)
  · have first (d : Cause) (apart : d ≠ .primeLost) (here : (s.primeCounted.gov.causes.get d).active = true) :
        causeRank .primeLost < causeRank d := by
      by_cases moved : d = .cavitation ∨ d = .pressureSensor
      · rcases moved with rfl | rfl <;> decide
      · rw [not_or] at moved
        rw [ready.other d moved.1 moved.2] at here
        rcases below d here with rfl | rfl | rfl <;> decide
    have idle := raise_idles started good newly (optI16 s.primeCounted.pDis ++ u16 s.primeCounted.gov.demand)
      (by decide) (by simpa using engaged) first
    rw [← raised] at idle
    rw [gov]
    exact idle

theorem primeExpiry_running {s : State} {r : PrimerRun} (running : s.gov.primer = some r) :
    s.primeExpiry = { s with
      gov := { s.gov with primer := none, primerElapsed := r.timer.length }
      reports := s.reports.submit (protReport .primeLost .primeFailed (u16 (r.timer.length / 100))) } := by
  rw [State.primeExpiry, running]
  rfl

/-- Settles O54: the request by its operand and its conditions, the two ends of a run, and the tests of PRIME_LOST by
the run that an update has counted. -/
theorem primerStartsAndStops : Obligations.PrimerStartsAndStops := by
  refine ⟨fun tag operand s listening => ?_, fun c0 c1 s r running sound low high counted =>
    ⟨s.pressureSample c0 c1, rfl, pressureSample_primes c1 running sound low high counted⟩,
    fun s => ⟨fun idle => ?_, fun r running => ?_⟩, fun s governing => ?_⟩
  · dsimp only
    split
    · next large =>
      rw [exec_prime listening (answerPrime_malformed large s.framed)]
      rfl
    · next small =>
      split
      · next stop =>
        subst stop
        rw [exec_prime listening (rfl : answerPrime [1] s.framed = (s.framed.stopPrimer, .ok)), stopPrimer_eq]
        rfl
      · next start =>
        obtain rfl : operand = 0 := by bv_omega
        exact exec_primeStart listening
  · rw [exec_event rfl, State.primeExpiry, idle]
  · rw [exec_event rfl, primeExpiry_running running]
  · have on : s.govOff = false := by simpa [State.govOff] using governing
    refine ⟨s.governorUpdate, rfl, fun idle => ?_, fun unprimed run => ?_, fun ⟨p, value, high⟩ sound here => ?_⟩
    · refine governorUpdate_primeLost_same on ?_
      rw [(primeCounted_ready s).primeLossRun, ← not_le, runNext_reached (by decide), primeCounted_unprimed on]
      rintro ⟨unprimed, reached⟩
      exact idle.elim (· unprimed) fun short => by omega
    · exact governorUpdate_primeLost on ((primeCounted_unprimed on).mpr unprimed) unprimed.2.2.2 run
    · exact governorUpdate_primed on sound value high here

end Sys2Proof.Machine

/-! # RESUME, and OVERPRESSURE raised and returned (R97, R98, R104, R105, R109) -/

namespace Sys2Proof.Machine

/-! ### Control returned to the operator (R69, R72, R107, R109) -/

/-- The effective mode taken: with target and a bumpless integrator, or at rest (R69, R72). -/
theorem takeEffective_takes (s : State) (m : GovMode) (x : Int) : (s.takeEffective m x).gov.effMode = m ∧
    if m.working = true then
      (s.takeEffective m x).gov.effTarget = some x ∧
      (s.takeEffective m x).gov.integrator = min (s.gov.demand * 256) 256000
    else (s.takeEffective m x).gov.effTarget = none ∧ (s.takeEffective m x).gov.effSetpoint = none := by
  unfold State.takeEffective
  split <;> exact ⟨rfl, rfl, rfl⟩

/-- An empty ring with its count at 0 stays so as the effective mode is taken (R72). -/
theorem takeEffective_empty {s : State} (ring : s.gov.ring = []) (suspect : s.gov.suspect = 0) (m : GovMode)
    (x : Int) : (s.takeEffective m x).gov.ring = [] ∧ (s.takeEffective m x).gov.suspect = 0 := by
  unfold State.takeEffective
  split
  · exact ⟨rfl, rfl⟩
  · unfold State.effectiveRest
    dsimp only
    split
    · exact ⟨ring, suspect⟩
    · exact ⟨rfl, rfl⟩

/-- The state before PRESSURE_SENSOR is judged afresh (R109). -/
def State.operatorTakes (s : State) : State :=
  (s.contextRestored.takeEffective s.contextRestored.gov.opMode s.contextRestored.gov.opTarget).judgeHorn

theorem returnToOperator_judged (s : State) : s.returnToOperator = s.operatorTakes.judgePressureSensor := rfl

@[simp] theorem State.contextRestored_demand (s : State) : s.contextRestored.gov.demand = s.gov.demand := by
  simp [State.contextRestored, Governor.emptyRing]

@[simp] theorem State.allCausesLeave_saved (s : State) : s.allCausesLeave.gov.saved = s.gov.saved := by
  refine foldl_keeps (fun t : State => t.gov.saved = s.gov.saved) State.causeLeaves Cause.all s rfl fun t c same => ?_
  rw [causeLeaves_gov]
  exact same

/-- The governor record with the saved context restored and taken (R105, R109). -/
theorem operatorTakes_gov {s : State} {ctx : SavedContext} (saved : s.gov.saved = some ctx) :
    (∀ c, (s.operatorTakes.gov.causes.get c).active = false) ∧ s.operatorTakes.gov.saved = none ∧
    s.operatorTakes.gov.opMode = ctx.mode ∧ s.operatorTakes.gov.opTarget = ctx.target ∧
    s.operatorTakes.gov.ring = [] ∧ s.operatorTakes.gov.suspect = 0 ∧ s.operatorTakes.gov.effMode = ctx.mode ∧
    if ctx.mode.working = true then
      s.operatorTakes.gov.effTarget = some ctx.target ∧
      s.operatorTakes.gov.integrator = min (s.gov.demand * 256) 256000
    else s.operatorTakes.gov.effTarget = none ∧ s.operatorTakes.gov.effSetpoint = none := by
  obtain ⟨mode, target⟩ : s.contextRestored.gov.opMode = ctx.mode ∧ s.contextRestored.gov.opTarget = ctx.target := by
    simp [State.contextRestored, saved]
  have taken := takeEffective_takes s.contextRestored ctx.mode ctx.target
  have empty := takeEffective_empty (s := s.contextRestored) rfl rfl ctx.mode ctx.target
  rw [s.contextRestored_demand] at taken
  simp only [State.operatorTakes, State.judgeHorn_frame, mode, target]
  refine ⟨fun c => ?_, ?_, by simp [mode], by simp [target], empty.1, empty.2, taken⟩
  · simpa using contextRestored_out s c
  · simp [State.contextRestored]

/-- With A0 sound nothing is raised afresh. -/
theorem returnToOperator_sound {s : State} {ctx : SavedContext} (saved : s.gov.saved = some ctx)
    (sound : s.image.a0.good = true) : s.returnToOperator = s.operatorTakes :=
  judgePressureSensor_still ((operatorTakes_gov saved).1 .pressureSensor)
    (.inl (by simpa [State.operatorTakes, State.contextRestored] using sound))

/-- A sensor in FAULT under a pressure mode raises PRESSURE_SENSOR afresh, with the context saved again (R107). -/
theorem returnToOperator_faulty {s : State} {ctx : SavedContext} (saved : s.gov.saved = some ctx)
    (faulty : s.image.a0.good = false) (pressure : ctx.mode = .pressure ∨ ctx.mode = .limit) :
    (∀ c, (s.returnToOperator.gov.causes.get c).active = true ↔ c = .pressureSensor) ∧
    s.returnToOperator.gov.saved = some ctx := by
  obtain ⟨out, -, mode, target, -⟩ := operatorTakes_gov saved
  have on : s.operatorTakes.govOff = false := by
    rw [State.govOff, mode]
    rcases pressure with mode | mode <;> rw [mode] <;> rfl
  have byPressure : s.operatorTakes.gov.opMode.byPressure = true := by
    rw [mode]
    rcases pressure with mode | mode <;> rw [mode] <;> rfl
  have bad : s.operatorTakes.image.a0.good = false := by
    simpa [State.operatorTakes, State.contextRestored] using faulty
  have raised : s.returnToOperator =
      s.operatorTakes.raiseCause .pressureSensor (optI16 s.operatorTakes.pDis) := by
    rw [returnToOperator_judged, State.judgePressureSensor, bad, byPressure]
    rfl
  rw [raised]
  refine ⟨fun c => ⟨fun here => ?_, ?_⟩, ?_⟩
  · by_contra apart
    rw [State.raiseCause_other _ apart, out c] at here
    exact absurd here (by simp)
  · rintro rfl
    exact (State.raiseCause_raises on _ _).1
  · rw [State.raiseCause_saves on ((noCauses_iff _).mpr out), mode, target]

theorem returnToOperator_operator {s : State} {ctx : SavedContext} (saved : s.gov.saved = some ctx) :
    s.returnToOperator.gov.opMode = ctx.mode ∧ s.returnToOperator.gov.opTarget = ctx.target := by
  obtain ⟨-, -, mode, target, -⟩ := operatorTakes_gov saved
  rw [returnToOperator_judged]
  simp [mode, target]

/-! ### RESUME (R109) -/

theorem exec_resume {tag : Byte} {s t : State} {a : Answer} (listening : s.listening = true)
    (answered : answerResume [] s.framed = (t, a)) :
    exec (.resume tag []) s = .next ({ t with link := s.link }.answered 0x32 tag a) :=
  exec_request rfl listening (by simp) answered

theorem answerResume_wrongState {s : State}
    (wrong : s.gov.opMode = .off ∨ s.seq.state = .held ∨ s.gov.noCauses = true) :
    answerResume [] s = (s, s.wrongState) := by
  simp [answerResume, State.govOff, or_assoc, wrong, State.reads]

theorem mem_standing (g : Governor) (c : Cause) :
    c ∈ g.standing ↔ (g.causes.get c).active = true ∧ (g.causes.get c).present = true := by
  simp [Governor.standing, Cause.mem_all]

theorem answerResume_ready {s : State}
    (ready : ¬(s.gov.opMode = .off ∨ s.seq.state = .held ∨ s.gov.noCauses = true)) : answerResume [] s =
      if s.gov.standing = [] then (s.returnToOperator, .ok)
      else (s, conditionPresent (bitSet (s.gov.standing.map causeCode))) := by
  simp only [not_or] at ready
  by_cases none : s.gov.standing = [] <;> simp [answerResume, State.govOff, ready, none, State.reads]

/-- CONDITION_PRESENT shows the set of causes in its second byte (R155). -/
theorem conditionPresent_shows (g : Governor) : ∃ set,
    conditionPresent (bitSet (g.standing.map causeCode)) = .refused .conditionPresent 0 set 0 ∧
    ∀ c, set.getLsbD (causeCode c) = true ↔
      (g.causes.get c).active = true ∧ (g.causes.get c).present = true := by
  have small : bitSet (g.standing.map causeCode) < 2 ^ 8 := by
    refine Nat.lt_pow_two_of_testBit _ fun k high => ?_
    rw [bitSet_testBit, decide_eq_false_iff_not, List.mem_map]
    rintro ⟨c, -, rfl⟩
    exact absurd (causeCode_lt c) (not_lt.mpr high)
  refine ⟨loByte (bitSet (g.standing.map causeCode)), ?_, fun c => ?_⟩
  · rw [conditionPresent, Nat.div_eq_of_lt (b := 256) small]
    rfl
  · rw [bitSet_getLsbD _ (causeCode_lt c), decide_eq_true_iff, List.mem_map_of_injective causeCode_injective,
      mem_standing]

/-- RESUME as R109 has it, by what it finds. -/
theorem exec_resume_answers {tag : Byte} {s : State} (listening : s.listening = true)
    (ready : ¬(s.gov.opMode = .off ∨ s.seq.state = .held ∨ s.gov.noCauses = true)) :
    (s.gov.standing ≠ [] → exec (.resume tag []) s =
      .next (s.answered 0x32 tag (conditionPresent (bitSet (s.gov.standing.map causeCode))))) ∧
    (s.gov.standing = [] → exec (.resume tag []) s =
      .next ({ s.framed.returnToOperator with link := s.link }.answered 0x32 tag (.done false false []))) := by
  have answer := answerResume_ready (s := s.framed) ready
  refine ⟨fun some => ?_, fun none => ?_⟩
  · rw [exec_resume listening (answer.trans (if_neg some))]
    rfl
  · exact exec_resume listening (answer.trans (if_pos none))

/-- An accepted RESUME gives the governor back with the saved context (R109). -/
theorem exec_resume_returns {tag : Byte} {s : State} {ctx : SavedContext} (listening : s.listening = true)
    (ready : ¬(s.gov.opMode = .off ∨ s.seq.state = .held ∨ s.gov.noCauses = true)) (quiet : s.gov.standing = [])
    (saved : s.gov.saved = some ctx) :
    ∃ u : State, exec (.resume tag []) s = .next (u.answered 0x32 tag (.done false false [])) ∧
      u = { s with gov := u.gov, matrix := u.matrix, reports := u.reports } ∧
      u.gov.opMode = ctx.mode ∧ u.gov.opTarget = ctx.target ∧ u.gov.demand = s.gov.demand ∧
      (s.image.a0.status ≠ .fault → (∀ c, (u.gov.causes.get c).active = false) ∧ u.gov.saved = none ∧
        u.gov.ring = [] ∧ u.gov.suspect = 0 ∧ u.gov.effMode = ctx.mode ∧
        if ctx.mode.working = true then
          u.gov.effTarget = some ctx.target ∧ u.gov.integrator = min (s.gov.demand * 256) 256000
        else u.gov.effTarget = none ∧ u.gov.effSetpoint = none) ∧
      (s.image.a0.status = .fault → ctx.mode = .pressure ∨ ctx.mode = .limit →
        (∀ c, (u.gov.causes.get c).active = true ↔ c = .pressureSensor) ∧ u.gov.saved = some ctx) := by
  have kept : s.framed.gov.saved = some ctx := saved
  obtain ⟨mode, target⟩ := returnToOperator_operator kept
  refine ⟨_, (exec_resume_answers listening ready).2 quiet, by ext1 <;> simp [State.framed], mode, target,
    by simp [State.framed], fun sound => ?_, fun faulty pressure => ?_⟩
  · obtain ⟨out, none, -, -, ring, suspect, governs⟩ := operatorTakes_gov kept
    have good : s.framed.image.a0.good = true := (good_iff _).mpr sound
    rw [returnToOperator_sound kept good]
    exact ⟨out, none, ring, suspect, governs⟩
  · have bad : s.framed.image.a0.good = false := by simpa [State.framed, ← Bool.not_eq_true, good_iff] using faulty
    exact returnToOperator_faulty kept bad pressure

/-! ### OVERPRESSURE at an update (R97, R98, R104, R105) -/

theorem causeAbsent_out {s : State} {c : Cause} (out : (s.gov.causes.get c).active = false) (v : List Byte) :
    s.causeAbsent c v = s := by
  simp [State.causeAbsent, out]

theorem judgeCavitation_quiet {s : State} (low : s.gov.suspect < 10)
    (out : (s.gov.causes.get .cavitation).active = false) : s.judgeCavitation = s := by
  simp [State.judgeCavitation, not_le.mpr low, causeAbsent_out out]

theorem judgePrimeLost_quiet {s : State} (short : s.gov.primeLossRun < 250)
    (out : (s.gov.causes.get .primeLost).active = false) : s.judgePrimeLost = s := by
  rw [judgePrimeLost_short short, causeAbsent_out out, ite_self]

/-- One update adds at most one to the suspect count (R100). -/
theorem counted_suspect_lt {s : State} (low : s.gov.suspect < 9) : s.counted.gov.suspect < 10 := by
  rw [State.counted, cavitationCounts_suspect]
  unfold State.suspectAfter suspectNext
  dsimp only
  split_ifs <;> omega

theorem primeRuns_kept (s : State) : s.primeRuns.gov.causes = s.gov.causes ∧ s.primeRuns.reports = s.reports :=
  ⟨rfl, rfl⟩

/-- With no CAVITATION in the set or near it, the counts alone are made before PRIME_LOST is judged (R101). -/
theorem primeCounted_quiet {s : State} (low : s.gov.suspect < 9)
    (out : (s.gov.causes.get .cavitation).active = false) : s.primeCounted = s.counted.primeRuns := by
  obtain ⟨-, -, causes, -⟩ := counted_gov s
  rw [State.primeCounted, judgeCavitation_quiet (counted_suspect_lt low) (by rw [causes]; exact out)]

/-- A0 sound: the test of CAVITATION keeps PRESSURE_SENSOR in the set or out of it (R107). -/
theorem judgeCavitation_sensor {s : State} (sound : s.image.a0.good = true) :
    (s.judgeCavitation.gov.causes.get .pressureSensor).active = (s.gov.causes.get .pressureSensor).active := by
  unfold State.judgeCavitation
  dsimp only
  split_ifs
  · exact raise_sensor sound (by decide) _
  · rw [(causeAbsent_still ..).active]
  · rfl

theorem primeCounted_sensor {s : State} (sound : s.image.a0.good = true) :
    (s.primeCounted.gov.causes.get .pressureSensor).active = (s.gov.causes.get .pressureSensor).active := by
  obtain ⟨-, -, causes, -⟩ := counted_gov s
  rw [State.primeCounted, (primeRuns_kept _).1, judgeCavitation_sensor (by simpa using sound), causes]

theorem overLimit_iff (s : State) (m : GovMode) : s.overLimit m = true ↔
    (∃ p, s.image.a0.value = some p ∧ (s.config.gov.pLimit : Int) < p) ∧ s.image.a0.good = true ∧ m.working = true ∧
    ∀ c ∈ [Cause.overheatCut, .primeLost, .tankEmpty, .pressureSensor], (s.gov.causes.get c).active = false := by
  have above : optAny s.pDis (fun p => decide ((s.config.gov.pLimit : Int) < p)) = true ↔
      ∃ p, s.image.a0.value = some p ∧ (s.config.gov.pLimit : Int) < p := by
    unfold State.pDis
    cases s.image.a0.value <;> simp [optAny]
  simp [State.overLimit, above, and_assoc]

theorem underReturn_iff (s : State) : s.underReturn = true ↔
    (∃ p, s.image.a0.value = some p ∧ p ≤ (s.config.gov.pLimit : Int) - 300) ∧ s.image.a0.good = true := by
  have below : optAny s.pDis (fun p => decide (p ≤ (s.config.gov.pLimit : Int) - 300)) = true ↔
      ∃ p, s.image.a0.value = some p ∧ p ≤ (s.config.gov.pLimit : Int) - 300 := by
    unfold State.pDis
    cases s.image.a0.value <;> simp [optAny]
  simp [State.underReturn, below]

/-- Above the return limit the last test makes the return run 0 and does nothing else (R105). -/
theorem judgeReturn_over {s : State} (above : s.underReturn = false) : ∃ run,
    s.judgeReturn = { s with gov := { s.gov with returnRun := run } } := by
  rw [judgeReturn_eq, above]
  split_ifs with active short
  · exact ⟨_, rfl⟩
  · simp [runNext] at short
  · simp [runNext] at short
  · exact ⟨s.gov.returnRun, rfl⟩

/-- The state with the over-limit run of an update counted (R104). -/
def State.overCounted (s : State) (run : Nat) : State := { s with gov := { s.gov with overRun := run } }

theorem judgeOverLimit_eq (s : State) (m : GovMode) : s.judgeOverLimit m =
    if 5 ≤ runNext 5 (s.overLimit m) s.gov.overRun then
      (s.overCounted (runNext 5 (s.overLimit m) s.gov.overRun)).raise .overpressure (optI16 s.pDis)
    else s.overCounted (runNext 5 (s.overLimit m) s.gov.overRun) := rfl

/-- An update over the limit: PRIME_LOST rests, the over-limit run is counted, and the fifth raises (R104). -/
theorem governorUpdate_over {s : State} {p : Int} (on : s.govOff = false) (sound : s.image.a0.status ≠ .fault)
    (value : s.image.a0.value = some p) (high : 800 ≤ (s.config.gov.pLimit : Int))
    (above : (s.config.gov.pLimit : Int) < p) (working : s.gov.effMode.working = true)
    (free : ∀ c ∈ [Cause.overheatCut, .primeLost, .tankEmpty, .pressureSensor], (s.gov.causes.get c).active = false) :
    ∃ t : State, (∃ run, s.governorUpdate = { t with gov := { t.gov with returnRun := run } }) ∧
      t = if 4 ≤ s.gov.overRun then (s.primeCounted.overCounted 5).raise .overpressure (i16 p)
        else s.primeCounted.overCounted (s.gov.overRun + 1) := by
  have ready := primeCounted_ready s
  have good := (good_iff _).mpr sound
  have unprimed : s.primeCounted.unprimed = false := by
    rw [Bool.eq_false_iff, ne_eq, primeCounted_unprimed on]
    rintro ⟨⟨q, same, low⟩, -⟩
    cases value.symm.trans same
    omega
  have quiet : s.primeCounted.judgePrimeLost = s.primeCounted := by
    refine judgePrimeLost_quiet ?_ ?_
    · rw [ready.primeLossRun, unprimed]
      simp [runNext]
    · rw [ready.other _ (by decide) (by decide)]
      exact free .primeLost (by decide)
  have limit : s.primeCounted.overLimit s.gov.effMode = true := by
    refine (overLimit_iff _ _).mpr ⟨⟨p, by simpa using value, by simpa using above⟩, by simpa using good, working,
      fun c mem => ?_⟩
    by_cases sensor : c = .pressureSensor
    · rw [sensor, primeCounted_sensor good]
      exact free .pressureSensor (by decide)
    · rw [ready.other c (by rintro rfl; simp at mem) sensor]
      exact free c mem
  have counted : s.primeCounted.judgeOverLimit s.gov.effMode =
      if 4 ≤ s.gov.overRun then (s.primeCounted.overCounted 5).raise .overpressure (i16 p)
      else s.primeCounted.overCounted (s.gov.overRun + 1) := by
    have shown : optI16 s.primeCounted.pDis = i16 p := by simp [State.pDis, value, optI16]
    rw [judgeOverLimit_eq, limit, ready.overRun, shown]
    by_cases run : 4 ≤ s.gov.overRun
    · have five : runNext 5 true s.gov.overRun = 5 := by simp [runNext, run]
      rw [five, if_pos le_rfl, if_pos run]
    · have next : runNext 5 true s.gov.overRun = s.gov.overRun + 1 := by simp [runNext]; omega
      rw [next, if_neg (by omega), if_neg run]
  refine ⟨_, ?_, counted⟩
  rw [governorUpdate_tests on, quiet]
  refine judgeReturn_over ?_
  rw [Bool.eq_false_iff, ne_eq, underReturn_iff]
  rintro ⟨⟨q, same, under⟩, -⟩
  have image : (s.primeCounted.judgeOverLimit s.gov.effMode).image = s.image := by simp
  have config : (s.primeCounted.judgeOverLimit s.gov.effMode).config = s.config := by simp
  rw [image, value] at same
  rw [config] at under
  cases same
  omega

/-! ### The first cause of the set (R96, R97, R98) -/

theorem raise_record {s : State} (on : s.govOff = false) {c : Cause} (out : (s.gov.causes.get c).active = false)
    (apart : c ≠ .pressureSensor) (v : List Byte) :
    (s.raise c v).gov.causes.get c = { active := true, present := true, target := s.actionTarget c } := by
  have record : (s.raiseCause c v).gov.causes.get c = ⟨true, true, s.actionTarget c⟩ := by
    rw [raiseCause_joins v on out]
    simp [joined_gov]
  unfold State.raise
  dsimp only
  split
  · exact record
  · rw [State.judgePressureSensor_other _ apart, record]

theorem causeSet_only {g : Governor} {c : Cause} (only : ∀ d, (g.causes.get d).active = true ↔ d = c) :
    g.causeSet = 2 ^ causeCode c := by
  have own : (fun d => (g.causes.get d).active) = fun d => d == c := by
    funext d
    rw [Bool.eq_iff_iff, only d, beq_iff_eq]
  rw [Governor.causeSet, own]
  cases c <;> rfl

theorem joined_reports (s : State) (c : Cause) (v : List Byte) : (s.joined c v).reports =
    s.reports.submit (protReport (causeSubject c) .raised (v ++ u8 (s.joined c v).gov.causeSet)) := by
  cases c <;> rfl

theorem joined_only {s : State} (none : s.gov.noCauses = true) (c d : Cause) (v : List Byte) :
    ((s.joined c v).gov.causes.get d).active = true ↔ d = c := by
  have out := (noCauses_iff s.gov).mp none d
  by_cases same : d = c <;> simp [joined_gov, PerCause.get_set_ne, same, out]

/-- With A0 sound the first cause joins, and nothing follows (R97, R107). -/
theorem raise_alone {s : State} (on : s.govOff = false) (sound : s.image.a0.good = true)
    (none : s.gov.noCauses = true) {c : Cause} (apart : c ≠ .pressureSensor) (v : List Byte) :
    s.raise c v = (s.joined c v).settleRaised c := by
  have out := (noCauses_iff s.gov).mp none
  rw [← raiseCause_joins v on (out c)]
  rcases raise_sound sound c v with e | e
  · exact e
  · rw [e]
    exact causeAbsent_out (by rw [State.raiseCause_other s apart.symm v, out]) _

/-- The first cause saves the request, is reported as the whole set, and governs while ENGAGED (R96, R97, R98). -/
theorem raise_first {s : State} (on : s.govOff = false) (sound : s.image.a0.good = true)
    (none : s.gov.noCauses = true) {c : Cause} (apart : c ≠ .pressureSensor) (v : List Byte) :
    (s.raise c v).gov.saved = some ⟨s.gov.opMode, s.gov.opTarget⟩ ∧
    (s.raise c v).reports = s.reports.submit (protReport (causeSubject c) .raised (v ++ u8 (2 ^ causeCode c))) ∧
    (s.seq.state = .engaged →
      s.raise c v = (s.joined c v).takeEffective (causeMode c) ((s.actionTarget c).getD 0)) := by
  have only := joined_only none c (v := v)
  rw [raise_alone on sound none apart]
  refine ⟨by simp [joined_gov, none], ?_, fun engaged => ?_⟩
  · rw [← causeSet_only only, ← joined_reports]
    simp
  · have first : (s.joined c v).gov.outranksAll c = true :=
      (outranksAll_iff _ c).mpr fun d other here => absurd ((only d).mp here) other
    have target : ((s.joined c v).gov.causes.get c).target = s.actionTarget c := by simp [joined_gov]
    rw [settleRaised_governs (by simpa [State.joined] using engaged) first, target]

/-! ### OVERPRESSURE raised (R104) -/

/-- OVERPRESSURE newly raised (R97, R98, R104). -/
theorem raise_overpressure {s : State} (on : s.govOff = false) (sound : s.image.a0.good = true)
    (out : (s.gov.causes.get .overpressure).active = false) (v : List Byte) :
    let u := s.raise .overpressure v
    let target := some (clampInt 0 s.config.gov.pSetMax ((s.config.gov.pLimit : Int) - 200))
    (u.gov.causes.get .overpressure).target = target ∧ u.matrix.horn = true ∧ u.matrix.muted = false ∧
    (s.gov.noCauses = true → u.gov.saved = some ⟨s.gov.opMode, s.gov.opTarget⟩ ∧
      u.reports = s.reports.submit (protReport .overpressure .raised (v ++ u8 8)) ∧
      (s.seq.state = .engaged → u.gov.effMode = .pressure ∧ u.gov.effTarget = target ∧
        u.gov.integrator = min (u.gov.demand * 256) 256000)) := by
  intro u target
  have sounds : u.matrix.horn = true ∧ u.matrix.muted = false := by
    rw [(raise_joins on sound out v).1]
    exact joined_sounds s .overpressure v
  refine ⟨?_, sounds.1, sounds.2, fun none => ?_⟩
  · rw [raise_record on out (by decide)]
    rfl
  · obtain ⟨saved, reports, governs⟩ := raise_first on sound none (c := .overpressure) (by decide) v
    refine ⟨saved, reports, fun engaged => ?_⟩
    obtain ⟨mode, takes⟩ := takeEffective_takes (s.joined .overpressure v) .pressure
      ((s.actionTarget .overpressure).getD 0)
    obtain ⟨governed, integrator⟩ := takes
    have same : u = (s.joined .overpressure v).takeEffective .pressure ((s.actionTarget .overpressure).getD 0) :=
      governs engaged
    rw [same, State.takeEffective_operator _ _ _ |>.2.2]
    exact ⟨mode, governed, integrator⟩

@[simp] theorem State.overCounted_frame (s : State) (run : Nat) : (s.overCounted run).config = s.config ∧
    (s.overCounted run).image = s.image ∧ (s.overCounted run).seq = s.seq ∧
    (s.overCounted run).reports = s.reports ∧ (s.overCounted run).gov = { s.gov with overRun := run } :=
  ⟨rfl, rfl, rfl, rfl, rfl⟩

/-- With no cause in the set and none near, the tests before OVERPRESSURE move neither set nor reports. -/
theorem primeCounted_alone {s : State} (none : s.gov.noCauses = true) (low : s.gov.suspect < 9) :
    s.primeCounted.gov.causes = s.gov.causes ∧ s.primeCounted.reports = s.reports := by
  obtain ⟨-, -, causes, -⟩ := counted_gov s
  obtain ⟨-, -, -, -, -, reports⟩ := s.counted_frame
  rw [primeCounted_quiet low ((noCauses_iff s.gov).mp none _), (primeRuns_kept _).1, (primeRuns_kept _).2]
  exact ⟨causes, reports⟩

/-- OVERPRESSURE newly raised by an update over the limit (R104). -/
theorem overCounted_raised {s : State} (on : s.govOff = false) (sound : s.image.a0.good = true)
    (out : (s.gov.causes.get .overpressure).active = false) (v : List Byte) :
    let u := (s.primeCounted.overCounted 5).raise .overpressure v
    let target := some (clampInt 0 s.config.gov.pSetMax ((s.config.gov.pLimit : Int) - 200))
    (u.gov.causes.get .overpressure).target = target ∧ u.matrix.horn = true ∧ u.matrix.muted = false ∧
    (s.gov.noCauses = true → s.gov.suspect < 9 → u.gov.saved = some ⟨s.gov.opMode, s.gov.opTarget⟩ ∧
      u.reports = s.reports.submit (protReport .overpressure .raised (v ++ u8 8)) ∧
      (s.seq.state = .engaged → u.gov.effMode = .pressure ∧ u.gov.effTarget = target ∧
        u.gov.integrator = min (u.gov.demand * 256) 256000)) := by
  have ready := primeCounted_ready s
  have started : (s.primeCounted.overCounted 5).govOff = false := by
    simpa [State.govOff] using primeCounted_on on
  have newly : ((s.primeCounted.overCounted 5).gov.causes.get .overpressure).active = false := by
    simpa [ready.other .overpressure (by decide) (by decide)] using out
  have raised := raise_overpressure started (by simpa using sound) newly v
  simp only [State.overCounted_frame, State.primeCounted_frame, ready.opMode, ready.opTarget] at raised
  obtain ⟨target, horn, muted, first⟩ := raised
  refine ⟨target, horn, muted, fun none low => ?_⟩
  obtain ⟨causes, reports⟩ := primeCounted_alone none low
  rw [reports] at first
  exact first ((noCauses_congr fun c => by rw [causes]).trans none)

/-- OVERPRESSURE above the limit, at an update in a mode with a setpoint and no suspending cause (R97, R98, R104). -/
theorem governorUpdate_raises {s : State} {p : Int} (on : s.govOff = false) (sound : s.image.a0.status ≠ .fault)
    (value : s.image.a0.value = some p) (high : 800 ≤ (s.config.gov.pLimit : Int))
    (above : (s.config.gov.pLimit : Int) < p) (working : s.gov.effMode.working = true)
    (free : ∀ c ∈ [Cause.overheatCut, .primeLost, .tankEmpty, .pressureSensor], (s.gov.causes.get c).active = false) :
    let u := s.governorUpdate
    let before := s.gov.causes.get .overpressure
    let after := u.gov.causes.get .overpressure
    u.gov.overRun = min (s.gov.overRun + 1) 5 ∧
    (s.gov.overRun < 4 → after.active = before.active) ∧
    (4 ≤ s.gov.overRun → after.active = true ∧ after.present = true ∧
      (before.active = false →
        after.target = some (clampInt 0 s.config.gov.pSetMax ((s.config.gov.pLimit : Int) - 200)) ∧
        u.matrix.horn = true ∧ u.matrix.muted = false ∧
        (s.gov.noCauses = true → s.gov.suspect < 9 →
          u.gov.saved = some ⟨s.gov.opMode, s.gov.opTarget⟩ ∧
          u.reports = s.reports.submit (protReport .overpressure .raised (i16 p ++ u8 8)) ∧
          (s.seq.state = .engaged → u.gov.effMode = .pressure ∧ u.gov.effTarget = after.target ∧
            u.gov.integrator = min (u.gov.demand * 256) 256000)))) := by
  dsimp only
  obtain ⟨t, ⟨run, update⟩, judged⟩ := governorUpdate_over on sound value high above working free
  have ready := primeCounted_ready s
  rw [update]
  by_cases raises : 4 ≤ s.gov.overRun
  · rw [if_pos raises] at judged
    have started : (s.primeCounted.overCounted 5).govOff = false := by
      simpa [State.govOff] using primeCounted_on on
    have counted : t.gov.overRun = 5 := by
      rw [judged, (raise_judges ..).overRun]
      rfl
    have raised := State.raise_raises started (c := .overpressure) (by decide) (i16 p)
    have newly (out : (s.gov.causes.get .overpressure).active = false) :=
      overCounted_raised on ((good_iff _).mpr sound) out (i16 p)
    rw [← judged] at raised newly
    refine ⟨counted.trans (by omega), fun few => absurd raises (by omega), fun _ =>
      ⟨raised.1, raised.2, fun out => ?_⟩⟩
    obtain ⟨target, horn, muted, first⟩ := newly out
    refine ⟨target, horn, muted, fun none suspect => ?_⟩
    obtain ⟨saved, reports, governs⟩ := first none suspect
    exact ⟨saved, reports, fun engaged => (governs engaged).imp id (.imp (·.trans target.symm) id)⟩
  · rw [if_neg raises] at judged
    refine ⟨?_, fun _ => ?_, fun many => absurd many raises⟩
    · rw [judged]
      simp only [State.overCounted_frame]
      omega
    · rw [judged]
      simp only [State.overCounted_frame]
      rw [ready.other _ (by decide) (by decide)]

/-! ### OVERPRESSURE returned (R105) -/

/-- The state as the return of OVERPRESSURE finds it at or below the limit (R104, R105). -/
def State.returnReady (s : State) : State := s.primeCounted.judgePrimeLost.overCounted 0

@[simp] theorem State.returnReady_frame (s : State) : s.returnReady.config = s.config ∧
    s.returnReady.image = s.image ∧ s.returnReady.seq = s.seq := by
  simp [State.returnReady]

/-- At or below the limit the over-limit run is 0, and the return is judged (R104, R105). -/
theorem governorUpdate_under {s : State} {p : Int} (on : s.govOff = false) (value : s.image.a0.value = some p)
    (low : p ≤ (s.config.gov.pLimit : Int)) : s.governorUpdate = s.returnReady.judgeReturn := by
  have stopped : s.primeCounted.judgePrimeLost.overLimit s.gov.effMode = false := by
    rw [Bool.eq_false_iff, ne_eq, overLimit_iff]
    rintro ⟨⟨q, same, above⟩, -⟩
    have image : s.primeCounted.judgePrimeLost.image = s.image := by simp
    have config : s.primeCounted.judgePrimeLost.config = s.config := by simp
    rw [image, value] at same
    rw [config] at above
    cases same
    omega
  rw [governorUpdate_tests on, judgeOverLimit_eq, stopped]
  rfl

theorem overCounted_saves {g : Governor} {s : State} (k : g.Saves s.gov) (run : Nat) :
    g.Saves (s.overCounted run).gov := ⟨k.opMode, k.opTarget, k.saved⟩

/-- What the tests before it leave of the record that the return of OVERPRESSURE reads. -/
theorem returnReady_gov (s : State) : s.gov.Saves s.returnReady.gov ∧ s.returnReady.gov.returnRun = s.gov.returnRun ∧
    s.returnReady.gov.causes.get .overpressure = s.gov.causes.get .overpressure ∧
    ∀ c, (s.gov.causes.get c).active = true → (s.returnReady.gov.causes.get c).active = true := by
  have ready := primeCounted_ready s
  have judged := judgePrimeLost_judges s.primeCounted
  obtain ⟨-, -, causes, -⟩ := counted_gov s
  have raises := ((judgeCavitation_raises s.counted).trans (primeRuns_raises _)).trans (judgePrimeLost_raises _)
  refine ⟨overCounted_saves (ready.toSaves.trans judged.toSaves) 0, ?_, ?_, fun c here => ?_⟩
  all_goals simp only [State.returnReady, State.overCounted_frame]
  · rw [judged.returnRun (by decide), ready.returnRun]
  · rw [judged.other _ (by decide) (by decide), ready.other _ (by decide) (by decide)]
  · exact raises.joined c (by rw [causes]; exact here)

/-- With OVERPRESSURE alone and no other cause near, the tests before it leave the set (R101, R102). -/
theorem returnReady_alone {s : State} (alone : ∀ c, c ≠ .overpressure → (s.gov.causes.get c).active = false)
    (low : s.gov.suspect < 9) (short : s.gov.primeLossRun < 249) : s.returnReady.gov.onlyOverpressure = true := by
  have ready := primeCounted_ready s
  obtain ⟨-, -, causes, -⟩ := counted_gov s
  have kept : s.primeCounted.gov.causes = s.gov.causes := by
    rw [primeCounted_quiet low (alone _ (by decide)), (primeRuns_kept _).1, causes]
  have quiet : s.primeCounted.judgePrimeLost = s.primeCounted := by
    refine judgePrimeLost_quiet ?_ (by rw [kept]; exact alone _ (by decide))
    rw [ready.primeLossRun, ← not_le, runNext_reached (by decide)]
    omega
  rw [State.returnReady, quiet, ← Bool.not_eq_false, notOnly_iff]
  rintro ⟨c, apart, here⟩
  simp [kept, alone c apart] at here

/-- The return run counts while the pressure stays low, and at 100 OVERPRESSURE returns (R105). -/
theorem judgeReturn_under {s : State} (under : s.underReturn = true)
    (here : (s.gov.causes.get .overpressure).active = true) :
    (s.gov.returnRun < 99 → s.judgeReturn = s.returnCounted ∧ s.returnCounted.gov.returnRun = s.gov.returnRun + 1) ∧
    (99 ≤ s.gov.returnRun → s.returnCounted.gov.returnRun = 100 ∧ s.judgeReturn =
      if s.seq.state = .engaged then s.returnCounted.overpressureReturns
      else s.returnCounted.causeAbsent .overpressure (optI16 s.pDis)) := by
  rw [judgeReturn_eq, if_pos here]
  have run : s.returnCounted.gov.returnRun = min (s.gov.returnRun + 1) 100 := by
    simp [State.returnCounted, under, runNext]
  rw [run, under]
  simp only [runNext, if_true]
  refine ⟨fun short => ⟨if_pos (by omega), by omega⟩, fun long => ⟨by omega, if_neg (by omega)⟩⟩

/-- OVERPRESSURE with another cause in the set leaves it, and the request stays with the saved context (R99, R105). -/
theorem overpressureReturns_beside {s : State} {d : Cause} (apart : d ≠ .overpressure)
    (other : (s.gov.causes.get d).active = true) :
    (s.overpressureReturns.gov.causes.get .overpressure).active = false ∧ s.overpressureReturns.gov.returnRun = 0 ∧
    s.overpressureReturns.gov.opMode = s.gov.opMode ∧ s.overpressureReturns.gov.opTarget = s.gov.opTarget ∧
    s.overpressureReturns.gov.saved = s.gov.saved ∧
    ∀ c, c ≠ .overpressure → s.overpressureReturns.gov.causes.get c = s.gov.causes.get c := by
  have gov := causeLeaves_gov s .overpressure
  have left := causeLeaves_out s .overpressure
  rw [overpressureReturns_others ((notOnly_iff s.gov).mpr ⟨d, apart, other⟩)]
  simp only [State.judgeHorn_frame]
  refine ⟨left, trivial, by rw [gov], by rw [gov], by rw [gov], fun c apart => ?_⟩
  rw [causeLeaves_get, if_neg apart]

/-- OVERPRESSURE at or below the return limit, at an update (R105). -/
theorem governorUpdate_returns {s : State} {p : Int} (on : s.govOff = false) (sound : s.image.a0.status ≠ .fault)
    (value : s.image.a0.value = some p) (low : p ≤ (s.config.gov.pLimit : Int) - 300)
    (here : (s.gov.causes.get .overpressure).active = true) :
    let u := s.governorUpdate
    let after := u.gov.causes.get .overpressure
    let alone : Prop := ∀ c, c ≠ .overpressure → (s.gov.causes.get c).active = false
    (s.gov.returnRun < 99 → after.active = true ∧ u.gov.returnRun = s.gov.returnRun + 1) ∧
    (99 ≤ s.gov.returnRun →
      (s.seq.state ≠ .engaged → after.active = true ∧ after.present = false ∧ u.gov.returnRun = 100) ∧
      (s.seq.state = .engaged → ¬alone →
        after.active = false ∧ u.gov.returnRun = 0 ∧ u.gov.opMode = s.gov.opMode ∧
        u.gov.opTarget = s.gov.opTarget ∧ u.gov.saved = s.gov.saved ∧
        ∀ c, c ≠ .overpressure → (s.gov.causes.get c).active = true → (u.gov.causes.get c).active = true) ∧
      (s.seq.state = .engaged → alone → s.gov.suspect < 9 → s.gov.primeLossRun < 249 →
        ∀ ctx, s.gov.saved = some ctx →
          (∀ c, (u.gov.causes.get c).active = false) ∧ u.gov.saved = none ∧ u.gov.opMode = ctx.mode ∧
          u.gov.opTarget = ctx.target ∧ u.gov.effMode = ctx.mode ∧
          if ctx.mode.working = true then
            u.gov.effTarget = some ctx.target ∧ u.gov.integrator = min (u.gov.demand * 256) 256000
          else u.gov.effTarget = none ∧ u.gov.effSetpoint = none)) := by
  dsimp only
  rw [governorUpdate_under on value (by omega)]
  obtain ⟨saves, sameRun, record, joined⟩ := returnReady_gov s
  have lonely := returnReady_alone (s := s)
  obtain ⟨config, image, seq⟩ := s.returnReady_frame
  have under : s.returnReady.underReturn = true :=
    (underReturn_iff _).mpr ⟨⟨p, by rw [image, value], by rwa [config]⟩, by rw [image, good_iff]; exact sound⟩
  have some : s.returnReady.gov.saved = s.gov.saved := saves.of_some (noCauses_false here)
  obtain ⟨opMode, opTarget, -⟩ := saves
  have good : s.returnReady.image.a0.good = true := by rw [image, good_iff]; exact sound
  rw [← record] at here
  rw [← sameRun, ← seq]
  generalize s.returnReady = t at *
  obtain ⟨counting, reached⟩ := judgeReturn_under under here
  refine ⟨fun short => ?_, fun long => ?_⟩
  · obtain ⟨same, run⟩ := counting short
    rw [same]
    exact ⟨here, run⟩
  obtain ⟨run, same⟩ := reached long
  rw [same]
  refine ⟨fun resting => ?_, fun engaged beside => ?_, fun engaged alone suspect lossRun ctx saved => ?_⟩
  · rw [if_neg resting, causeAbsent_present (by exact here), State.causeAbsent_gov]
    exact ⟨here, rfl, run⟩
  · obtain ⟨d, apart, other⟩ : ∃ d, d ≠ .overpressure ∧ (s.gov.causes.get d).active = true := by
      simpa using beside
    obtain ⟨left, zero, mode, target, saved, others⟩ :=
      overpressureReturns_beside (s := t.returnCounted) apart (joined d other)
    rw [if_pos engaged]
    refine ⟨left, zero, mode.trans opMode, target.trans opTarget, saved.trans some, fun c apart active => ?_⟩
    rw [others c apart]
    exact joined c active
  · have kept : t.returnCounted.gov.saved = Option.some ctx := some.trans saved
    have returned : t.returnCounted.overpressureReturns = t.returnCounted.operatorTakes :=
      (if_pos (lonely alone suspect lossRun)).trans (returnToOperator_sound kept good)
    obtain ⟨out, none, mode, target, -, -, governs⟩ := operatorTakes_gov kept
    have demand : t.returnCounted.operatorTakes.gov.demand = t.returnCounted.gov.demand := by
      simp [State.operatorTakes]
    rw [if_pos engaged, returned, demand]
    exact ⟨out, none, mode, target, governs⟩

/-- Settles O53: RESUME by what it finds, and the tests of OVERPRESSURE by the pressure of the update. -/
theorem resumeReturnsControl : Obligations.ResumeReturnsControl := by
  refine ⟨fun tag s listening => ?_, fun s p governing sound value => ?_⟩
  · dsimp only
    split
    · next wrong =>
      rw [exec_resume listening (answerResume_wrongState (s := s.framed) wrong)]
      rfl
    · next ready =>
      obtain ⟨refused, -⟩ := exec_resume_answers (tag := tag) listening ready
      refine ⟨fun ⟨c, stands⟩ => ?_, fun quiet ctx saved => ?_⟩
      · obtain ⟨set, shown, bits⟩ := conditionPresent_shows s.gov
        refine ⟨set, ?_, bits⟩
        rw [refused (List.ne_nil_of_mem ((mem_standing s.gov c).mpr stands)), shown]
      · refine exec_resume_returns listening ready ?_ saved
        exact List.eq_nil_iff_forall_not_mem.mpr fun c mem => quiet c ((mem_standing s.gov c).mp mem)
  · have on : s.govOff = false := by simpa [State.govOff] using governing
    refine ⟨s.governorUpdate, rfl, fun high above mode free => ?_,
      fun here low => governorUpdate_returns on sound value low here⟩
    have working : s.gov.effMode.working = true := by
      rcases mode with mode | mode | mode <;> rw [mode] <;> rfl
    exact governorUpdate_raises on sound value high above working free

end Sys2Proof.Machine

/-! # What each operation of the tank unit makes of a tank (R119 to R137) -/

namespace Sys2Proof

@[simp] theorem PerTank.set_get_self {α : Type} (p : PerTank α) (t : TankIx) : p.set t (p.get t) = p := by
  cases t <;> rfl

@[simp] theorem PerTank.set_set_self {α : Type} (p : PerTank α) (t : TankIx) (x y : α) :
    (p.set t x).set t y = p.set t y := by
  cases t <;> rfl

end Sys2Proof

namespace Sys2Proof.Machine

@[simp] theorem State.setTank_tanks (s : State) (t : TankIx) (r : TankRun) : (s.setTank t r).tanks = s.tanks.set t r := rfl

/-! ### The band (R123, R124) -/

/-- The band that a volume gives a tank: an UNUSED tank, and one without a volume, keeps its band. -/
def bandAt (c : TankSettings) (before : Band) (volume : Option Nat) : Band :=
  match volume with
  | none => before
  | some v => if c.role = .unused then before else bandNext c v before

/-- A tank's contents with the band evaluated. -/
def TankRun.banded (r : TankRun) (c : TankSettings) : TankRun := { r with band := bandAt c r.band r.volume }

@[simp] theorem evalBand_tanks (s : State) (t : TankIx) :
    (s.evalBand t).tanks = s.tanks.set t ((s.tanks.get t).banded (s.config.tanks.get t)) := by
  have kept (same : bandAt (s.config.tanks.get t) (s.tanks.get t).band (s.tanks.get t).volume = (s.tanks.get t).band) :
      s.tanks = s.tanks.set t ((s.tanks.get t).banded (s.config.tanks.get t)) := by
    rw [TankRun.banded, same]
    exact (PerTank.set_get_self _ t).symm
  unfold State.evalBand
  dsimp only
  split
  · next unused => exact kept (by unfold bandAt; split <;> simp [unused])
  · next used =>
    split
    · next absent => exact kept (by simp [bandAt, absent])
    · next v present =>
      have next : bandAt (s.config.tanks.get t) (s.tanks.get t).band (s.tanks.get t).volume =
          bandNext (s.config.tanks.get t) v (s.tanks.get t).band := by simp [bandAt, present, used]
      split
      · next same => exact kept (next.trans same)
      · rw [TankRun.banded, next]
        simp

@[simp] theorem reconcile_tanks (s : State) (t : TankIx) (v : Nat) : (s.reconcile t v).tanks =
    s.tanks.set t (((s.tanks.get t).adopted v).banded (s.config.tanks.get t)) := by
  simp [State.reconcile]

/-! ### The tank update (R136) -/

/-- A tank's contents with V settled by the tank's state, from those with the level worked. -/
def State.settledRun (s : State) (t : TankIx) (w : TankRun) : TankRun :=
  match w.state, w.sensed with
  | .unconfigured, _ => w
  | .sensed, some v => { w with volume := some v }
  | .sensed, none => { s.takeMarks (s.config.tanks.get t) w with state := .blind }
  | .blind, some v => w.adopted v
  | .blind, none | .travel, _ | .settling, _ => { w with volume := s.estimate t }

theorem settleVolume_tanks {s : State} {t : TankIx} (configured : (s.tanks.get t).state ≠ .unconfigured) :
    (s.settleVolume t).tanks =
      s.tanks.set t ((s.settledRun t (s.tanks.get t)).banded (s.config.tanks.get t)) := by
  cases state : (s.tanks.get t).state
  case unconfigured => exact absurd state configured
  all_goals cases sensed : (s.tanks.get t).sensed <;> simp [State.settleVolume, State.settledRun, state, sensed]

/-- V settles from what stands outside the tank's level, tilt, marks and sensed volume. -/
theorem settledRun_setTank (s : State) (t : TankIx) {w : TankRun} (basis : w.basis = (s.tanks.get t).basis)
    (volume : w.volume = (s.tanks.get t).volume) (v0 : w.v0 = (s.tanks.get t).v0)
    (outMark : w.outMark = (s.tanks.get t).outMark) (inMark : w.inMark = (s.tanks.get t).inMark) :
    (s.setTank t w).settledRun t w = s.settledRun t w := by
  have estimate : (s.setTank t w).estimate t = s.estimate t := by
    unfold State.estimate State.meteredVolume State.meteredOutflow State.meteredInflow
    simp [basis, volume, v0, outMark, inMark]
  unfold State.settledRun
  rw [estimate]
  simp [State.takeMarks]

/-- A tank's contents after a tank update. -/
def State.updatedRun (s : State) (t : TankIx) : TankRun :=
  (s.settledRun t (s.workLevel (s.config.tanks.get t) (s.tanks.get t))).banded (s.config.tanks.get t)

theorem tankUpdate_unconfigured {s : State} {t : TankIx} (h : (s.tanks.get t).state = .unconfigured) :
    s.tankUpdate t = s := if_pos h

theorem tankUpdate_tanks {s : State} {t : TankIx} (configured : (s.tanks.get t).state ≠ .unconfigured) :
    (s.tankUpdate t).tanks = s.tanks.set t (s.updatedRun t) := by
  have worked : ((s.setTank t (s.workLevel (s.config.tanks.get t) (s.tanks.get t))).settleVolume t).tanks =
      s.tanks.set t (s.updatedRun t) := by
    rw [settleVolume_tanks (by simpa [State.workLevel] using configured)]
    simp only [State.setTank_tanks, PerTank.get_set_self, PerTank.set_set_self]
    rw [settledRun_setTank s t (w := s.workLevel _ _) rfl rfl rfl rfl rfl]
    simp [State.updatedRun]
  unfold State.tankUpdate
  dsimp only
  rw [if_neg configured]
  split <;> simpa using worked

/-! ### The settle timer (R137, R138) -/

/-- A tank's contents after its settle timer's expiry in SETTLING. -/
def TankRun.expired (r : TankRun) (c : TankSettings) : TankRun :=
  match r.sensed with
  | some v => (r.adopted v).banded c
  | none => { r with state := .blind, settleTimer := none }

theorem settleExpiry_idle {s : State} {t : TankIx}
    (h : (s.tanks.get t).state ≠ .settling ∨ (s.tanks.get t).settleTimer = none) : s.settleExpiry t = s := by
  refine if_neg fun ⟨settling, running⟩ => ?_
  rcases h with other | stopped
  · exact other settling
  · simp [stopped] at running

theorem settleExpiry_tanks {s : State} {t : TankIx} (settling : (s.tanks.get t).state = .settling)
    (running : (s.tanks.get t).settleTimer ≠ none) :
    (s.settleExpiry t).tanks = s.tanks.set t ((s.tanks.get t).expired (s.config.tanks.get t)) := by
  cases sensed : (s.tanks.get t).sensed <;>
    simp [State.settleExpiry, TankRun.expired, settling, Option.isSome_iff_ne_none, running, sensed]

/-! ### The restart (R128) -/

@[simp] theorem restartTank_tanks (s : State) (t : TankIx) :
    (s.restartTank t).tanks = s.tanks.set t (s.restarted t) := by
  unfold State.restartTank
  dsimp only
  split <;> simp

end Sys2Proof.Machine

/-! # Every volume lies within its tank's capacity (R121, R122, R133) -/

namespace Sys2Proof.Machine

/-! ### The table (R121) -/

/-- In a table in order no volume is above the capacity (R116, R127). -/
theorem firstOffender_none_le {k : Nat} {table : List Breakpoint} {before : Option Breakpoint} {i : Nat}
    (h : firstOffender k before i table = none) : ∀ b ∈ table, b.volume ≤ k := by
  induction table generalizing before i with
  | nil => simp
  | cons b rest ih =>
    unfold firstOffender at h
    split at h
    · cases h
    · next fine =>
      have fits : b.volume ≤ k := by
        simp only [offends, Bool.or_eq_true, decide_eq_true_eq, not_or] at fine
        omega
      simpa [fits] using ih h

/-- What a table gives a level lies between volumes of the table, so no higher than all of them. -/
theorem volumeAt_le {k : Nat} {table : List Breakpoint} (h : ∀ b ∈ table, b.volume ≤ k) (level : Nat) :
    volumeAt table level ≤ k := by
  induction table with
  | nil => exact Nat.zero_le k
  | cons b rest ih =>
    cases rest with
    | nil => exact h b (by simp)
    | cons c rest =>
      have low : b.volume ≤ k := h b (by simp)
      have high : c.volume ≤ k := h c (by simp)
      unfold volumeAt
      split
      · exact low
      · split
        · next above below =>
          have part : (c.volume - b.volume) * (level - b.level) / (c.level - b.level) ≤ c.volume - b.volume := by
            refine Nat.div_le_of_le_mul ?_
            rw [Nat.mul_comm]
            exact Nat.mul_le_mul_right _ (by omega)
          omega
        · exact ih fun x mem => h x (List.mem_cons_of_mem b mem)

/-! ### One tank's contents -/

/-- The three volumes that a tank holds lie within a capacity (R122). -/
structure TankRun.Within (r : TankRun) (capacity : Nat) : Prop where
  volume : within capacity r.volume
  sensed : within capacity r.sensed
  v0 : within capacity r.v0

theorem within_none (k : Nat) : within k none := nofun

theorem within_some {k v : Nat} (h : v ≤ k) : within k (some v) := fun _ e => by cases e; exact h

theorem sensedVolume_within {t : TankIx} {c : TankSettings} (consistent : tankConsistent t c = true) (h : Option Nat) :
    within c.capacity (sensedVolume c h) := by
  obtain ⟨-, -, -, -, -, -, -, order⟩ := tankConsistent_iff.1 consistent
  cases h with
  | none => exact within_none _
  | some level => exact within_some (volumeAt_le (firstOffender_none_le order) level)

theorem startTank_within (c : TankSettings) (k : Nat) : (startTank c).Within k :=
  ⟨within_none k, within_none k, within_none k⟩

namespace TankRun.Within

variable {r : TankRun} {k : Nat}

theorem banded (h : r.Within k) (c : TankSettings) : (r.banded c).Within k := ⟨h.volume, h.sensed, h.v0⟩

theorem adopted (h : r.Within k) {v : Nat} (sensed : r.sensed = some v) : (r.adopted v).Within k :=
  ⟨fun x e => h.sensed x (sensed.trans e), h.sensed, within_none k⟩

theorem takeMarks (h : r.Within k) (s : State) (c : TankSettings) : (s.takeMarks c r).Within k :=
  ⟨h.volume, h.sensed, h.volume⟩

theorem workLevel (h : r.Within k) (s : State) {c : TankSettings} (sensed : ∀ level, within k (sensedVolume c level)) :
    (s.workLevel c r).Within k := ⟨h.volume, sensed _, h.v0⟩

theorem expired (h : r.Within k) (c : TankSettings) : (r.expired c).Within k := by
  unfold TankRun.expired
  split
  · next sensed => exact (h.adopted sensed).banded c
  · exact ⟨h.volume, h.sensed, h.v0⟩

end TankRun.Within

/-- The metered volume is clamped, and the other estimates are volumes the tank holds (R131, R133). -/
theorem estimate_within {s : State} {t : TankIx} (h : (s.tanks.get t).Within (s.config.tanks.get t).capacity) :
    within (s.config.tanks.get t).capacity (s.estimate t) := by
  have metered (v0 : Nat) : s.meteredVolume t v0 ≤ (s.config.tanks.get t).capacity := by
    unfold State.meteredVolume clampInt
    split_ifs <;> omega
  unfold State.estimate
  dsimp only
  split
  · intro x e
    obtain ⟨v0, -, rfl⟩ := Option.map_eq_some_iff.1 e
    exact metered v0
  · exact h.v0
  · exact within_none _
  · exact h.volume

theorem settledRun_within {s : State} {t : TankIx} {w : TankRun} {k : Nat} (h : w.Within k)
    (estimate : within k (s.estimate t)) : (s.settledRun t w).Within k := by
  have estimated : ({ w with volume := s.estimate t } : TankRun).Within k := ⟨estimate, h.sensed, h.v0⟩
  unfold State.settledRun
  split
  · exact h
  · next sensed => exact ⟨fun x e => h.sensed x (sensed.trans e), h.sensed, h.v0⟩
  · obtain ⟨volume, sensed, v0⟩ := h.takeMarks s (s.config.tanks.get t)
    exact ⟨volume, sensed, v0⟩
  · next sensed => exact h.adopted sensed
  all_goals exact estimated

theorem travelling_within {s : State} {t : TankIx} {k : Nat} (h : (s.tanks.get t).Within k) :
    (s.travelling t).Within k := by
  obtain ⟨volume, sensed, v0⟩ := h
  unfold State.travelling
  dsimp only
  split
  · exact ⟨volume, sensed, volume⟩
  all_goals exact ⟨volume, sensed, v0⟩

theorem settling_within {s : State} {t : TankIx} {k : Nat} (h : (s.tanks.get t).Within k) :
    (s.settling t).Within k := by
  obtain ⟨volume, sensed, v0⟩ := h
  unfold State.settling
  dsimp only
  split <;> exact ⟨volume, sensed, v0⟩

theorem restarted_within {s : State} {t : TankIx} (consistent : tankConsistent t (s.config.tanks.get t) = true) :
    (s.restarted t).Within (s.config.tanks.get t).capacity := by
  have started := startTank_within (s.config.tanks.get t) (s.config.tanks.get t).capacity
  have worked := started.workLevel s fun level => sensedVolume_within consistent level
  unfold State.restarted
  dsimp only
  split
  · exact started
  · split
    · next sensed => exact ⟨fun x e => worked.sensed x (sensed.trans e), worked.sensed, worked.v0⟩
    · exact worked

/-! ### The law, operation by operation -/

namespace State.VolumeLaw

variable {s u : State}

theorem within (h : s.VolumeLaw) (t : TankIx) : (s.tanks.get t).Within (s.config.tanks.get t).capacity := by
  obtain ⟨volume, sensed, v0⟩ := h.2 t
  exact ⟨volume, sensed, v0⟩

theorem of_within (consistent : s.config.TanksConsistent)
    (h : ∀ t, (s.tanks.get t).Within (s.config.tanks.get t).capacity) : s.VolumeLaw :=
  ⟨consistent, fun t => ⟨(h t).volume, (h t).sensed, (h t).v0⟩⟩

theorem of_runs (h : s.VolumeLaw) (config : u.config.tanks = s.config.tanks)
    (runs : ∀ t, (u.tanks.get t).Within (s.config.tanks.get t).capacity) : u.VolumeLaw :=
  of_within (fun t => by rw [config]; exact h.1 t) fun t => by rw [config]; exact runs t

theorem of_same (h : s.VolumeLaw) (config : u.config.tanks = s.config.tanks) (tanks : u.tanks = s.tanks) : u.VolumeLaw :=
  h.of_runs config fun t => by rw [tanks]; exact h.within t

/-- One tank's contents replaced. -/
theorem of_set (h : s.VolumeLaw) {t : TankIx} {r : TankRun} (config : u.config.tanks = s.config.tanks)
    (tanks : u.tanks = s.tanks.set t r) (w : r.Within (s.config.tanks.get t).capacity) : u.VolumeLaw := by
  refine h.of_runs config fun i => ?_
  rw [tanks, PerTank.get_set]
  split
  · next own => rwa [own]
  · exact h.within i

theorem updatedRun (h : s.VolumeLaw) (t : TankIx) : (s.updatedRun t).Within (s.config.tanks.get t).capacity := by
  have worked := (h.within t).workLevel s fun level => sensedVolume_within (h.1 t) level
  exact (settledRun_within worked (estimate_within (h.within t))).banded _

theorem tankUpdate (h : s.VolumeLaw) (t : TankIx) : (s.tankUpdate t).VolumeLaw := by
  by_cases unused : (s.tanks.get t).state = .unconfigured
  · rwa [tankUpdate_unconfigured unused]
  · exact h.of_set (by simp) (tankUpdate_tanks unused) (h.updatedRun t)

theorem settleExpiry (h : s.VolumeLaw) (t : TankIx) : (s.settleExpiry t).VolumeLaw := by
  by_cases runs : (s.tanks.get t).state = .settling ∧ (s.tanks.get t).settleTimer ≠ none
  · exact h.of_set (by simp) (settleExpiry_tanks runs.1 runs.2) ((h.within t).expired _)
  · rwa [settleExpiry_idle (by rwa [not_and_or, not_not] at runs)]

/-- A tank set moving keeps its volume as its start volume, and one that stops keeps both (R134, R135). -/
theorem roadGateEnd (h : s.VolumeLaw) : s.roadGateEnd.VolumeLaw := by
  refine h.of_runs (by simp) fun t => ?_
  rw [roadGateEnd_tank]
  split
  · exact travelling_within (h.within t)
  · split
    · exact settling_within (h.within t)
    · exact h.within t

/-- New settings restart their tank, whose contents then come from its new table alone (R128). -/
theorem configureTank (h : s.VolumeLaw) {t : TankIx} {c : TankSettings}
    (consistent : (s.configureTank t c).config.TanksConsistent) : (s.configureTank t c).VolumeLaw := by
  refine of_within consistent fun i => ?_
  have own := consistent t
  simp only [State.configureTank_config, WorkingConfig.setTank] at own ⊢
  have restarted := restarted_within (s := { s with config := s.config.setTank t c }) (t := t) own
  rw [State.configureTank, restartTank_tanks, PerTank.get_set, PerTank.get_set]
  split
  · simpa [WorkingConfig.setTank] using restarted
  · exact h.within i

theorem event (h : s.VolumeLaw) {c : Instr} {f : State → State} (e : eventOf c = some f) : (f s).VolumeLaw := by
  cases c <;> cases e
  case tankUpdate t => exact h.tankUpdate t
  case settleTimerExpiry t => exact h.settleExpiry t
  case roadSpeedGateEnd => exact h.roadGateEnd
  all_goals exact h.of_same (by simp) (by simp)

end State.VolumeLaw

/-! ### The requests -/

theorem WorkingConfig.Write.tanksConsistent {c d : WorkingConfig} (w : c.Write d) (h : c.TanksConsistent) :
    d.TanksConsistent := by
  cases w with
  | gates | entry => exact h
  | tank t x consistent =>
    intro u
    simp only [WorkingConfig.setTank, PerTank.get_set]
    split
    · next own =>
      rw [own]
      exact consistent (h t)
    · exact h u
  | param p x => simpa [WorkingConfig.TanksConsistent] using h

/-- A request configures one tank anew, or leaves every tank's settings and contents as they are. -/
def State.TanksKeptOrConfigured (s u : State) : Prop :=
  (u.config.tanks = s.config.tanks ∧ u.tanks = s.tanks) ∨ ∃ t c, u = s.configureTank t c

theorem State.TanksKeptOrConfigured.refl (s : State) : s.TanksKeptOrConfigured s := .inl ⟨rfl, rfl⟩

theorem tankSet_configures (s : State) (t : TankIx) (sent : TankSettings) :
    s.TanksKeptOrConfigured (s.tankSet t sent).1 := by
  unfold State.tankSet
  dsimp only
  repeat' split
  case h_2 => exact .inr ⟨_, _, rfl⟩
  all_goals exact .refl s

theorem answerTankSet_configures (p : List Byte) (s : State) : s.TanksKeptOrConfigured (answerTankSet p s).1 := by
  unfold answerTankSet
  repeat' split
  · exact .refl s
  · exact .refl s
  · exact tankSet_configures s _ _
  · exact .refl s

theorem tankTable_configures (s : State) (t : TankIx) (table : List Breakpoint) :
    s.TanksKeptOrConfigured (s.tankTable t table).1 := by
  unfold State.tankTable
  repeat' split
  case h_2 => exact .inr ⟨_, _, rfl⟩
  all_goals exact .refl s

theorem answerTankTable_configures (p : List Byte) (s : State) : s.TanksKeptOrConfigured (answerTankTable p s).1 := by
  unfold answerTankTable
  repeat' split
  case h_2.isFalse => exact tankTable_configures s _ _
  all_goals exact .refl s

theorem lockoutSet_tankSettings (s : State) (i : EntryIx) (e : Option LockoutEntry) :
    (s.lockoutSet i e).1.config.tanks = s.config.tanks := by
  have written (new : Option LockoutEntry) : (s.writeEntry i new).config.tanks = s.config.tanks := by
    simp only [State.writeEntry]
    split <;> simp
  unfold State.lockoutSet
  repeat' split
  case isFalse.isFalse => exact written _
  all_goals rfl

theorem answerLockoutSet_tankSettings (p : List Byte) (s : State) :
    (answerLockoutSet p s).1.config.tanks = s.config.tanks := by
  unfold answerLockoutSet
  repeat' split
  case h_2 => exact lockoutSet_tankSettings s _ _
  case h_3 => exact lockoutSet_tankSettings s _ _
  all_goals rfl

theorem answerParamSet_tankSettings (p : List Byte) (s : State) :
    (answerParamSet p s).1.config.tanks = s.config.tanks := by
  unfold answerParamSet State.paramSet State.writeParam
  dsimp only
  repeat' split
  all_goals simp [State.reads]

theorem answerGate_tankSettings (p : List Byte) (s : State) : (answerGate p s).1.config.tanks = s.config.tanks := by
  unfold answerGate
  repeat' split
  all_goals rfl

theorem answerKind_configures (kind : Byte) (p : List Byte) (s : State) :
    s.TanksKeptOrConfigured (answerKind kind p s).1 := by
  generalize e : answerKind kind p = answer
  unfold answerKind at e
  split at e <;> subst e
  case h_3 => exact .inl ⟨answerGate_tankSettings p s, by simp⟩
  case h_5 => exact .inl ⟨answerLockoutSet_tankSettings p s, by simp⟩
  case h_18 => exact answerTankTable_configures p s
  case h_19 => exact answerTankSet_configures p s
  case h_22 => exact .inl ⟨answerParamSet_tankSettings p s, by simp⟩
  all_goals exact .inl ⟨by simp [answerUnknown], by simp [answerUnknown]⟩

theorem answerKind_volumes {s : State} (h : s.VolumeLaw) (kind : Byte) (p : List Byte) :
    (answerKind kind p s).1.VolumeLaw := by
  have consistent : (answerKind kind p s).1.config.TanksConsistent := by
    rcases answerKind_writes kind p s with kept | ⟨-, written⟩
    · rw [kept]
      exact h.1
    · exact written.tanksConsistent h.1
  rcases answerKind_configures kind p s with ⟨config, tanks⟩ | ⟨t, c, e⟩
  · exact h.of_same config tanks
  · rw [e] at consistent ⊢
    exact h.configureTank consistent

/-! ### Every step -/

/-- Start-up leaves every tank without a volume, over settings that are consistent whatever the store holds (R116, R166,
R172). -/
theorem startUp_volumes (s : State) (found : List (Nat × StoreWord)) : (s.startUp found).VolumeLaw := by
  obtain ⟨-, -, consistent, -⟩ := loadStore_inRange (writeCells s.store.cells found)
  refine .of_within consistent fun t => ?_
  simpa [State.startUp] using startTank_within _ _

/-- Settles O18: what the table, the clamp of the metered litres and a restart give lies within the capacity, and every
other operation moves volumes that a tank holds already. -/
theorem volumeLawIsKept : Obligations.VolumeLawIsKept := by
  intro s t h e
  refine step_keeps (P := State.VolumeLaw) (fun _ _ h => h) (fun _ _ _ h e => ?_) h e
  exact exec_keeps (P := State.VolumeLaw) (fun _ _ _ h => h) (fun s found _ => startUp_volumes s found)
    (fun kind p _ h => answerKind_volumes h kind p) (fun _ ef _ h => h.event ef) h e

end Sys2Proof.Machine

/-! # TANK_EMPTY judged as a tank's band is handed on (R97, R99, R106, R124) -/

namespace Sys2Proof.Machine

/-- What the judgement of TANK_EMPTY on a band of tank 0 makes of the causes of `s` (R106). -/
def State.EmptyJudged (s u : State) (band : Band) : Prop :=
  if s.supply.source = .tank ∧ band = .empty then
    s.gov.opMode ≠ .off → (u.gov.causes.get .tankEmpty).active = true ∧ (u.gov.causes.get .tankEmpty).present = true
  else (u.gov.causes.get .tankEmpty).active = (s.gov.causes.get .tankEmpty).active ∧
    ((s.gov.causes.get .tankEmpty).active = true → (u.gov.causes.get .tankEmpty).present = false)

theorem causeAbsent_record (s : State) (c : Cause) (v : List Byte) :
    ((s.causeAbsent c v).gov.causes.get c).active = (s.gov.causes.get c).active ∧
    ((s.gov.causes.get c).active = true → ((s.causeAbsent c v).gov.causes.get c).present = false) := by
  cases here : (s.gov.causes.get c).active
  · rw [causeAbsent_out here]
    exact ⟨here, nofun⟩
  · rw [causeAbsent_present here]
    exact ⟨here, fun _ => rfl⟩

theorem judgeTankEmpty_judges (s : State) : s.EmptyJudged s.judgeTankEmpty (s.tanks.get .t0).band := by
  unfold State.EmptyJudged State.judgeTankEmpty
  dsimp only
  split
  · exact fun on => State.raise_raises (by simpa [State.govOff] using on) (by decide) _
  · exact causeAbsent_record s _ _

@[simp] theorem State.abandonFill_source (s : State) (st : ReportState) :
    (s.abandonFill st).supply.source = s.supply.source := by
  unfold State.abandonFill
  split <;> simp

@[simp] theorem State.recomputePermits_source (s : State) : s.recomputePermits.supply.source = s.supply.source := by
  simp only [State.recomputePermits, Permit.all, List.foldl]
  split <;> simp

@[simp] theorem State.matrixJudge_source (s : State) (sel : LockCond → Bool) :
    (s.matrixJudge sel).supply.source = s.supply.source := by simp [State.matrixJudge]

/-- A change of tank 0's band goes to the governor behind the fill and the matrix, which leave the source, the operator's
mode and the causes alone. -/
theorem handTank_judges {s u : State} {before : TankRun} (gov : u.gov = s.gov)
    (source : u.supply.source = s.supply.source) (changed : (u.tanks.get .t0).band ≠ before.band) :
    s.EmptyJudged (u.handTank .t0 before) (u.tanks.get .t0).band := by
  have filled (p : Prop) [Decidable p] : (if p then u.abandonFill .abandoned else u).gov = s.gov ∧
      (if p then u.abandonFill .abandoned else u).supply.source = s.supply.source ∧
      (if p then u.abandonFill .abandoned else u).tanks = u.tanks := by
    split <;> simp [gov, source]
  unfold State.handTank
  extract_lets r s1 s2
  obtain ⟨gov1, source1, tanks1⟩ : s1.gov = s.gov ∧ s1.supply.source = s.supply.source ∧ s1.tanks = u.tanks := filled _
  have judged : s2 = s1.matrixJudge (onTank .t0) := if_neg fun same => changed same.1
  obtain ⟨mode, -, -, -, -, -, causes⟩ := (matrixJudge_eased s1 (onTank .t0)).kept
  have empty := judgeTankEmpty_judges s2
  rw [if_pos ⟨rfl, changed⟩]
  simpa [State.EmptyJudged, judged, mode, causes, gov1, source1, tanks1] using empty

end Sys2Proof.Machine

/-! # TANK_UPDATE and SETTLE_TIMER_EXPIRY (R119 to R124, R133, R136 to R138) -/

namespace Sys2Proof.Machine

/-! ### The table (R121) -/

/-- A level at or above a breakpoint of a rising table is looked up from that breakpoint on. -/
theorem volumeAt_append {pre post : List Breakpoint} {b : Breakpoint} {h : Nat}
    (rising : (pre ++ b :: post).Pairwise (fun a b => a.level < b.level)) (above : b.level ≤ h) :
    volumeAt (pre ++ b :: post) h = volumeAt (b :: post) h := by
  induction pre with
  | nil => rfl
  | cons a pre ih =>
    obtain ⟨first, rest⟩ : _ ∧ (pre ++ b :: post).Pairwise _ := List.pairwise_cons.mp rising
    have low : a.level < b.level := first b (by simp)
    have next {d : Breakpoint} {ds : List Breakpoint} (same : pre ++ b :: post = d :: ds) : d.level ≤ b.level := by
      have mem : b ∈ d :: ds := same ▸ by simp
      rcases List.mem_cons.mp mem with rfl | later
      · exact le_rfl
      · exact ((List.pairwise_cons.mp (same ▸ rest)).1 b later).le
    rw [← ih rest, List.cons_append]
    rcases same : pre ++ b :: post with _ | ⟨d, ds⟩
    · simp at same
    · have := next same
      rw [volumeAt, if_neg (by omega), if_neg (by omega)]

theorem volumeAt_first {b : Breakpoint} {h : Nat} (below : h ≤ b.level) (rest : List Breakpoint) :
    volumeAt (b :: rest) h = b.volume := by
  cases rest with
  | nil => rfl
  | cons c rest => exact if_pos below

/-- Between two neighbours the volume is between theirs, truncated. -/
theorem volumeAt_between {b c : Breakpoint} {h : Nat} (above : b.level ≤ h) (below : h < c.level)
    (post : List Breakpoint) : volumeAt (b :: c :: post) h =
      b.volume + (c.volume - b.volume) * (h - b.level) / (c.level - b.level) := by
  rcases above.eq_or_lt with same | above
  · rw [volumeAt_first same.ge]
    simp [same]
  · rw [volumeAt, if_neg (by omega), if_pos below]

/-! ### Level and band (R119, R120, R123) -/

theorem levelValue_eq (s : State) (ch : LevelIx) : s.levelValue ch =
    if (s.image.levels.get ch).chan.status = .fault then none
    else (s.image.levels.get ch).chan.value.map Int.toNat := by
  by_cases fault : (s.image.levels.get ch).chan.status = .fault <;> simp [State.levelValue, Channel.good, fault]

theorem tiltedMark_iff (tilt : Option Int) : tiltedMark tilt = true ↔ ∃ x, tilt = some x ∧ (300 < x ∨ x < -300) := by
  cases tilt with
  | none => simp [tiltedMark, optAny]
  | some x =>
    simp only [tiltedMark, optAny, decide_eq_true_eq, Option.some.injEq, exists_eq_left']
    omega

/-- From EMPTY, in one line of conditions (R123). -/
theorem bandNext_empty (c : TankSettings) (v : Nat) : bandNext c v .empty =
    if c.emptyL + hyst c ≤ v ∧ c.fullL ≤ v then .full else if c.emptyL + hyst c ≤ v ∧ v ≤ c.reserveL then .reserve
    else if c.emptyL + hyst c ≤ v then .normal else .empty := by
  by_cases risen : c.emptyL + hyst c ≤ v <;> simp [bandNext, risen]

/-! ### A tank's contents after an update -/

/-- What settles V leaves the level, the tilt, the marks, the sensed volume and the band alone (R136). -/
theorem settledRun_kept (s : State) (t : TankIx) (w : TankRun) :
    (s.settledRun t w).h = w.h ∧ (s.settledRun t w).tilt = w.tilt ∧ (s.settledRun t w).single = w.single ∧
    (s.settledRun t w).tilted = w.tilted ∧ (s.settledRun t w).sensed = w.sensed ∧ (s.settledRun t w).band = w.band := by
  unfold State.settledRun
  split <;> simp [State.takeMarks, TankRun.adopted]

theorem updatedRun_level (s : State) (t : TankIx) :
    (s.updatedRun t).h = (s.tankLevel (s.config.tanks.get t)).h ∧
    (s.updatedRun t).tilt = (s.tankLevel (s.config.tanks.get t)).tilt ∧
    (s.updatedRun t).single = (s.tankLevel (s.config.tanks.get t)).single ∧
    (s.updatedRun t).tilted = tiltedMark (s.updatedRun t).tilt ∧
    (s.updatedRun t).sensed = (s.updatedRun t).h.map (volumeAt (s.config.tanks.get t).table) := by
  obtain ⟨h, tilt, single, tilted, sensed, -⟩ :=
    settledRun_kept s t (s.workLevel (s.config.tanks.get t) (s.tanks.get t))
  refine ⟨h, tilt, single, ?_, ?_⟩
  · exact tilted.trans (congrArg tiltedMark tilt.symm)
  · exact sensed.trans (congrArg (sensedVolume _) h.symm)

theorem updatedRun_band (s : State) (t : TankIx) : (s.updatedRun t).band =
    bandAt (s.config.tanks.get t) (s.tanks.get t).band (s.updatedRun t).volume := by
  obtain ⟨-, -, -, -, -, band⟩ := settledRun_kept s t (s.workLevel (s.config.tanks.get t) (s.tanks.get t))
  exact congrArg (fun b => bandAt _ b _) band

/-! What becomes of a tank by its state and the presence of a level (R136). -/

section ByState

variable {s : State} {t : TankIx}

theorem workLevel_sensed {h : Option Nat} (level : (s.updatedRun t).h = h) :
    (s.workLevel (s.config.tanks.get t) (s.tanks.get t)).sensed = h.map (volumeAt (s.config.tanks.get t).table) := by
  obtain ⟨worked, -⟩ := updatedRun_level s t
  rw [← level, worked]
  rfl

theorem updatedRun_senses {x : Nat} (state : (s.tanks.get t).state = .sensed) (level : (s.updatedRun t).h = some x) :
    (s.updatedRun t).state = .sensed ∧ (s.updatedRun t).volume = (s.updatedRun t).sensed := by
  obtain ⟨-, -, -, -, sensed⟩ := updatedRun_level s t
  have settled : s.settledRun t (s.workLevel (s.config.tanks.get t) (s.tanks.get t)) =
      { s.workLevel (s.config.tanks.get t) (s.tanks.get t) with
        volume := some (volumeAt (s.config.tanks.get t).table x) } := by
    have worked : (s.workLevel (s.config.tanks.get t) (s.tanks.get t)).state = .sensed := state
    simp only [State.settledRun, worked, workLevel_sensed level, Option.map_some]
  rw [sensed, level, State.updatedRun, settled]
  exact ⟨state, rfl⟩

theorem updatedRun_goesBlind (state : (s.tanks.get t).state = .sensed) (level : (s.updatedRun t).h = none) :
    s.updatedRun t = TankRun.banded
      { s.takeMarks (s.config.tanks.get t) (s.workLevel (s.config.tanks.get t) (s.tanks.get t)) with state := .blind }
      (s.config.tanks.get t) := by
  have worked : (s.workLevel (s.config.tanks.get t) (s.tanks.get t)).state = .sensed := state
  simp only [State.updatedRun, State.settledRun, worked, workLevel_sensed level, Option.map_none]

theorem updatedRun_adopts {x : Nat} (state : (s.tanks.get t).state = .blind) (level : (s.updatedRun t).h = some x) :
    (s.updatedRun t).state = .sensed ∧ (s.updatedRun t).basis = .sensed ∧
    (s.updatedRun t).volume = (s.updatedRun t).sensed ∧ (s.updatedRun t).v0 = none := by
  obtain ⟨-, -, -, -, sensed⟩ := updatedRun_level s t
  have settled : s.settledRun t (s.workLevel (s.config.tanks.get t) (s.tanks.get t)) =
      (s.workLevel (s.config.tanks.get t) (s.tanks.get t)).adopted (volumeAt (s.config.tanks.get t).table x) := by
    have worked : (s.workLevel (s.config.tanks.get t) (s.tanks.get t)).state = .blind := state
    simp only [State.settledRun, worked, workLevel_sensed level, Option.map_some]
  rw [sensed, level, State.updatedRun, settled]
  exact ⟨rfl, rfl, rfl, rfl⟩

/-- A tank in BLIND without a level, in TRAVEL and in SETTLING shows its estimate (R133). -/
theorem updatedRun_estimates {state : TankState} (same : (s.tanks.get t).state = state)
    (unsensed : state = .blind ∧ (s.updatedRun t).h = none ∨ state = .travel ∨ state = .settling) :
    (s.updatedRun t).state = state ∧ (s.updatedRun t).basis = (s.tanks.get t).basis ∧
    (s.updatedRun t).v0 = (s.tanks.get t).v0 ∧ (s.updatedRun t).volume = s.estimate t := by
  have settled : s.settledRun t (s.workLevel (s.config.tanks.get t) (s.tanks.get t)) =
      { s.workLevel (s.config.tanks.get t) (s.tanks.get t) with volume := s.estimate t } := by
    have worked : (s.workLevel (s.config.tanks.get t) (s.tanks.get t)).state = state := same
    rcases unsensed with ⟨rfl, level⟩ | rfl | rfl
    · simp only [State.settledRun, worked, workLevel_sensed level, Option.map_none]
    · simp only [State.settledRun, worked]
    · simp only [State.settledRun, worked]
  rw [State.updatedRun, settled]
  exact ⟨same, rfl, rfl, rfl⟩

end ByState

/-! ### The events -/

theorem tankUpdate_get {s : State} {t : TankIx} (configured : (s.tanks.get t).state ≠ .unconfigured) :
    (s.tankUpdate t).tanks.get t = s.updatedRun t := by
  rw [tankUpdate_tanks configured, PerTank.get_set_self]

/-- A fill that completes behind the hand-over moves neither the causes nor the tanks (R145). -/
theorem tankUpdate_judges {s : State} (configured : (s.tanks.get .t0).state ≠ .unconfigured)
    (changed : ((s.tankUpdate .t0).tanks.get .t0).band ≠ (s.tanks.get .t0).band) :
    s.EmptyJudged (s.tankUpdate .t0) ((s.tankUpdate .t0).tanks.get .t0).band := by
  have update : s.tankUpdate .t0 = (((s.setTank .t0 (s.workLevel (s.config.tanks.get .t0) (s.tanks.get .t0))).settleVolume
      .t0).judgeRise.handTank .t0 (s.tanks.get .t0)).judgeFillDone := by
    simp [State.tankUpdate, configured]
  rw [update] at changed ⊢
  simp only [State.judgeFillDone_frame, State.handTank_frame] at changed ⊢
  have judged := handTank_judges (s := s) (by simp) (by simp) changed
  simpa [State.EmptyJudged] using judged

theorem settleExpiry_judges {s : State}
    (changed : ((s.settleExpiry .t0).tanks.get .t0).band ≠ (s.tanks.get .t0).band) :
    s.EmptyJudged (s.settleExpiry .t0) ((s.settleExpiry .t0).tanks.get .t0).band := by
  unfold State.settleExpiry at changed ⊢
  dsimp only at changed ⊢
  split at changed
  · next runs =>
    rw [if_pos runs]
    split at changed
    · next v sensed =>
      simp only [State.handTank_frame] at changed ⊢
      exact handTank_judges (by simp) (by simp) changed
    · simp at changed
  · simp at changed

/-! ### The claim -/

/-- Settles O57: the table by its breakpoints, the update by what it makes of the tank (`tankUpdate_tanks`), the expiry by
`settleExpiry_tanks`, and TANK_EMPTY by the hand-over of the band (`handTank_judges`). -/
theorem tankUpdateAndSettlingDecideTheVolume : Obligations.TankUpdateAndSettlingDecideTheVolume := by
  refine ⟨fun table h rising => ⟨?_, ?_, ?_⟩, fun t s => ?_⟩
  · rintro b rest rfl below
    exact volumeAt_first below rest
  · rintro pre b rfl above
    exact volumeAt_append rising above
  · rintro pre b c post rfl above below
    rw [volumeAt_append rising above, volumeAt_between above below]
  intro c r level hyst bandAfter litres estimate handed
  have level_eq (ch : LevelIx) : level ch = s.levelValue ch := (levelValue_eq s ch).symm
  have band_eq (v : Option Nat) : bandAfter v = bandAt c r.band v := by
    cases v with
    | none => rfl
    | some v =>
      simp only [bandAfter, bandAt]
      split
      · rfl
      · cases r.band
        case empty => exact (bandNext_empty c v).symm
        all_goals rfl
  have litres_eq (now : BitVec 32) (mark : Option (BitVec 32)) (k : Nat) : litres now mark k = litresSince now mark k :=
    (litresSince_eq now mark k).symm
  have estimate_eq : estimate = s.estimate t := by
    simp only [estimate, State.estimate, r]
    cases (s.tanks.get t).basis
    case metered =>
      cases (s.tanks.get t).v0 with
      | none => rfl
      | some v0 => simp [State.meteredVolume, State.meteredOutflow, State.meteredInflow, litres_eq, c]
    all_goals cases (s.tanks.get t).v0 <;> rfl
  clear_value level bandAfter litres estimate
  refine ⟨fun unused => ?_, fun configured => ⟨s.tankUpdate t, rfl, ?_, ?_⟩, fun idle => ?_,
    fun settling running => ⟨s.settleExpiry t, rfl, ?_, ?_, ?_⟩⟩
  · exact congrArg (fun u : State => Host.Outcome.next u.kick) (tankUpdate_unconfigured unused)
  · ext1 <;> simp [tankUpdate_tanks configured]
  · intro r'
    have run : r' = s.updatedRun t := tankUpdate_get configured
    clear_value r'
    subst run
    obtain ⟨h, tilt, single, tilted, sensed⟩ : _ = (s.tankLevel c).h ∧ _ = (s.tankLevel c).tilt ∧
      _ = (s.tankLevel c).single ∧ _ := updatedRun_level s t
    refine ⟨?_, ?_, sensed, ?_, ?_, ?_⟩
    · have work : s.tankLevel c = levelWork (level c.fore) (c.aft.map level) := by rw [State.tankLevel, ← funext level_eq]
      rw [h, tilt, single, work]
      split
      · next alone => cases fore : level c.fore <;> simp [alone, levelWork]
      · next aft both =>
        rw [both]
        split
        all_goals next fore after => simp [fore, after, levelWork]
    · rw [tilted]
      exact tiltedMark_iff _
    · rw [band_eq]
      exact updatedRun_band s t
    · rintro rfl changed
      exact tankUpdate_judges configured changed
    · rw [estimate_eq]
      cases state : r.state
      case unconfigured => exact absurd state configured
      case sensed =>
        cases shown : (s.updatedRun t).h
        case none =>
          rw [updatedRun_goesBlind state shown]
          refine ⟨rfl, rfl, rfl, rfl, rfl, ?_⟩
          change basisOf c r.volume = _
          cases r.volume <;> rfl
        case some => exact updatedRun_senses state shown
      case blind =>
        cases shown : (s.updatedRun t).h
        case none => exact updatedRun_estimates state (.inl ⟨rfl, shown⟩)
        case some => exact updatedRun_adopts state shown
      case travel => exact updatedRun_estimates state (.inr (.inl rfl))
      case settling => exact updatedRun_estimates state (.inr (.inr rfl))
  · exact congrArg (fun u : State => Host.Outcome.next u.kick) (settleExpiry_idle idle)
  · ext1 <;> simp [settleExpiry_tanks settling running]
  · rintro rfl changed
    exact settleExpiry_judges changed
  · rw [settleExpiry_tanks settling running, PerTank.get_set_self, TankRun.expired]
    split
    · next v sensed =>
      simp [r, c, sensed, band_eq, TankRun.banded, TankRun.adopted]
    · next absent => simp only [r, absent]

end Sys2Proof.Machine

/-! # TANK_SET and TANK_TABLE (R116, R123, R125 to R128, R158) -/

namespace Sys2Proof.Machine

/-! ### The restart (R128) -/

theorem restarted_unused {s : State} {t : TankIx} (unused : (s.config.tanks.get t).role = .unused) :
    s.restarted t = startTank (s.config.tanks.get t) := if_pos unused

/-- No start volume, no marks and no settle timer outlive a restart. -/
theorem restarted_marks (s : State) (t : TankIx) : (s.restarted t).v0 = none ∧ (s.restarted t).outMark = none ∧
    (s.restarted t).inMark = none ∧ (s.restarted t).settleTimer = none := by
  unfold State.restarted
  dsimp only
  repeat' split
  all_goals exact ⟨rfl, rfl, rfl, rfl⟩

theorem restarted_blind {s : State} {t : TankIx} (used : (s.config.tanks.get t).role ≠ .unused)
    (level : (s.tankLevel (s.config.tanks.get t)).h = none) :
    s.restarted t = s.workLevel (s.config.tanks.get t) (startTank (s.config.tanks.get t)) := by
  simp [State.restarted, used, State.workLevel, sensedVolume, level]

/-- A level gives the restarted tank its volume at once, and the band of that volume from NORMAL (R123). -/
theorem restarted_sensed {s : State} {t : TankIx} {x : Nat} (used : (s.config.tanks.get t).role ≠ .unused)
    (level : (s.tankLevel (s.config.tanks.get t)).h = some x) :
    s.restarted t = { s.workLevel (s.config.tanks.get t) (startTank (s.config.tanks.get t)) with
      state := .sensed, basis := .sensed, volume := some (volumeAt (s.config.tanks.get t).table x)
      band := bandNext (s.config.tanks.get t) (volumeAt (s.config.tanks.get t).table x) .normal } := by
  simp [State.restarted, used, State.workLevel, sensedVolume, level]

/-- A tank's contents as a restart from these settings leaves them, by the level that its channels give. -/
def TankRun.RestartedFrom (r : TankRun) (c : TankSettings) (level : Option Nat) : Prop :=
  r.v0 = none ∧ r.outMark = none ∧ r.inMark = none ∧ r.settleTimer = none ∧
  if c.role = .unused then r.state = .unconfigured ∧ r.volume = none ∧ r.h = none ∧ r.basis = .none ∧ r.band = .normal
  else r.h = level ∧ r.sensed = level.map (volumeAt c.table) ∧
    match level with
    | none => r.state = .blind ∧ r.volume = none ∧ r.basis = .none ∧ r.band = .normal
    | some x => r.state = .sensed ∧ r.volume = some (volumeAt c.table x) ∧ r.basis = .sensed ∧
        r.band = bandNext c (volumeAt c.table x) .normal

theorem restarted_from (s : State) (t : TankIx) :
    (s.restarted t).RestartedFrom (s.config.tanks.get t) (s.tankLevel (s.config.tanks.get t)).h := by
  obtain ⟨v0, outMark, inMark, settleTimer⟩ := restarted_marks s t
  refine ⟨v0, outMark, inMark, settleTimer, ?_⟩
  split
  · next unused =>
    rw [restarted_unused unused]
    exact ⟨if_pos unused, rfl, rfl, rfl, rfl⟩
  · next used =>
    rcases level : (s.tankLevel (s.config.tanks.get t)).h with _ | x
    · rw [restarted_blind used level]
      exact ⟨level, congrArg (sensedVolume _) level, if_neg used, rfl, rfl, rfl⟩
    · rw [restarted_sensed used level]
      exact ⟨level, congrArg (sensedVolume _) level, rfl, rfl, rfl, rfl⟩

@[simp] theorem configureTank_tanks (s : State) (t : TankIx) (c : TankSettings) : (s.configureTank t c).tanks =
    s.tanks.set t (({ s with config := s.config.setTank t c } : State).restarted t) := by
  simp [State.configureTank]

/-! ### Tables and thresholds (R116, R125, R127) -/

theorem thresholdsOk_iff (c : TankSettings) :
    thresholdsOk c = true ↔ c.emptyL < c.reserveL ∧ c.reserveL < c.fullL ∧ c.fullL ≤ c.capacity := by
  simp [thresholdsOk, and_assoc]

theorem firstOver_none {k : Nat} {table : List Breakpoint} (fits : ∀ b ∈ table, b.volume ≤ k) :
    firstOver k table = none :=
  List.findIdx?_eq_none_iff.mpr fun x mem => by simpa using fits x mem

theorem firstOver_append {k : Nat} {pre : List Breakpoint} {b : Breakpoint} (above : k < b.volume)
    (fits : ∀ x ∈ pre, x.volume ≤ k) (post : List Breakpoint) : firstOver k (pre ++ b :: post) = some pre.length := by
  have clear : pre.findIdx? (fun b => decide (k < b.volume)) = none := firstOver_none fits
  simp [firstOver, List.findIdx?_append, List.findIdx?_cons, clear, above]

theorem offends_iff (k : Nat) (before : Option Breakpoint) (b : Breakpoint) : offends k before b = true ↔
    2000 < b.level ∨ k < b.volume ∨ ∃ p, before = some p ∧ (b.level ≤ p.level ∨ b.volume < p.volume) := by
  cases before <;> simp [offends, or_assoc]

/-- Behind a breakpoint, the last one of a part of the table is that of the part with the breakpoint in front. -/
theorem getLast_cons_or (a : Breakpoint) (pre : List Breakpoint) (before : Option Breakpoint) :
    (a :: pre).getLast?.or before = pre.getLast?.or (some a) := by
  rw [List.getLast?_cons]
  cases pre.getLast? <;> rfl

/-- No breakpoint of that part of a table offends in its place. -/
def InOrder (k : Nat) (before : Option Breakpoint) (part : List Breakpoint) : Prop :=
  ∀ pre b post, part = pre ++ b :: post → ¬offends k (pre.getLast?.or before) b = true

theorem InOrder.cons {k : Nat} {before : Option Breakpoint} {a : Breakpoint} {part : List Breakpoint}
    (h : InOrder k before (a :: part)) : ¬offends k before a = true ∧ InOrder k (some a) part :=
  ⟨h [] a part rfl, fun pre b post e => by
    have place := h (a :: pre) b post (by rw [e]; rfl)
    rwa [getLast_cons_or] at place⟩

/-- The first offending breakpoint is the one behind a part in order (R127). -/
theorem firstOffender_append {k : Nat} {before : Option Breakpoint} {pre : List Breakpoint} {b : Breakpoint}
    (order : InOrder k before pre) (bad : offends k (pre.getLast?.or before) b = true) (i : Nat)
    (post : List Breakpoint) : firstOffender k before i (pre ++ b :: post) = some (i + pre.length) := by
  induction pre generalizing before i with
  | nil => exact if_pos bad
  | cons a pre ih =>
    obtain ⟨fine, rest⟩ := order.cons
    rw [getLast_cons_or] at bad
    rw [List.cons_append, firstOffender, if_neg fine, ih rest bad, List.length_cons]
    congr 1
    omega

theorem firstOffender_none {k : Nat} {before : Option Breakpoint} {table : List Breakpoint}
    (order : InOrder k before table) (i : Nat) : firstOffender k before i table = none := by
  induction table generalizing before i with
  | nil => rfl
  | cons a table ih =>
    obtain ⟨fine, rest⟩ := order.cons
    rw [firstOffender, if_neg fine, ih rest]

/-! ### TANK_SET in the order of its checks (R125, R126) -/

/-- The settings that TANK_SET takes: capacity and tolerance clamped, with the table that the tank has. -/
def State.taken (s : State) (t : TankIx) (sent : TankSettings) : TankSettings :=
  { sent with
    capacity := clampNat 100 20000 sent.capacity, tolerance := clampNat 1 20 sent.tolerance
    table := (s.config.tanks.get t).table }

section Checks

variable {s : State} {t : TankIx} {sent : TankSettings}

theorem tankSet_busy (busy : s.storeBusy = true) : s.tankSet t sent = (s, storeBusyAnswer) := if_pos busy

theorem tankSet_moving (free : ¬s.storeBusy = true) (moving : s.notAtRest = true) :
    s.tankSet t sent = (s, s.wrongState) := by
  rw [State.tankSet, if_neg free, if_pos moving]
  rfl

variable (free : ¬s.storeBusy = true) (rest : ¬s.notAtRest = true)
include free rest

theorem tankSet_thresholds (bad : ¬thresholdsOk (s.taken t sent) = true) :
    s.tankSet t sent = (s, badTable 255) := by
  rw [State.tankSet, if_neg free, if_neg rest]
  exact if_pos (by simpa [State.taken] using bad)

section Thresholds

variable (fine : thresholdsOk (s.taken t sent) = true)
include fine

/-- Past the thresholds the table that stands is held to the new capacity. -/
theorem tankSet_over {i : Nat} (first : firstOver (s.taken t sent).capacity (s.taken t sent).table = some i) :
    s.tankSet t sent = (s, badTable i) := by
  rw [State.tankSet, if_neg free, if_neg rest]
  simp only [State.taken] at fine first
  simp only [fine, first]
  rfl

theorem tankSet_accepted (fits : firstOver (s.taken t sent).capacity (s.taken t sent).table = none) :
    s.tankSet t sent = (s.configureTank t (s.taken t sent), .done (decide ((s.taken t sent).capacity ≠ sent.capacity ∨
      (s.taken t sent).tolerance ≠ sent.tolerance)) false []) := by
  rw [State.tankSet, if_neg free, if_neg rest]
  simp only [State.taken] at fine fits ⊢
  simp only [fine, fits]
  rfl

end Thresholds

end Checks

/-! ### TANK_TABLE in the order of its checks (R127, R158) -/

section TableChecks

variable {s : State} {t : TankIx} {table : List Breakpoint}

theorem tankTable_busy (busy : s.storeBusy = true) : s.tankTable t table = (s, storeBusyAnswer) := if_pos busy

theorem tankTable_moving (free : ¬s.storeBusy = true) (moving : s.notAtRest = true) :
    s.tankTable t table = (s, s.wrongState) := by
  rw [State.tankTable, if_neg free, if_pos moving]
  rfl

variable (free : ¬s.storeBusy = true) (rest : ¬s.notAtRest = true)
include free rest

theorem tankTable_offender {i : Nat} (first : firstOffender (s.config.tanks.get t).capacity none 0 table = some i) :
    s.tankTable t table = (s, badTable i) := by
  rw [State.tankTable, if_neg free, if_neg rest, first]
  rfl

theorem tankTable_accepted (order : firstOffender (s.config.tanks.get t).capacity none 0 table = none) :
    s.tankTable t table = (s.configureTank t { s.config.tanks.get t with table }, .ok) := by
  rw [State.tankTable, if_neg free, if_neg rest, order]

end TableChecks

theorem countOk_iff (k : Nat) : countOk k = true ↔ 2 ≤ k ∧ k ≤ 16 := by simp [countOk]

/-- A count in order fixes the payload's length (R158). -/
theorem wrongLength_iff (count : Byte) (bits : List Byte) :
    (countOk count.toNat && bits.length != tableBytes count.toNat) = true ↔
      (2 ≤ count.toNat ∧ count.toNat ≤ 16) ∧ bits.length ≠ (26 * count.toNat + 7) / 8 := by
  simp [countOk_iff, tableBytes]

section Request

variable {s : State} {index count : Byte} {bits : List Byte}

theorem answerTankTable_wrongLength (wrong : (countOk count.toNat && bits.length != tableBytes count.toNat) = true) :
    answerTankTable (index :: count :: bits) s = (s, badLength (index :: count :: bits)) := if_pos wrong

variable (right : ¬(countOk count.toNat && bits.length != tableBytes count.toNat) = true)
include right

theorem answerTankTable_unknown (absent : tankOfNo index.toNat = none) :
    answerTankTable (index :: count :: bits) s = (s, .refused .unknownItem 0 index 0) := by
  rw [answerTankTable, if_neg right, ← unknownItem_byte]
  simp only [absent, State.reads]

theorem answerTankTable_count {t : TankIx} (named : tankOfNo index.toNat = some t)
    (wrong : ¬countOk count.toNat = true) :
    answerTankTable (index :: count :: bits) s = (s, malformedAt (bits.length + 2) 2) := by
  rw [answerTankTable, if_neg right]
  simp only [named, wrong]
  rfl

theorem answerTankTable_counted {t : TankIx} (named : tankOfNo index.toNat = some t)
    (counted : countOk count.toNat = true) :
    answerTankTable (index :: count :: bits) s = s.tankTable t (unpackTable count.toNat bits) := by
  rw [answerTankTable, if_neg right]
  simp only [named, counted]
  rfl

end Request

/-! ### The claim -/

theorem exec_tankSet {tag : Byte} {p : List Byte} {s u : State} {a : Answer} (listening : s.listening = true)
    (answered : answerTankSet p s.framed = (u, a)) :
    exec (.tankSet tag p) s = .next ({ u with link := s.link }.answered 0x42 tag a) :=
  exec_request rfl listening (by simp) answered

theorem exec_tankTable {tag : Byte} {p : List Byte} {s u : State} {a : Answer} (listening : s.listening = true)
    (answered : answerTankTable p s.framed = (u, a)) :
    exec (.tankTable tag p) s = .next ({ u with link := s.link }.answered 0x41 tag a) :=
  exec_request rfl listening (by simp) answered

/-- A refusal leaves the state and its reply. -/
theorem exec_tankSet_refused {tag : Byte} {p : List Byte} {s : State} {a : Answer} (listening : s.listening = true)
    (refused : answerTankSet p s.framed = (s.framed, a)) :
    exec (.tankSet tag p) s = .next (s.answered 0x42 tag a) :=
  exec_tankSet (u := s.framed) listening refused

theorem exec_tankTable_refused {tag : Byte} {p : List Byte} {s : State} {a : Answer} (listening : s.listening = true)
    (refused : answerTankTable p s.framed = (s.framed, a)) :
    exec (.tankTable tag p) s = .next (s.answered 0x41 tag a) :=
  exec_tankTable (u := s.framed) listening refused

/-- Settles O58: the checks of both requests in their order, and what an accepted one leaves by the restart. -/
theorem tankSetAndTankTableRestartTheTank : Obligations.TankSetAndTankTableRestartTheTank := by
  intro tag s listening accepted
  have accepts {k : Byte} {clamped : Bool} {t : TankIx} {c : TankSettings} {outcome : StepOutcome}
      (e : outcome = .next ({ s.framed.configureTank t c with link := s.link }.answered k tag
        (.done clamped false []))) : accepted k clamped t c outcome := by
    have run := restarted_from ({ s.framed with config := s.config.setTank t c } : State) t
    have settings : (s.config.setTank t c).tanks.get t = c := PerTank.get_set_self _ _ _
    refine ⟨_, e, by ext1 <;> simp [State.framed, WorkingConfig.setTank], ?_⟩
    simp only [settings] at run
    simp only [configureTank_tanks, PerTank.get_set_self]
    exact run
  refine ⟨fun index b1 b2 b3 b4 b5 b6 b7 b8 b9 b10 b11 b12 b13 b14 => ?_, fun payload short => ?_,
    fun index count bits => ?_⟩
  · intro outcome
    split
    · next absent => exact exec_tankSet_refused listening (by simp [answerTankSet, absent, State.reads, unknownItem_byte])
    · next t named =>
      split
      · next p bad =>
        exact exec_tankSet_refused listening (by simp [answerTankSet, named, bad, State.reads, malformedAt])
      · next sent read =>
        have request : answerTankSet [index, b1, b2, b3, b4, b5, b6, b7, b8, b9, b10, b11, b12, b13, b14] s.framed =
            s.framed.tankSet t sent := by simp only [answerTankSet, named, read]
        intro c
        split
        · next busy => exact exec_tankSet_refused listening (request.trans (tankSet_busy busy))
        · next free =>
          split
          · next moving =>
            exact exec_tankSet_refused listening (request.trans (tankSet_moving free (notAtRest_iff.mpr moving)))
          · next rest =>
            have rest : ¬s.framed.notAtRest = true := notAtRest_iff.not.mpr rest
            split
            · next bad =>
              exact exec_tankSet_refused listening
                (request.trans (tankSet_thresholds free rest ((thresholdsOk_iff c).not.mpr bad)))
            · next fine =>
              have fine : thresholdsOk c = true := (thresholdsOk_iff c).mpr (not_not.mp fine)
              refine ⟨fun pre b post table above fits => ?_, fun fits => ?_⟩
              · have first : firstOver c.capacity c.table = some pre.length := table ▸ firstOver_append above fits post
                exact exec_tankSet_refused listening (request.trans (tankSet_over (s := s.framed) free rest fine first))
              · exact accepts (exec_tankSet listening
                  (request.trans (tankSet_accepted free rest fine (firstOver_none fits))))
  · cases payload with
    | nil => exact exec_tankTable_refused listening rfl
    | cons index rest =>
      cases rest with
      | nil => exact exec_tankTable_refused listening rfl
      | cons => simp at short
  · intro outcome counted length
    split
    · next wrong =>
      exact exec_tankTable_refused listening (answerTankTable_wrongLength ((wrongLength_iff count bits).mpr wrong))
    · next right =>
      have right := (wrongLength_iff count bits).not.mpr right
      split
      · next absent => exact exec_tankTable_refused listening (answerTankTable_unknown right absent)
      · next t named =>
        intro c table offending
        split
        · next wrong =>
          exact exec_tankTable_refused listening
            (answerTankTable_count right named ((countOk_iff _).not.mpr wrong))
        · next counted =>
          have request := answerTankTable_counted (s := s.framed) right named ((countOk_iff _).mpr (not_not.mp counted))
          split
          · next busy => exact exec_tankTable_refused listening (request.trans (tankTable_busy (s := s.framed) busy))
          · next free =>
            split
            · next moving =>
              exact exec_tankTable_refused listening
                (request.trans (tankTable_moving (s := s.framed) free (notAtRest_iff.mpr moving)))
            · next rest =>
              have rest : ¬s.framed.notAtRest = true := notAtRest_iff.not.mpr rest
              have offends (pre : List Breakpoint) (b : Breakpoint) :
                  offends c.capacity (pre.getLast?.or none) b = true ↔ offending pre b := by
                rw [Option.or_none]
                exact offends_iff _ _ _
              refine ⟨fun pre b post parts bad first => ?_, fun fine => ?_⟩
              · have order : InOrder c.capacity none pre := fun pre' b' post' e =>
                  (offends pre' b').not.mpr (first pre' b' (post' ++ b :: post) (by simp [parts, e]) (by simp [e]))
                have place : firstOffender c.capacity none 0 table = some (0 + pre.length) :=
                  parts ▸ firstOffender_append order ((offends pre b).mpr bad) 0 post
                rw [Nat.zero_add] at place
                exact exec_tankTable_refused listening (request.trans (tankTable_offender (s := s.framed) free rest place))
              · have order : InOrder c.capacity none table := fun pre b post e => (offends pre b).not.mpr (fine pre b post e)
                exact accepts (exec_tankTable listening
                  (request.trans (tankTable_accepted free rest (firstOffender_none order 0))))

end Sys2Proof.Machine

/-! # What each hand-over makes of the supply record (R139, R142, R143, R145) -/

namespace Sys2Proof.Machine

@[simp] theorem State.abandonFill_supply (s : State) (st : ReportState) :
    (s.abandonFill st).supply = { s.supply with fill := none } := by
  unfold State.abandonFill
  split
  · next none => rw [← none]
  · rfl

/-- The recomputation of the permits abandons a fill where it withholds FILL, and moves nothing else of the supply. -/
theorem recomputePermits_supply (s : State) : s.recomputePermits.supply =
    if s.matrix.permits.fill && !s.recomputePermits.matrix.permits.fill then { s.supply with fill := none }
    else s.supply := by
  have filled (withheld : Bool) (t : State) (same : t.supply = s.supply) :
      (if withheld then t.abandonFill .abandoned else t).recomputeCap.matrix.permits = t.matrix.permits ∧
      (if withheld then t.abandonFill .abandoned else t).recomputeCap.supply =
        if withheld then { s.supply with fill := none } else s.supply := by
    cases withheld <;> simp [same]
  obtain ⟨permits, supply⟩ := filled
    (s.matrix.permits.fill && !(Permit.all.foldl State.recomputePermit s).matrix.permits.fill)
    (Permit.all.foldl State.recomputePermit s) (by simp [Permit.all])
  unfold State.recomputePermits
  rw [permits]
  exact supply

@[simp] theorem State.moveLock_permits (s : State) (i : EntryIx) (e : LockoutEntry) (n : LockState) :
    (s.moveLock i e n).matrix.permits = s.matrix.permits := by
  obtain ⟨-, -, permits, -⟩ := moveLock_outputs s i e n
  exact permits

@[simp] theorem State.judgeLock_permits (s : State) (i : EntryIx) :
    (s.judgeLock i).matrix.permits = s.matrix.permits := by
  unfold State.judgeLock
  split <;> simp

@[simp] theorem State.judgeLocks_permits (s : State) (sel : LockCond → Bool) :
    (s.judgeLocks sel).matrix.permits = s.matrix.permits := by
  refine foldl_keeps (fun t : State => t.matrix.permits = s.matrix.permits) _ _ s rfl fun t i h => ?_
  repeat' split
  all_goals simpa using h

theorem matrixJudge_supply (s : State) (sel : LockCond → Bool) : (s.matrixJudge sel).supply =
    if s.matrix.permits.fill && !(s.matrixJudge sel).matrix.permits.fill then { s.supply with fill := none }
    else s.supply := by
  simpa [State.matrixJudge] using recomputePermits_supply (s.judgeLocks sel)

/-- A change of mode leaves the source and the fill to what the matrix judges of them, ends a changeover or leaves it,
and judges the valve (R139, R143). -/
theorem handMode_supply (s : State) : s.handMode.ValveLaw ∧ s.handMode.supply.source = s.supply.source ∧
    s.handMode.supply.fill = s.supply.fill ∧
    (s.handMode.supply.changeover = s.supply.changeover ∨ s.handMode.supply.changeover = none) := by
  unfold State.handMode State.ValveLaw
  refine ⟨rfl, ?_⟩
  dsimp only
  split_ifs <;> simp [State.judgeValve, State.dropChangeover]

/-- A new source ends a fill where it is TANK, and moves nothing else of the supply (R145). -/
@[simp] theorem State.handSource_supply (s : State) : s.handSource.supply =
    if s.supply.source = .tank then { s.supply with fill := none } else s.supply := by
  unfold State.handSource
  dsimp only
  split_ifs <;> simp

end Sys2Proof.Machine

/-! # The valve and the fill through the matrix and the sequencer (R139, R143 to R145) -/

namespace Sys2Proof.Machine

/-! ### What an operation keeps of the water -/

/-- The laws of the valve and of a fill in progress outlast the operation (R139, R144, R145). -/
structure State.KeepsFlow (s t : State) : Prop where
  valve : s.ValveLaw → t.ValveLaw
  fill : s.FillLaw → t.FillLaw

/-- Besides, with no changeover in progress the source stays, and the operation enters no engagement. Of all operations
only SOURCE moves the source then (R140), and only CONFIRM enters ENGAGED (R54). -/
structure State.KeepsWater (s t : State) : Prop extends s.KeepsFlow t where
  source : s.supply.changeover = none → t.supply.changeover = none ∧ t.supply.source = s.supply.source
  engaged : t.seq.state = .engaged → t.seq = s.seq

namespace State.KeepsFlow

theorem trans {s t u : State} (h : s.KeepsFlow t) (k : t.KeepsFlow u) : s.KeepsFlow u :=
  ⟨k.valve ∘ h.valve, k.fill ∘ h.fill⟩

/-- A judged valve has its law; a fill ended, or left with its permit and its source, keeps its own. -/
theorem of_valve {s t : State} (valve : t.ValveLaw) (fill : t.supply.fill = none ∨ t.supply.fill = s.supply.fill)
    (permit : t.matrix.permits.fill = s.matrix.permits.fill) (source : t.supply.source = s.supply.source) :
    s.KeepsFlow t where
  valve _ := valve
  fill h some := by
    rw [permit, source]
    exact h (fill.resolve_left some ▸ some)

/-- Where the matrix's outputs stay and the supply too, or with its fill ended, both laws stand. -/
theorem of_outputs {s t : State} (matrix : s.SameOutputs t)
    (supply : t.supply = s.supply ∨ t.supply = { s.supply with fill := none }) : s.KeepsFlow t := by
  obtain ⟨mode, -, permits, -, -⟩ := matrix
  constructor
  · intro h
    rw [State.ValveLaw, State.valveOpen, mode]
    rcases supply with e | e <;> rw [e] <;> exact h
  · intro h
    rw [State.FillLaw, permits]
    rcases supply with e | e <;> rw [e]
    · exact h
    · exact fun some => absurd rfl some

end State.KeepsFlow

namespace State.KeepsWater

theorem trans {s t u : State} (h : s.KeepsWater t) (k : t.KeepsWater u) : s.KeepsWater u where
  toKeepsFlow := h.toKeepsFlow.trans k.toKeepsFlow
  source none := by
    obtain ⟨still, same⟩ := h.source none
    obtain ⟨after, source⟩ := k.source still
    exact ⟨after, source.trans same⟩
  engaged state := by
    have same := k.engaged state
    exact same.trans (h.engaged (same ▸ state))

theorem of_ended {s t : State} (matrix : s.SameOutputs t)
    (supply : t.supply = s.supply ∨ t.supply = { s.supply with fill := none })
    (engaged : t.seq.state = .engaged → t.seq = s.seq) : s.KeepsWater t where
  toKeepsFlow := .of_outputs matrix supply
  source none := by rcases supply with e | e <;> rw [e] <;> exact ⟨none, rfl⟩
  engaged := engaged

/-- What leaves the matrix's outputs, the supply and the sequencer alone. -/
theorem of_same {s t : State} (matrix : s.SameOutputs t) (supply : t.supply = s.supply) (seq : t.seq = s.seq) :
    s.KeepsWater t := of_ended matrix (.inl supply) fun _ => seq

theorem of_still {s t : State} (matrix : t.matrix.butHorn = s.matrix.butHorn) (supply : t.supply = s.supply)
    (seq : t.seq = s.seq) : s.KeepsWater t := of_same (.of_butHorn matrix) supply seq

theorem refl (s : State) : s.KeepsWater s := of_still rfl rfl rfl

end State.KeepsWater

/-! ### The matrix -/

theorem recomputePermits_water (s : State) : s.KeepsWater s.recomputePermits := by
  have supply := recomputePermits_supply s
  constructor
  · constructor
    · intro h
      have mode : s.recomputePermits.matrix.mode = s.matrix.mode := by simp
      rw [State.ValveLaw, State.valveOpen, mode, supply]
      split <;> exact h
    · intro h some
      rw [supply] at some ⊢
      split at some
      · exact absurd rfl some
      · next kept =>
        obtain ⟨permit, source⟩ := h some
        rw [if_neg kept]
        exact ⟨by simpa [permit] using kept, source⟩
  · intro none
    rw [supply]
    split <;> exact ⟨none, rfl⟩
  · simp

theorem matrixRecompute_water (s : State) : s.KeepsWater s.matrixRecompute :=
  (recomputePermits_water s).trans (.of_still (by simp [State.matrixRecompute]) rfl rfl)

theorem judgeLock_water (s : State) (i : EntryIx) : s.KeepsWater (s.judgeLock i) := by
  unfold State.judgeLock
  split
  · exact .refl s
  · exact .of_same (moveLock_outputs s i _ _) (by simp) (by simp)

theorem matrixJudge_water (s : State) (sel : LockCond → Bool) : s.KeepsWater (s.matrixJudge sel) := by
  have judged : s.KeepsWater (s.judgeLocks sel) := by
    refine foldl_keeps s.KeepsWater _ _ s (.refl s) fun t i h => ?_
    repeat' split
    · exact h
    · exact h.trans (judgeLock_water t i)
    · exact h
  exact judged.trans (matrixRecompute_water _)

theorem enterMode_water (s : State) (m : AppMode) : s.KeepsWater (s.enterMode m) := by
  unfold State.enterMode
  split
  · exact matrixRecompute_water s
  · obtain ⟨valve, source, fill, changeover⟩ := handMode_supply (s.setMode m)
    simp only [State.setMode_frame] at source fill changeover
    have handed : s.KeepsWater (s.setMode m).handMode :=
      { toKeepsFlow := .of_valve valve (.inr fill) (by simp [setMode_permits]) source
        source := fun none => ⟨changeover.elim (·.trans none) id, source⟩
        engaged := fun _ => by simp }
    exact handed.trans (matrixJudge_water _ _)

theorem matrixTake_water (s : State) : s.KeepsWater s.matrixTake := enterMode_water s _

/-! ### The sequencer, which but for CONFIRM enters states other than ENGAGED -/

theorem setSeq_water {s t : State} {q : Sequencer} (matrix : t.matrix.butHorn = s.matrix.butHorn)
    (supply : t.supply = s.supply) (other : q.state ≠ .engaged) : s.KeepsWater (t.setSeq q) :=
  .of_ended (.of_butHorn (by simpa using matrix)) (.inl (by simpa using supply)) fun state => by
    simp [other] at state

theorem taken_water (s : State) {q : Sequencer} (other : q.state ≠ .engaged) : s.KeepsWater (s.setSeq q).matrixTake :=
  (setSeq_water rfl rfl other).trans (matrixTake_water _)

/-- The end of an engagement drops changeover and fill and judges the valve (R64). -/
theorem endSupply_water (s : State) : s.KeepsWater s.discardProtection.endSupply := by
  obtain ⟨-, -, permits, -⟩ := Matrix.fields_of_butHorn s.discardProtection_butHorn
  have source : s.discardProtection.endSupply.supply.source = s.supply.source := by
    simp [State.endSupply, State.judgeValve]
  exact
    { toKeepsFlow := .of_valve rfl (.inl rfl) (by simp [permits]) source
      source := fun _ => ⟨rfl, source⟩
      engaged := fun _ => by simp }

theorem enterIdle_water (s : State) : s.KeepsWater s.enterIdle :=
  (setSeq_water rfl rfl (by simp)).trans ((endSupply_water _).trans (matrixTake_water _))

theorem enterHeldTimeout_water (s : State) : s.KeepsWater s.enterHeldTimeout :=
  (setSeq_water (by simp) (by simp) (by simp)).trans ((endSupply_water _).trans (matrixTake_water _))

theorem judgeRoadShift_water (s : State) : s.KeepsWater s.judgeRoadShift := by
  unfold State.judgeRoadShift
  split
  · next releasing =>
    have recomputed (q : Sequencer) (same : q.state = s.seq.state) :
        s.KeepsWater ({ s with seq := q }).matrixRecompute := by
      have moved : s.KeepsWater { s with seq := q } := .of_ended (.of_matrix rfl) (.inl rfl) fun state => by
        simp [same, releasing.1] at state
      exact moved.trans (matrixRecompute_water _)
    repeat' split
    · exact .refl s
    · exact recomputed _ rfl
    · exact recomputed _ rfl
    · exact .refl s
  · exact .refl s

theorem enterReleasing_water (s : State) : s.KeepsWater s.enterReleasing := by
  have clutch (t : State) : t.KeepsWater (if t.lineClear .d4 then t.enterIdle else t) := by
    split
    · exact enterIdle_water t
    · exact .refl t
  have split (t : State) : t.KeepsWater (if t.lineClear .d3 then t.enterIdle else t.judgeRoadShift) := by
    split
    · exact enterIdle_water t
    · exact judgeRoadShift_water t
  unfold State.enterReleasing
  split
  · exact (taken_water s (by simp)).trans (clutch _)
  · exact (taken_water s (by simp)).trans (split _)
  · exact (taken_water s (by simp)).trans (split _)

theorem judgeIdlingDown_water (s : State) : s.KeepsWater s.judgeIdlingDown := by
  unfold State.judgeIdlingDown
  split
  · exact enterReleasing_water s
  · exact .refl s

theorem governorOff_water (s : State) : s.KeepsWater s.governorOff := .of_still (by simp) (by simp) (by simp)

theorem enterIdlingDown_water (s : State) (r : SeqReason) : s.KeepsWater (s.enterIdlingDown r) :=
  (setSeq_water rfl rfl (by simp)).trans
    ((governorOff_water _).trans ((matrixTake_water _).trans (judgeIdlingDown_water _)))

theorem faultToIdlingDown_water (s : State) (f : SeqFault) (r : SeqReason) : s.KeepsWater (s.faultToIdlingDown f r) :=
  (State.KeepsWater.of_still (by simp) (by simp) (by simp)).trans (enterIdlingDown_water _ r)

theorem enterAwaitRange_water (s : State) : s.KeepsWater s.enterAwaitRange := by
  have passed (t : State) : t.KeepsWater (if t.lineSet .d2 then t.enterAwaitConfirm else t) := by
    split
    · exact taken_water t (by simp)
    · exact .refl t
  exact (taken_water s (by simp)).trans (passed _)

theorem heldFeedback_water (s : State) : s.KeepsWater (s.submit (protReport .feedbackLost .raised [])).governorHold :=
  .of_still (by simp) (by simp) (by simp)

theorem enterHeldFeedback_water (s : State) : s.KeepsWater s.enterHeldFeedback :=
  (setSeq_water rfl rfl (by simp)).trans ((heldFeedback_water _).trans (matrixTake_water _))

/-- ENGAGED entered leaves the source, and the laws of the valve and the fill. -/
theorem enterEngaged_flow (s : State) : s.KeepsFlow s.enterEngaged ∧
    (s.supply.changeover = none → s.enterEngaged.supply.changeover = none ∧
      s.enterEngaged.supply.source = s.supply.source) := by
  have governed (t : State) (matrix : t.matrix.butHorn = s.matrix.butHorn) (supply : t.supply = s.supply) :
      s.KeepsFlow t.matrixTake ∧ (s.supply.changeover = none →
        t.matrixTake.supply.changeover = none ∧ t.matrixTake.supply.source = s.supply.source) := by
    have taken := matrixTake_water t
    refine ⟨.trans (.of_outputs (.of_butHorn matrix) (.inl supply)) taken.toKeepsFlow, fun none => ?_⟩
    rw [← supply] at none ⊢
    exact taken.source none
  exact governed _ (by simp) (by simp)

theorem seqLineChange_water (s : State) (l : Line) : s.KeepsWater (s.seqLineChange l) := by
  rcases s.seqLineChange_cases l with e | ⟨-, e⟩ | ⟨-, e⟩ | ⟨-, e⟩ | ⟨-, e⟩ | ⟨-, e | e⟩ <;> rw [e]
  · exact .refl s
  · exact enterAwaitRange_water s
  · exact taken_water s (by simp)
  · exact faultToIdlingDown_water s _ _
  · exact enterHeldFeedback_water s
  · exact enterIdle_water s
  · exact judgeRoadShift_water s

theorem seqEngineGate_water (s : State) : s.KeepsWater s.seqEngineGate := by
  unfold State.seqEngineGate
  split
  · exact judgeIdlingDown_water s
  · exact judgeRoadShift_water s
  all_goals exact .refl s

theorem seqRoadGate_water (s : State) (made : Bool) : s.KeepsWater (s.seqRoadGate made) := by
  have fault : s.KeepsWater (if made then s.faultToIdlingDown .motion .motion else s) := by
    split
    · exact faultToIdlingDown_water s _ _
    · exact .refl s
  unfold State.seqRoadGate
  split
  · exact fault
  · exact fault
  · exact judgeRoadShift_water s
  all_goals exact .refl s

theorem judgeRoll_water (s : State) : s.KeepsWater s.judgeRoll :=
  .of_same (by simp [State.SameOutputs, State.judgeRoll]) (by simp) (by simp)

/-- The start-up decision enters HELD or leaves the sequencer (R65). -/
theorem judgeComplete_water (s : State) : s.KeepsWater s.judgeComplete := by
  rcases judgeComplete_cases s with ⟨-, e⟩ | ⟨-, -, e⟩ <;> rw [e]
  · exact .refl s
  · have decided : s.KeepsWater s.completed.startDecision := by
      refine .of_ended (.of_matrix (by simp)) (.inl (by simp)) fun state => ?_
      simp only [State.startDecision_seq, State.completed_frame] at state ⊢
      split at state
      · simp at state
      · next low => rw [if_neg low]
    exact decided.trans ((judgeRoll_water _).trans (enterMode_water _ _))

end Sys2Proof.Machine

/-! # The valve and the fill through the tanks and the source (R139 to R145) -/

namespace Sys2Proof.Machine

/-! ### The tanks -/

theorem abandonFill_water (s : State) (st : ReportState) : s.KeepsWater (s.abandonFill st) :=
  .of_ended (.of_matrix (by simp)) (.inr (by simp)) fun _ => by simp

theorem handTank_water (s : State) (t : TankIx) (before : TankRun) : s.KeepsWater (s.handTank t before) := by
  have filled (p : Prop) [Decidable p] : s.KeepsWater (if p then s.abandonFill .abandoned else s) := by
    split
    · exact abandonFill_water s _
    · exact .refl s
  have judged (p : Prop) [Decidable p] (u : State) : u.KeepsWater (if p then u else u.matrixJudge (onTank t)) := by
    split
    · exact .refl u
    · exact matrixJudge_water u _
  have emptied (p : Prop) [Decidable p] (u : State) : u.KeepsWater (if p then u.judgeTankEmpty else u) := by
    split
    · exact .of_still (by simp) (by simp) (by simp)
    · exact .refl u
  exact (filled _).trans ((judged _ _).trans (emptied _ _))

theorem tanksAtRoadGate_water (s : State) (was : Bool) : s.KeepsWater (s.tanksAtRoadGate was) := by
  have set (t : State) (i : TankIx) (r : TankRun) : t.KeepsWater (t.setTank i r) :=
    .of_still (by simp) (by simp) (by simp)
  have travel (t : State) (i : TankIx) : t.KeepsWater (t.enterTravel i) := by
    unfold State.enterTravel
    dsimp only
    split
    · exact (set t i _).trans (handTank_water _ _ _)
    · exact set t i _
    · exact set t i _
    all_goals exact .refl t
  have settle (t : State) (i : TankIx) : t.KeepsWater (t.enterSettling i) :=
    .of_still (by simp) (by simp) (by simp)
  unfold State.tanksAtRoadGate
  repeat' split
  · exact .refl s
  · exact foldl_keeps s.KeepsWater _ _ s (.refl s) fun t i h => h.trans (travel t i)
  · exact foldl_keeps s.KeepsWater _ _ s (.refl s) fun t i h => h.trans (settle t i)
  · exact .refl s

/-- The rise reference moves within a fill in progress (R145). -/
theorem judgeRise_water (s : State) : s.KeepsWater s.judgeRise := by
  unfold State.judgeRise
  repeat' split
  · next f _ some _ _ =>
    exact
      { valve := id
        fill := fun h _ => h (by simp [some])
        source := fun none => ⟨none, rfl⟩
        engaged := fun _ => rfl }
  all_goals exact .refl s

theorem judgeFillDone_water (s : State) : s.KeepsWater s.judgeFillDone := by
  unfold State.judgeFillDone
  dsimp only
  repeat' split
  · exact .refl s
  · exact .of_ended (.of_matrix (by simp)) (.inr (by simp)) fun _ => by simp
  · exact .refl s

theorem tankUpdate_water (s : State) (t : TankIx) : s.KeepsWater (s.tankUpdate t) := by
  have risen (u : State) : u.KeepsWater (if t = .t0 then u.judgeRise else u) := by
    split
    · exact judgeRise_water u
    · exact .refl u
  have filled (u : State) : u.KeepsWater (if t = .t0 then u.judgeFillDone else u) := by
    split
    · exact judgeFillDone_water u
    · exact .refl u
  unfold State.tankUpdate
  dsimp only
  split
  · exact .refl s
  · exact (State.KeepsWater.of_still (by simp) (by simp) (by simp)).trans
      ((risen _).trans ((handTank_water _ _ _).trans (filled _)))

theorem settleExpiry_water (s : State) (t : TankIx) : s.KeepsWater (s.settleExpiry t) := by
  unfold State.settleExpiry
  dsimp only
  repeat' split
  · exact (State.KeepsWater.of_still (by simp) (by simp) (by simp)).trans (handTank_water _ _ _)
  · exact .of_still (by simp) (by simp) (by simp)
  · exact .refl s

theorem configureTank_water (s : State) (t : TankIx) (c : TankSettings) : s.KeepsWater (s.configureTank t c) := by
  have handed (u : State) (b : TankRun) (k : s.KeepsWater u) : s.KeepsWater (u.handTank t b) :=
    k.trans (handTank_water u t b)
  unfold State.configureTank State.restartTank
  dsimp only
  split <;> exact handed _ _ (.of_still (by simp) (by simp) (by simp))

/-! ### The source and the changeover -/

/-- A new source judges the valve, and TANK ends a fill (R139, R145). -/
theorem newSource_flow {s t : State} {src : WaterSource} (matrix : t.matrix = s.matrix)
    (supply : t.supply = (s.ownSource src).supply) : s.KeepsFlow t.handSource := by
  obtain ⟨mode, -, permits, -⟩ := Matrix.fields_of_butHorn t.handSource_butHorn
  constructor
  · intro _
    rw [State.ValveLaw, State.valveOpen, mode, State.handSource_supply, supply, matrix]
    split <;> rfl
  · intro h some
    rw [State.handSource_supply] at some ⊢
    split at some
    · exact absurd rfl some
    · next other =>
      rw [if_neg other, permits, matrix]
      rw [supply] at some
      exact ⟨(h some).1, other⟩

theorem changeSource_flow (s : State) (src : WaterSource) : s.KeepsFlow (s.changeSource src) := by
  unfold State.changeSource
  split
  · exact (State.KeepsWater.refl s).toKeepsFlow
  · exact newSource_flow (by simp) rfl

theorem setChangeover_flow (s : State) (c : Option Changeover) : s.KeepsFlow (s.setChangeover c) :=
  .of_valve rfl (.inr rfl) (by simp) rfl

theorem judgeChangeover_water (s : State) : s.KeepsWater s.judgeChangeover := by
  have running {c : Changeover} {t : State} (here : s.supply.changeover = some c) (flow : s.KeepsFlow t)
      (seq : t.seq = s.seq) : s.KeepsWater t :=
    ⟨flow, fun none => by simp [here] at none, fun _ => seq⟩
  unfold State.judgeChangeover
  split
  · exact .refl s
  · next c here =>
    extract_lets n
    split
    · exact running here (newSource_flow (src := c.target) (by simp) (by simp)) (by simp)
    · refine running here ⟨fun h => ?_, id⟩ rfl
      simpa [State.ValveLaw, State.valveOpen, here] using h

theorem changeoverExpiry_water (s : State) : s.KeepsWater s.changeoverExpiry := by
  unfold State.changeoverExpiry
  split
  · exact .refl s
  · next c here =>
    exact
      { toKeepsFlow := (setChangeover_flow s none).trans (.of_outputs (.of_matrix (by simp)) (.inl (by simp)))
        source := fun none => by simp [here] at none
        engaged := fun _ => by simp }

end Sys2Proof.Machine

/-! # The valve, the roll source and the fill, kept by every event and every request (R139, R140, R144, R145) -/

namespace Sys2Proof.Machine

/-! ### The events of the apparatus, the store and the timers -/

theorem engineGateEnd_water (s : State) : s.KeepsWater s.engineGateEnd := by
  have gated : s.KeepsWater s.engineGated := .of_still (by simp) (by simp) (by simp)
  rw [engineGateEnd_eq]
  exact gated.trans ((seqEngineGate_water _).trans ((matrixJudge_water _ _).trans (judgeComplete_water _)))

theorem roadGateEnd_water (s : State) : s.KeepsWater s.roadGateEnd := by
  have gated : s.KeepsWater s.roadGated := .of_still (by simp) (by simp) (by simp)
  have limited : s.KeepsWater s.roadGated.judgeRoll.judgeOverspeed :=
    gated.trans ((judgeRoll_water _).trans (.of_same (judgeOverspeed_outputs _) (by simp) (by simp)))
  rw [roadGateEnd_eq]
  exact limited.trans ((seqRoadGate_water _ _).trans
    ((matrixJudge_water _ _).trans ((tanksAtRoadGate_water _ _).trans (judgeComplete_water _))))

theorem flowGateEnd_water (s : State) (m : Meter) : s.KeepsWater (s.flowGateEnd m) := by
  have gated : s.KeepsWater (s.flowGated m) :=
    { valve := id, fill := id, source := fun none => ⟨none, rfl⟩, engaged := fun _ => rfl }
  exact gated.trans (judgeComplete_water _)

theorem linesChanged_water (s : State) (ls : List Line) : s.KeepsWater (s.linesChanged ls) := by
  unfold State.linesChanged
  split
  · exact .refl s
  · exact (foldl_keeps s.KeepsWater _ _ s (.refl s) fun t l h => h.trans (seqLineChange_water t l)).trans
      (matrixJudge_water _ _)

theorem lineSample_water (s : State) (raw : BitVec 12) : s.KeepsWater (s.lineSample raw) := by
  have sampled : s.KeepsWater (s.linesSampled raw (s.changedLines raw)) :=
    .of_still (by simp [State.linesSampled]) (by simp [State.linesSampled]) (by simp [State.linesSampled])
  rw [lineSample_eq]
  exact sampled.trans ((linesChanged_water _ _).trans (judgeComplete_water _))

theorem windowExpiry_water (s : State) (st : SeqState) (w : StepWindow) (f : SeqFault) :
    s.KeepsWater (s.windowExpiry st w f) := by
  unfold State.windowExpiry
  split
  · exact faultToIdlingDown_water s _ _
  · exact .refl s

theorem releaseExpiry_water (s : State) : s.KeepsWater s.releaseExpiry := by
  unfold State.releaseExpiry
  split
  · exact enterHeldTimeout_water s
  · exact .refl s

/-- The waits that go on with no timer are in IDLING_DOWN and RELEASING (R60, R62). -/
theorem waitExpiry_water (s : State) : s.KeepsWater s.idleDownExpiry ∧ s.KeepsWater s.neutralExpiry := by
  have stopped {t : State} (matrix : t.matrix = s.matrix) (supply : t.supply = s.supply) (seq : t.seq = s.seq)
      (other : s.seq.state ≠ .engaged) : s.KeepsWater t.stopStepTimer :=
    .of_ended (.of_matrix matrix) (.inl supply) fun state => by simp [State.stopStepTimer, seq, other] at state
  unfold State.idleDownExpiry State.neutralExpiry
  constructor
  · split
    · next waits => exact stopped (by simp) (by simp) (by simp) (by simp [waits.1])
    · exact .refl s
  · split
    · next waits => exact stopped (by simp) (by simp) (by simp) (by simp [waits.1])
    · exact .refl s

theorem temperatureSample_water (s : State) (c : Code) : s.KeepsWater (s.temperatureSample c) := by
  have taken : s.KeepsWater (s.temperatureTaken c) :=
    .of_still (by simp [State.temperatureTaken]) (by simp [State.temperatureTaken]) (by simp [State.temperatureTaken])
  rw [temperatureSample_eq]
  split
  · exact taken
  · exact taken.trans ((State.KeepsWater.of_still (by simp) (by simp) (by simp)).trans (matrixJudge_water _ _))

theorem pressureSample_water (s : State) (c0 c1 : Code) : s.KeepsWater (s.pressureSample c0 c1) := by
  have sampled (t : State) (k : s.KeepsWater t) : s.KeepsWater t.judgePrimer.judgeChangeover :=
    k.trans ((State.KeepsWater.of_still (by simp) (by simp) (by simp)).trans (judgeChangeover_water _))
  unfold State.pressureSample
  dsimp only
  refine sampled _ ?_
  split <;> exact .of_still (by simp) (by simp) (by simp)

theorem lockDelayExpiry_water (s : State) (i : EntryIx) : s.KeepsWater (s.lockDelayExpiry i) := by
  unfold State.lockDelayExpiry
  repeat' split
  · exact .refl s
  · exact (State.KeepsWater.of_same (moveLock_outputs s i _ _) (by simp) (by simp)).trans (matrixRecompute_water _)
  · exact .refl s

theorem rollOverspeedExpiry_water (s : State) : s.KeepsWater s.rollOverspeedExpiry := by
  have raised : s.KeepsWater { s with matrix := { s.matrix with overspeed := true, overspeedTimer := none } } :=
    { valve := id, fill := id, source := fun none => ⟨none, rfl⟩, engaged := fun _ => rfl }
  unfold State.rollOverspeedExpiry
  split
  · exact .refl s
  · exact raised.trans (.of_still (by simp) (by simp) (by simp))

theorem riseExpiry_water (s : State) : s.KeepsWater s.riseExpiry := by
  rcases s.riseExpiry_cases with e | e <;> rw [e]
  · exact .refl s
  · exact abandonFill_water s _

theorem eventOf_water {c : Instr} {f : State → State} (e : eventOf c = some f) (s : State) : s.KeepsWater (f s) := by
  cases c <;> cases e
  case engineSpeedGateEnd => exact engineGateEnd_water s
  case roadSpeedGateEnd => exact roadGateEnd_water s
  case flowGateEnd m => exact flowGateEnd_water s m
  case lineSample raw => exact lineSample_water s raw
  case shiftWindowExpiry | rangeWindowExpiry | clutchWindowExpiry | confirmWindowExpiry =>
    exact windowExpiry_water s _ _ _
  case releaseWindowExpiry => exact releaseExpiry_water s
  case idleDownWindowExpiry => exact (waitExpiry_water s).1
  case neutralWaitExpiry => exact (waitExpiry_water s).2
  case temperatureSample c => exact temperatureSample_water s c
  case pressureSample c0 c1 => exact pressureSample_water s c0 c1
  case lockoutDelayExpiry i => exact lockDelayExpiry_water s i
  case rollOverspeedExpiry => exact rollOverspeedExpiry_water s
  case tankUpdate t => exact tankUpdate_water s t
  case settleTimerExpiry t => exact settleExpiry_water s t
  case changeoverWindowExpiry => exact changeoverExpiry_water s
  case riseTimerExpiry => exact riseExpiry_water s
  case pulseArrival p => exact .of_still rfl rfl rfl
  all_goals exact .of_still (by simp) (by simp) (by simp)

/-! ### The requests of the matrix and the sequencer -/

theorem writeEntry_water (s : State) (i : EntryIx) (new : Option LockoutEntry) : s.KeepsWater (s.writeEntry i new) := by
  have written (t : State) (k : s.KeepsWater t) : s.KeepsWater (({ t with
      config := { t.config with entries := t.config.entries.set i new }
      matrix := { t.matrix with locks := t.matrix.locks.set i { state := .clear, timer := none } } }).judgeLock
        i).matrixRecompute := by
    have put : t.KeepsWater { t with
        config := { t.config with entries := t.config.entries.set i new }
        matrix := { t.matrix with locks := t.matrix.locks.set i { state := .clear, timer := none } } } :=
      { valve := id, fill := id, source := fun none => ⟨none, rfl⟩, engaged := fun _ => rfl }
    exact k.trans (put.trans ((judgeLock_water _ i).trans (matrixRecompute_water _)))
  unfold State.writeEntry
  split
  · exact written s (.refl s)
  · exact written _ (.of_same (moveLock_outputs s i _ _) (by simp) (by simp))

theorem answerLockoutSet_water (s : State) (p : List Byte) : s.KeepsWater (answerLockoutSet p s).1 := by
  have set (i : EntryIx) (e : Option LockoutEntry) : s.KeepsWater (s.lockoutSet i e).1 := by
    unfold State.lockoutSet
    repeat' split
    · exact .refl s
    · exact .refl s
    · exact writeEntry_water s i _
  unfold answerLockoutSet
  repeat' split
  · exact .refl s
  · exact .refl s
  · exact set _ _
  · exact set _ _
  · exact .refl s

theorem clearLatch_water (s : State) (i : EntryIx) : s.KeepsWater (s.clearLatch i) := by
  unfold State.clearLatch
  repeat' split
  · exact .refl s
  · exact .of_same (moveLock_outputs s i _ _) (by simp) (by simp)
  · exact .refl s

theorem answerLatchClear_water (s : State) (p : List Byte) : s.KeepsWater (answerLatchClear p s).1 := by
  have one (i : EntryIx) : s.KeepsWater (s.latchClearOne i).1 := by
    unfold State.latchClearOne
    split
    case h_2 => exact (clearLatch_water s i).trans ((judgeLock_water _ i).trans (matrixRecompute_water _))
    all_goals exact .refl s
  have all : s.KeepsWater s.latchClearAll.1 := by
    have cleared := foldl_keeps s.KeepsWater State.clearLatch s.latchedEntries s (.refl s)
      fun t i h => h.trans (clearLatch_water t i)
    have judged := foldl_keeps s.KeepsWater State.judgeLock s.latchedEntries _ cleared
      fun t i h => h.trans (judgeLock_water t i)
    exact judged.trans (matrixRecompute_water _)
  unfold answerLatchClear
  repeat' split
  · exact all
  · exact .refl s
  · exact .refl s
  · exact one _
  · exact .refl s

theorem answerEngage_water (s : State) (p : List Byte) : s.KeepsWater (answerEngage p s).1 := by
  have engage (roll : Bool) : s.KeepsWater (s.engage roll).1 := by
    unfold State.engage
    repeat' split
    · exact .refl s
    · exact taken_water s (by simp)
    · exact taken_water s (by simp)
    · exact .refl s
  unfold answerEngage
  repeat' split
  · exact engage false
  · exact engage true
  · exact .refl s
  · exact .refl s

theorem answerDisengage_water (s : State) (p : List Byte) : s.KeepsWater (answerDisengage p s).1 := by
  have cleared : s.KeepsWater s.clearFeedbackLost := .of_still (by simp) (by simp) (by simp)
  cases p with
  | cons b p => exact .refl s
  | nil =>
    cases state : s.seq.state <;> simp only [answerDisengage, state]
    case idle | idlingDown | releasing => exact .refl s
    case held => exact cleared.trans (enterIdlingDown_water _ .disengage)
    all_goals exact enterIdlingDown_water s .disengage

/-! ### The requests of the tank unit, and PARAM_SET -/

theorem answerTankSet_water (s : State) (p : List Byte) : s.KeepsWater (answerTankSet p s).1 := by
  have set (t : TankIx) (c : TankSettings) : s.KeepsWater (s.tankSet t c).1 := by
    unfold State.tankSet
    dsimp only
    repeat' split
    case h_2 => exact configureTank_water s _ _
    all_goals exact .refl s
  unfold answerTankSet
  repeat' split
  · exact .refl s
  · exact .refl s
  · exact set _ _
  · exact .refl s

theorem answerTankTable_water (s : State) (p : List Byte) : s.KeepsWater (answerTankTable p s).1 := by
  have set (t : TankIx) (table : List Breakpoint) : s.KeepsWater (s.tankTable t table).1 := by
    unfold State.tankTable
    repeat' split
    case h_2 => exact configureTank_water s _ _
    all_goals exact .refl s
  unfold answerTankTable
  repeat' split
  case h_2.isFalse => exact set _ _
  all_goals exact .refl s

theorem ceilingChanged_water (s : State) : s.KeepsWater s.ceilingChanged := by
  have timed (t : State) (timer : Option Timer) :
      t.KeepsWater { t with matrix := { t.matrix with overspeedTimer := timer } } :=
    { valve := id, fill := id, source := fun none => ⟨none, rfl⟩, engaged := fun _ => rfl }
  exact (judgeRoll_water s).trans ((timed _ _).trans (matrixRecompute_water _))

/-- Of the owners of the parameters only the matrix judges anything that the water is worked from (R169). -/
theorem ownerActs_water (s : State) (p : Param) : s.KeepsWater (s.ownerActs p) := by
  cases p
  case idleRpm | rollCap => exact matrixRecompute_water s
  case rollCeiling => exact ceilingChanged_water s
  all_goals
    dsimp only [State.ownerActs]
    exact .of_still (by simp) (by simp) (by simp)

theorem writeParam_water (s : State) (p : Param) (x : Int) : s.KeepsWater (s.writeParam p x) := by
  have written : s.KeepsWater { s with config := s.config.setParam p x } := .of_still rfl rfl rfl
  unfold State.writeParam
  split
  · exact .refl s
  · exact written.trans (ownerActs_water _ p)

theorem answerParamSet_water (s : State) (p : List Byte) : s.KeepsWater (answerParamSet p s).1 := by
  unfold answerParamSet State.paramSet
  repeat' split
  case h_2.isFalse.isFalse => exact writeParam_water s _ _
  all_goals exact .refl s

/-- A fill begins only where its conditions hold, FILL and another source than TANK among them (R144). -/
theorem answerFill_water (s : State) (p : List Byte) : s.KeepsWater (answerFill p s).1 := by
  have begun (ready : s.fillFails = []) (target : Nat) : s.KeepsWater (s.beginFill target) :=
    { valve := id
      fill := fun _ _ => by
        obtain ⟨permit, source, -⟩ : s.matrix.permits.fill = true ∧ ¬s.supply.source = .tank ∧ _ := by
          simpa [State.fillFails, fails] using ready
        exact ⟨permit, source⟩
      source := fun none => ⟨none, rfl⟩
      engaged := fun _ => rfl }
  have requested (sent : Option Nat) : s.KeepsWater (s.fillRequest sent).1 := by
    unfold State.fillRequest
    dsimp only
    split_ifs with running failing
    · exact .refl s
    · exact .refl s
    · have ready : s.fillFails = [] := by simpa using failing
      cases sent <;> exact begun ready _
  have stopped : s.KeepsWater s.fillStop.1 := by
    unfold State.fillStop
    split
    · exact .of_ended (.of_matrix rfl) (.inr rfl) fun _ => rfl
    · exact .refl s
  unfold answerFill
  repeat' split
  · exact requested _
  · exact requested _
  · exact stopped
  all_goals exact .refl s

/-! ### CONFIRM and SOURCE -/

theorem answerConfirm_cases (s : State) (p : List Byte) :
    (answerConfirm p s).1 = s ∨ ((answerConfirm p s).1 = s.enterEngaged ∧ s.confirmSourceFails = false) := by
  have source : s.confirmSource.1 = s ∨ (s.confirmSource.1 = s.enterEngaged ∧ s.confirmSourceFails = false) := by
    unfold State.confirmSource
    split
    · exact .inl rfl
    · next ready => exact .inr ⟨rfl, by simpa using ready⟩
  unfold answerConfirm
  split
  · split
    · exact source
    · split
      · exact source
      · exact .inl rfl
    all_goals exact .inl rfl
  · exact .inl rfl

theorem answerConfirm_flow (s : State) (p : List Byte) : s.KeepsFlow (answerConfirm p s).1 := by
  rcases answerConfirm_cases s p with e | ⟨e, -⟩ <;> rw [e]
  · exact (State.KeepsWater.refl s).toKeepsFlow
  · exact (enterEngaged_flow s).1

/-- CONFIRM enters PUMP_AND_ROLL on the clutch path alone, where it asks for the source (R54, R55). -/
theorem answerConfirm_roll {s : State} (p : List Byte) (h : s.RollSourceLaw) : (answerConfirm p s).1.RollSourceLaw := by
  rcases answerConfirm_cases s p with e | ⟨e, ready⟩ <;> rw [e]
  · exact h
  · intro mode
    have path : s.seq.path = .clutch := by
      simp only [State.enterEngaged, State.matrixTake_mode] at mode
      split at mode
      · simp at mode
      · cases path : s.seq.path <;> simp_all [modeOf]
    obtain ⟨source, none⟩ : s.supply.source = .tank ∧ s.supply.changeover = none :=
      (sourceReady_iff s).mp (by simpa [State.confirmSourceFails, path] using ready)
    obtain ⟨still, same⟩ := (enterEngaged_flow s).2 none
    exact ⟨same.trans source, still⟩

theorem answerSource_flow (s : State) (p : List Byte) : s.KeepsFlow (answerSource p s).1 := by
  have kept : s.KeepsFlow s := (State.KeepsWater.refl s).toKeepsFlow
  have engaged (w : WaterSource) : s.KeepsFlow (s.sourceEngaged w).1 := by
    unfold State.sourceEngaged
    repeat' split
    case h_3.isFalse | h_4.isFalse => exact changeSource_flow s w
    case h_1.isFalse | h_2.isTrue => exact setChangeover_flow s _
    all_goals exact kept
  have requested (w : WaterSource) : s.KeepsFlow (s.sourceRequest w).1 := by
    unfold State.sourceRequest
    repeat' split
    case h_5 | h_6 => exact engaged w
    case h_4.isTrue | h_4.isFalse => exact kept
    all_goals exact changeSource_flow s w
  unfold answerSource
  repeat' split
  · exact kept
  · exact requested _
  · exact kept

/-- In PUMP_AND_ROLL a SOURCE changes nothing (R140). -/
theorem answerSource_pumpAndRoll {s : State} (p : List Byte) (mode : s.matrix.mode = .pumpAndRoll) :
    (answerSource p s).1 = s := by
  have requested (w : WaterSource) : (s.sourceRequest w).1 = s := by
    unfold State.sourceRequest
    rw [mode]
    dsimp only
    split <;> rfl
  unfold answerSource
  repeat' split
  · rfl
  · exact requested _
  · rfl

theorem answerSource_roll {s : State} (p : List Byte) (h : s.RollSourceLaw) : (answerSource p s).1.RollSourceLaw := by
  intro mode
  rw [answerSource_mode] at mode
  rw [answerSource_pumpAndRoll p mode]
  exact h mode

/-! ### Every request, every command and every step -/

theorem answerKind_water (kind : Byte) (p : List Byte) : answerKind kind p = answerConfirm p ∨
    answerKind kind p = answerSource p ∨ ∀ s : State, s.KeepsWater (answerKind kind p s).1 := by
  generalize e : answerKind kind p = answer
  unfold answerKind at e
  split at e <;> subst e
  case h_10 => exact .inl rfl
  case h_20 => exact .inr (.inl rfl)
  all_goals refine .inr (.inr fun s => ?_)
  case h_3 =>
    unfold answerGate
    repeat' split
    case isFalse.isFalse => exact .of_still rfl rfl rfl
    all_goals exact .refl s
  case h_5 => exact answerLockoutSet_water s p
  case h_7 => exact answerLatchClear_water s p
  case h_9 => exact answerEngage_water s p
  case h_11 => exact answerDisengage_water s p
  case h_18 => exact answerTankTable_water s p
  case h_19 => exact answerTankSet_water s p
  case h_21 => exact answerFill_water s p
  case h_22 => exact answerParamSet_water s p
  all_goals exact .of_still (by simp [answerUnknown]) (by simp [answerUnknown]) (by simp [answerUnknown])

theorem answerKind_flow (kind : Byte) (p : List Byte) (s : State) : s.KeepsFlow (answerKind kind p s).1 := by
  rcases answerKind_water kind p with e | e | water
  · exact e ▸ answerConfirm_flow s p
  · exact e ▸ answerSource_flow s p
  · exact (water s).toKeepsFlow

/-- PUMP_AND_ROLL is an engagement on the clutch path, and it was one before an operation that enters none (R18,
R140). -/
theorem State.KeepsWater.roll {s t : State} (h : s.KeepsWater t) (before : s.PhaseLaw) (after : t.PhaseLaw)
    (roll : s.RollSourceLaw) : t.RollSourceLaw := by
  intro mode
  have taken : modeOf t.seq.state t.seq.path = .pumpAndRoll :=
    (after.modeLaw (after.complete_of_mode (by simp [mode]))).symm.trans mode
  have engaged := engaged_of_pumpAndRoll taken
  have same := h.engaged engaged
  rw [same] at taken engaged
  have was : s.matrix.mode = .pumpAndRoll :=
    (before.modeLaw (before.complete_of_state (by simp [engaged]))).trans taken
  obtain ⟨source, none⟩ := roll was
  obtain ⟨still, unmoved⟩ := h.source none
  exact ⟨unmoved.trans source, still⟩

theorem exec_roll {c : Instr} {s t : State} (phase : s.PhaseLaw) (h : s.RollSourceLaw) (e : exec c s = .next t) :
    t.RollSourceLaw := by
  refine (exec_keeps (P := fun s => s.PhaseLaw ∧ s.RollSourceLaw) (fun _ _ _ h => h)
    (fun s found _ => ⟨startUp_phase s found, nofun⟩) (fun kind p s h => ?_) (fun f ef s h => ?_)
    ⟨phase, h⟩ e).2
  · have after := (answerKind_laws kind p h.1).1
    refine ⟨after, ?_⟩
    rcases answerKind_water kind p with e | e | water
    · exact e ▸ answerConfirm_roll p h.2
    · exact e ▸ answerSource_roll p h.2
    · exact (water s).roll h.1 after h.2
  · have after := (eventOf_laws ef h.1).1
    exact ⟨after, (eventOf_water ef s).roll h.1 after h.2⟩

/-- Settles O16: every operation judges the valve where it moves what the valve is worked from, and ends the fill where
it withholds FILL or makes the source TANK (`State.KeepsFlow`); none but CONFIRM and SOURCE can bring PUMP_AND_ROLL or
move its source (`State.KeepsWater`), and both ask first (`answerConfirm_roll`, `answerSource_roll`). -/
theorem valveAndRollSourceLawsAreKept : Obligations.ValveAndRollSourceLawsAreKept := by
  refine ⟨fun s t h e => ?_, fun s t phase h e => ?_, fun s t h e => ?_⟩
  · refine step_keeps (P := State.ValveLaw) (fun _ _ h => h) (fun _ _ _ h e => ?_) h e
    exact exec_keeps (P := State.ValveLaw) (fun _ _ _ h => h) (fun _ _ _ => rfl)
      (fun kind p s => (answerKind_flow kind p s).valve) (fun _ ef s => (eventOf_water ef s).valve) h e
  · exact (step_keeps (P := fun s => s.PhaseLaw ∧ s.RollSourceLaw) (fun _ _ h => h)
      (fun _ _ _ h e => ⟨exec_phase h.1 e, exec_roll h.1 h.2 e⟩) ⟨phase, h⟩ e).2
  · refine step_keeps (P := State.FillLaw) (fun _ _ h => h) (fun _ _ _ h e => ?_) h e
    exact exec_keeps (P := State.FillLaw) (fun _ _ _ h => h) (fun _ _ _ some => absurd rfl some)
      (fun kind p s => (answerKind_flow kind p s).fill) (fun _ ef s => (eventOf_water ef s).fill) h e

end Sys2Proof.Machine

/-! # SOURCE, the changeover and its window (R139 to R143, R106) -/

namespace Sys2Proof.Machine

/-! ### A new source handed on (R40, R106, R114, R145) -/

/-- Behind the end of a fill and of a priming the governor judges TANK_EMPTY, and the matrix the horn. -/
theorem handSource_eq (s : State) : ∃ (t : State) (elapsed : Nat), s.handSource = t.judgeTankEmpty.judgeHorn ∧
    t.supply.source = s.supply.source ∧ t.tanks = s.tanks ∧
    t.gov = if s.supply.source = .intake then { s.gov with primer := none, primerElapsed := elapsed } else s.gov := by
  unfold State.handSource
  extract_lets s1 s2
  obtain ⟨gov, source, tanks⟩ : s1.gov = s.gov ∧ s1.supply.source = s.supply.source ∧ s1.tanks = s.tanks := by
    unfold s1
    split <;> simp
  obtain ⟨elapsed, stopped⟩ := stopPrimer_gov s1
  refine ⟨s2, elapsed, rfl, ?_⟩
  unfold s2
  split
  · exact ⟨by simp [source], by simp [tanks], by rw [stopped, gov]⟩
  · exact ⟨source, tanks, gov⟩

theorem handSource_stops (s : State) :
    s.handSource.gov.primer = if s.supply.source = .intake then none else s.gov.primer := by
  obtain ⟨t, elapsed, handed, -, -, gov⟩ := handSource_eq s
  simp only [handed, State.judgeHorn_frame, State.judgeTankEmpty_primer, gov]
  split <;> rfl

theorem handSource_judges (s : State) : s.EmptyJudged s.handSource (s.tanks.get .t0).band := by
  obtain ⟨t, elapsed, handed, source, tanks, gov⟩ := handSource_eq s
  obtain ⟨mode, causes⟩ : t.gov.opMode = s.gov.opMode ∧ t.gov.causes = s.gov.causes := by
    rw [gov]
    split <;> exact ⟨rfl, rfl⟩
  have judged := judgeTankEmpty_judges t
  simpa [State.EmptyJudged, handed, source, tanks, mode, causes] using judged

/-! ### Another source (R140) -/

/-- `u` is `s` with the source `src`: the same state where it is that already; else with no changeover, the fill ended
by TANK, the primer stopped by INTAKE, and TANK_EMPTY judged. -/
def State.HasTaken (s u : State) (src : WaterSource) : Prop :=
  u = { s with supply := u.supply, gov := u.gov, matrix := u.matrix, reports := u.reports } ∧
  u.supply.source = src ∧ (src = s.supply.source → u = s) ∧
  (src ≠ s.supply.source → u.supply.changeover = none ∧
    u.supply.fill = (if src = .tank then none else s.supply.fill) ∧
    u.gov.primer = (if src = .intake then none else s.gov.primer) ∧
    if src = .tank ∧ (s.tanks.get .t0).band = .empty then
      s.gov.opMode ≠ .off →
        (u.gov.causes.get .tankEmpty).active = true ∧ (u.gov.causes.get .tankEmpty).present = true
    else (u.gov.causes.get .tankEmpty).active = (s.gov.causes.get .tankEmpty).active ∧
      ((s.gov.causes.get .tankEmpty).active = true → (u.gov.causes.get .tankEmpty).present = false))

theorem changeSource_takes (s : State) (src : WaterSource) : s.HasTaken (s.changeSource src) src := by
  refine ⟨by ext1 <;> simp, ?_⟩
  unfold State.changeSource
  split
  · next same => exact ⟨same.symm, fun _ => rfl, fun other => absurd same other⟩
  · next other =>
    have judged := handSource_judges (s.ownSource src)
    have source : (s.ownSource src).supply.source = src := rfl
    simp only [State.EmptyJudged, State.ownSource_frame, source] at judged
    rw [handSource_stops, State.handSource_supply, source]
    refine ⟨by split <;> exact source, fun same => absurd same other, fun _ => ?_⟩
    refine ⟨by split <;> rfl, ?_, by simp, judged⟩
    split <;> rfl

/-! ### The request -/

theorem exec_source {tag : Byte} {p : List Byte} {s t : State} {a : Answer} (listening : s.listening = true)
    (answered : answerSource p s.framed = (t, a)) :
    exec (.source tag p) s = .next ({ t with link := s.link }.answered 0x43 tag a) :=
  exec_request rfl listening (by simp) answered

theorem exec_source_reads {tag : Byte} {p : List Byte} {s : State} {a : Answer} (listening : s.listening = true)
    (answered : answerSource p s.framed = (s.framed, a)) :
    exec (.source tag p) s = .next (s.answered 0x43 tag a) :=
  exec_source (t := s.framed) listening answered

theorem exec_source_changes {tag : Byte} {p : List Byte} {s : State} {src : WaterSource}
    (listening : s.listening = true) (answered : answerSource p s.framed = (s.framed.changeSource src, .ok)) :
    ∃ u, exec (.source tag p) s = .next (u.answered 0x43 tag (.done false false [])) ∧ s.HasTaken u src := by
  refine ⟨_, exec_source listening answered, ?_⟩
  obtain ⟨frame, source, same, other⟩ := changeSource_takes s.framed src
  refine ⟨by ext1 <;> simp [State.framed], source, fun here => ?_, other⟩
  rw [same here]
  rfl

/-- A source that the operand names is the request's (R140). -/
theorem answerSource_named {b : Byte} {src : WaterSource} (named : sourceOfByte b = some src) (s : State) :
    answerSource [b] s = s.sourceRequest src := by simp [answerSource, named]

theorem answerSource_unnamed {b : Byte} (unnamed : sourceOfByte b = none) (s : State) :
    answerSource [b] s = (s, .refused .malformed 1 1 0) := by
  simp only [answerSource, unnamed]
  rfl

/-- What forbids a return to the tank (R141). -/
theorem mem_returnFails (s : State) : (.empty ∈ s.returnFails ↔ (s.tanks.get .t0).band = .empty) ∧
    (.unconfigured ∈ s.returnFails ↔ (s.tanks.get .t0).state = .unconfigured) := by
  simp [State.returnFails, mem_fails]

theorem returnFails_isEmpty (s : State) : s.returnFails.isEmpty = true ↔
    ¬((s.tanks.get .t0).band = .empty ∨ (s.tanks.get .t0).state = .unconfigured) := by
  by_cases empty : (s.tanks.get .t0).band = .empty <;>
    by_cases unconfigured : (s.tanks.get .t0).state = .unconfigured <;>
    simp [State.returnFails, fails, empty, unconfigured]

/-- From another source than TANK, in an engagement (R141). -/
theorem sourceEngaged_returns {s : State} (away : s.supply.source ≠ .tank) (src : WaterSource) : s.sourceEngaged src =
    if src = .tank ∧ ((s.tanks.get .t0).band = .empty ∨ (s.tanks.get .t0).state = .unconfigured) then
      (s, s.notPermitted s.returnFails none)
    else (s.changeSource src, .ok) := by
  have refused : (¬s.returnFails.isEmpty = true) ↔
      ((s.tanks.get .t0).band = .empty ∨ (s.tanks.get .t0).state = .unconfigured) := by
    rw [returnFails_isEmpty, not_not]
  unfold State.sourceEngaged
  split
  · next here _ => exact absurd here away
  · next here _ => exact absurd here away
  all_goals
    simp only [refused]
    rfl

/-- A return to the tank, or INTAKE and DRAFT exchanged (R141). -/
theorem exec_source_returns {tag b : Byte} {s : State} {src : WaterSource} (listening : s.listening = true)
    (named : sourceOfByte b = some src) (away : s.supply.source ≠ .tank)
    (engaged : s.framed.sourceRequest src = s.framed.sourceEngaged src) :
    if src = .tank ∧ ((s.tanks.get .t0).band = .empty ∨ (s.tanks.get .t0).state = .unconfigured) then
      ∃ d1 d2, exec (.source tag [b]) s = .next (s.answered 0x43 tag
          (.refused .notPermitted d1 d2 (BitVec.ofNat 8 s.matrix.mode.code))) ∧
        ((natOfBytes [d1, d2]).testBit 12 = true ↔ (s.tanks.get .t0).band = .empty) ∧
        ((natOfBytes [d1, d2]).testBit 13 = true ↔ (s.tanks.get .t0).state = .unconfigured)
    else ∃ u : State, exec (.source tag [b]) s = .next (u.answered 0x43 tag (.done false false [])) ∧
      s.HasTaken u src := by
  have answered := ((answerSource_named named s.framed).trans engaged).trans
    (sourceEngaged_returns (s := s.framed) away src)
  split
  · next forbidden =>
    obtain ⟨d1, d2, answer, bits⟩ := notPermitted_shows s.framed s.framed.returnFails
    obtain ⟨empty, unconfigured⟩ := mem_returnFails s.framed
    refine ⟨d1, d2, ?_, (bits .empty (by decide)).trans empty, (bits .unconfigured (by decide)).trans unconfigured⟩
    have refused := answered.trans (if_pos forbidden)
    rw [answer] at refused
    exact exec_source_reads listening refused
  · next free => exact exec_source_changes listening (answered.trans (if_neg free))

/-- SOURCE from TANK, in an engagement, moves the changeover and the valve alone (R139, R141). -/
theorem exec_source_from_tank {tag b : Byte} {s : State} {src : WaterSource} (listening : s.listening = true)
    (named : sourceOfByte b = some src) (tank : s.supply.source = .tank)
    (mode : s.matrix.mode = .stationaryPump ∨ s.matrix.mode = .faultHold)
    (engaged : s.framed.sourceRequest src = s.framed.sourceEngaged src) :
    let outcome := exec (.source tag [b]) s
    let done : Answer := .done false false []
    match s.supply.changeover with
    | none =>
      if src = .tank then outcome = .next (s.answered 0x43 tag done)
      else outcome = .next ({ s with supply := { s.supply with
        changeover := some ⟨src, 0, ⟨s.clock, s.config.changeoverWindow * 1000⟩⟩
        tankToPump := true } }.answered 0x43 tag done)
    | some c =>
      if src = .tank then outcome = .next ({ s with supply := { s.supply with
        changeover := none, tankToPump := true } }.answered 0x43 tag done)
      else if src = c.target then outcome = .next (s.answered 0x43 tag done)
      else outcome = .next (s.answered 0x43 tag s.wrongState) := by
  have answered := (answerSource_named named s.framed).trans engaged
  have here : s.framed.supply.source = .tank := tank
  have set (c : Option Changeover) : ({ s.framed.setChangeover c with link := s.link } : State) =
      { s with supply := { s.supply with changeover := c, tankToPump := true } } := by
    rcases mode with m | m <;>
      simp [State.setChangeover, State.judgeValve, State.valveOpen, State.framed, tank, m]
  intro outcome done
  split
  · next none =>
    have going : s.framed.supply.changeover = .none := none
    simp only [State.sourceEngaged, here, going] at answered
    split
    · next back => exact exec_source_reads listening (answered.trans (if_pos back))
    · next away => exact set _ ▸ exec_source listening (answered.trans (if_neg away))
  · next c some =>
    have going : s.framed.supply.changeover = .some c := some
    simp only [State.sourceEngaged, here, going] at answered
    split
    · next back => exact set _ ▸ exec_source listening (answered.trans (if_pos back))
    · next away =>
      have answered := answered.trans (if_neg away)
      split
      · next same => exact exec_source_reads listening (answered.trans (if_pos same))
      · next other => exact exec_source_reads listening (answered.trans (if_neg other))

/-! ### A changeover at a pressure sample (R142) -/

/-- A sample of two channels that are not in FAULT, by codes in range, as the tank unit finds it. -/
theorem pressureSample_taken {s : State} {c0 c1 : Code} (discharge : s.image.a0.status ≠ .fault)
    (intake : s.image.a1.status ≠ .fault) (low0 : 300 ≤ c0.toNat) (high0 : c0.toNat ≤ 3600)
    (low1 : 400 ≤ c1.toNat) (high1 : c1.toNat ≤ 3600) : ∃ t : State,
    s.pressureSample c0 c1 = t.judgePrimer.judgeChangeover ∧ t.gov = s.gov ∧ t.supply = s.supply ∧
    t.image.a0.good = true ∧ t.pDis = some (scaleDischarge (clampedCode c0)) ∧
    t.image.a1.good = true ∧ t.pIn = some (scaleIntake (clampedCode c1)) := by
  obtain ⟨value0, good0⟩ := sample_taken scaleDischarge discharge low0 (by omega : c0.toNat ≤ 3700)
  obtain ⟨value1, good1⟩ := sample_taken scaleIntake intake (by omega : 300 ≤ c1.toNat) (by omega)
  unfold State.pressureSample
  dsimp only
  rw [if_pos (((good_iff _).mpr discharge).trans good0.symm)]
  refine ⟨_, rfl, by simp, by simp, ?_, ?_, ?_, ?_⟩
  · simpa using good0
  · simpa [State.pDis] using value0
  · simpa using good1
  · simpa [State.pIn] using value1

/-- The sample qualifies by its two codes (R3, R142). -/
theorem qualifies_iff {t : State} {c0 c1 : Code} (good0 : t.image.a0.good = true)
    (discharge : t.pDis = some (scaleDischarge (clampedCode c0))) (good1 : t.image.a1.good = true)
    (intake : t.pIn = some (scaleIntake (clampedCode c1))) (high0 : c0.toNat ≤ 3600) (low1 : 400 ≤ c1.toNat)
    (high1 : c1.toNat ≤ 3600) (target : WaterSource) : t.qualifies target = true ↔
      (target = .intake ∧ 700 ≤ c1.toNat) ∨ (target = .draft ∧ c1.toNat < 582 ∧ 550 ≤ c0.toNat) := by
  have in_range : clampedCode c1 = c1.toNat := by
    unfold clampedCode
    split_ifs <;> omega
  have pressed : (150 ≤ scaleDischarge (clampedCode c0)) ↔ 550 ≤ c0.toNat := by
    unfold scaleDischarge clampedCode
    split_ifs <;> omega
  have fed : (50 ≤ scaleIntake c1.toNat) ↔ 700 ≤ c1.toNat := by
    unfold scaleIntake
    omega
  have drawn : (scaleIntake c1.toNat ≤ -10) ↔ c1.toNat < 582 := by
    unfold scaleIntake
    omega
  cases target <;> simp [State.qualifies, good0, good1, discharge, intake, in_range, optAny, pressed, fed, drawn]

/-- The primer at a sample leaves the record of TANK_EMPTY alone (R114). -/
theorem judgePrimer_tankEmpty (s : State) :
    s.judgePrimer.gov.causes.get .tankEmpty = s.gov.causes.get .tankEmpty := by
  obtain ⟨elapsed, stopped⟩ := stopPrimer_gov s
  unfold State.judgePrimer
  split
  · rfl
  · extract_lets n
    split
    · rw [State.causeAbsent_other _ (by decide), stopped]
    · rfl

theorem judgeChangeover_counts {s : State} {c : Changeover} (going : s.supply.changeover = some c) :
    (s.qualifies c.target = false → s.judgeChangeover.supply =
      { s.supply with changeover := some { c with count := 0 } }) ∧
    (s.qualifies c.target = true → c.count < 99 → s.judgeChangeover.supply =
      { s.supply with changeover := some { c with count := c.count + 1 } }) ∧
    (s.qualifies c.target = true → 99 ≤ c.count → s.judgeChangeover = s.completeChangeover c) := by
  unfold State.judgeChangeover
  rw [going]
  dsimp only
  refine ⟨fun not => ?_, fun yes few => ?_, fun yes enough => ?_⟩
  · rw [not]
    rfl
  · rw [if_pos yes, if_neg (by omega)]
  · rw [if_pos yes, if_pos (by omega)]

/-- Completed, the source is the target, the valve closes and TANK_EMPTY's condition is gone (R106, R139, R142). -/
theorem completeChangeover_ends {s : State} {c : Changeover} (away : c.target ≠ .tank) :
    (s.completeChangeover c).supply.source = c.target ∧ (s.completeChangeover c).supply.changeover = none ∧
    (s.completeChangeover c).supply.tankToPump = false ∧
    ((s.gov.causes.get .tankEmpty).active = true →
      ((s.completeChangeover c).gov.causes.get .tankEmpty).active = true ∧
      ((s.completeChangeover c).gov.causes.get .tankEmpty).present = false) := by
  unfold State.completeChangeover
  generalize owned : (s.ownSource c.target).submit _ = t
  have supply : t.supply = { s.supply with source := c.target, changeover := none, tankToPump := false } := by
    simp [← owned, State.ownSource, State.judgeValve, State.valveOpen, away]
  have gov : t.gov = s.gov := by simp [← owned]
  have judged := handSource_judges t
  rw [State.EmptyJudged, if_neg (by simp [supply, away]), gov] at judged
  obtain ⟨active, gone⟩ := judged
  rw [State.handSource_supply, if_neg (by simp [supply, away]), supply]
  exact ⟨rfl, rfl, rfl, fun here => ⟨active.trans here, gone here⟩⟩

/-! ### The window (R142) -/

theorem changeoverExpiry_some {s : State} {c : Changeover} (going : s.supply.changeover = some c) :
    s.changeoverExpiry = { s with
      supply := { s.supply with changeover := none, tankToPump := s.changeoverExpiry.supply.tankToPump }
      reports := s.reports.submit (stateReport .changeover 0 .noSupply
        (u8 c.target.code ++ u16 (c.window.length / 100))) } ∧
    (s.changeoverExpiry.supply.tankToPump = true ↔ s.supply.source = .tank ∧
      (s.matrix.mode = .stationaryPump ∨ s.matrix.mode = .pumpAndRoll ∨ s.matrix.mode = .faultHold)) := by
  have expired : s.changeoverExpiry =
      (s.setChangeover none).submit (changeoverReport .noSupply c.target c.window.length) := by
    simp only [State.changeoverExpiry, going]
  have valve : s.changeoverExpiry.supply.tankToPump = ({ s with supply := { s.supply with
      changeover := none } } : State).valveOpen := by rw [expired]; rfl
  refine ⟨by rw [expired]; rfl, ?_⟩
  rw [valve]
  simp [State.valveOpen, or_assoc, and_comm]

/-- Settles O59: a new source is handed on by one operation, which ends the fill or the primer and judges TANK_EMPTY
(`changeSource_takes`); SOURCE is split by mode and source record, a pressure sample by whether it qualifies and by the
count behind it, and the window by whether a changeover is in progress. -/
theorem sourceAndChangeover : Obligations.SourceAndChangeover := by
  refine ⟨fun tag b s listening => ?_, fun c0 c1 s c going sound0 sound1 low0 high0 low1 high1 => ?_,
    fun s => ⟨fun none => ?_, fun c going => ?_⟩⟩
  · intro outcome done becomes
    split
    · next unnamed => exact exec_source_reads listening (answerSource_unnamed unnamed s.framed)
    · next src named =>
      have answered := answerSource_named named s.framed
      split
      case h_1 mode | h_2 mode | h_3 mode =>
        refine exec_source_changes listening (answered.trans ?_)
        have mode : s.framed.matrix.mode = _ := mode
        simp only [State.sourceRequest, mode]
      case h_4 mode =>
        have mode : s.framed.matrix.mode = _ := mode
        simp only [State.sourceRequest, mode] at answered
        split
        · next tank => exact exec_source_reads listening (answered.trans (if_pos tank))
        · next other =>
          refine exec_source_reads listening (answered.trans ((if_neg other).trans ?_))
          simp [State.reads, State.notPermitted, mode]
          decide
      case h_5 mode | h_6 mode =>
        have engaged : s.framed.sourceRequest src = s.framed.sourceEngaged src := by
          have mode : s.framed.matrix.mode = _ := mode
          simp only [State.sourceRequest, mode]
        have tank := fun here => exec_source_from_tank listening (tag := tag) named here (by simp [mode]) engaged
        have away := fun other => exec_source_returns listening (tag := tag) named other engaged
        split
        case h_1 here none => simpa only [none] using tank here
        case h_2 here some => simpa only [some] using tank here
        case h_3 here | h_4 here => exact away (by simp [here])
  · intro qualifies
    obtain ⟨t, sampled, gov, supply, good0, discharge, good1, intake⟩ :=
      pressureSample_taken sound0 sound1 low0 high0 low1 high1
    have codes := qualifies_iff (t := t.judgePrimer) (by simpa using good0) (by simpa [State.pDis] using discharge)
      (by simpa using good1) (by simpa [State.pIn] using intake) high0 low1 high1 c.target
    have same : t.judgePrimer.supply = s.supply := by simp [supply]
    obtain ⟨restarts, counts, completes⟩ := judgeChangeover_counts (s := t.judgePrimer) (same ▸ going)
    refine ⟨s.pressureSample c0 c1, exec_event (f := (·.pressureSample c0 c1)) rfl s, ?_⟩
    rw [sampled, ← same]
    refine ⟨fun not => restarts (by simpa using codes.not.mpr not), fun yes => counts (codes.mpr yes),
      fun yes enough => ?_⟩
    have away : c.target ≠ .tank := by rcases yes with ⟨e, -⟩ | ⟨e, -⟩ <;> simp [e]
    rw [completes (codes.mpr yes) enough]
    simpa [judgePrimer_tankEmpty, gov] using completeChangeover_ends (s := t.judgePrimer) away
  · rw [exec_event (f := (·.changeoverExpiry)) rfl, State.changeoverExpiry, none]
  · obtain ⟨frame, valve⟩ := changeoverExpiry_some going
    exact ⟨s.changeoverExpiry, exec_event rfl s, frame, valve⟩

end Sys2Proof.Machine

/-! # FILL, its completion, rise and abandonments (R144 to R146) -/

namespace Sys2Proof.Machine

theorem reaches_iff (volume : Option Nat) (target : Nat) :
    reaches volume target = true ↔ ∃ v, volume = some v ∧ target ≤ v := by
  cases volume <;> simp [reaches]

/-! ### The request (R144, R155) -/

/-- Tank 0 is SENSED and full (R144). -/
def State.FillFull (s : State) : Prop :=
  (s.tanks.get .t0).state = .sensed ∧
    ∃ v, (s.tanks.get .t0).volume = some v ∧ (s.config.tanks.get .t0).fullL ≤ v

theorem mem_fillFails (s : State) : (.permit ∈ s.fillFails ↔ s.matrix.permits.fill = false) ∧
    (.source ∈ s.fillFails ↔ s.supply.source = .tank) ∧
    (.tank ∈ s.fillFails ↔ (s.tanks.get .t0).state ≠ .sensed) ∧
    (.full ∈ s.fillFails ↔ s.FillFull) := by
  simp [State.fillFails, mem_fails, reaches_iff, State.FillFull]

/-- A FILL is in order, but for a fill in progress (R144). -/
def State.FillReady (s : State) : Prop :=
  s.matrix.permits.fill = true ∧ s.supply.source ≠ .tank ∧ (s.tanks.get .t0).state = .sensed ∧ ¬s.FillFull

theorem fillFails_none (s : State) : s.fillFails = [] ↔ s.FillReady := by
  have none (name : CondName) (failing : Bool) : fails name failing = [] ↔ ¬failing = true := by
    cases failing <;> simp [fails]
  simp [State.fillFails, none, reaches_iff, State.FillReady, State.FillFull]

theorem exec_fill {tag : Byte} {p : List Byte} {s t : State} {a : Answer} (listening : s.listening = true)
    (answered : answerFill p s.framed = (t, a)) :
    exec (.fill tag p) s = .next ({ t with link := s.link }.answered 0x44 tag a) :=
  exec_request rfl listening (by simp) answered

theorem exec_fill_reads {tag : Byte} {p : List Byte} {s : State} {a : Answer} (listening : s.listening = true)
    (answered : answerFill p s.framed = (s.framed, a)) : exec (.fill tag p) s = .next (s.answered 0x44 tag a) :=
  exec_fill (t := s.framed) listening answered

/-- FILL by its operand; FULL and STOP ignore the target bytes (R144, R155). -/
theorem answerFill_eq (mode hi lo : Byte) (s : State) : answerFill [mode, hi, lo] s =
    if 3 ≤ mode.toNat then (s, .refused .malformed 3 1 0)
    else if mode = 2 then s.fillStop
    else s.fillRequest (if mode = 1 then none else some (readU16 hi lo)) := by
  by_cases large : 3 ≤ mode.toNat
  · have other (k : Nat) (low : k < 3) : mode ≠ BitVec.ofNat 8 k := by
      rintro rfl
      simp at large
      omega
    simp only [answerFill, if_neg (other 0 (by omega)), if_neg (other 1 (by omega)), if_neg (other 2 (by omega)),
      if_pos large]
    rfl
  · have named : mode = 0 ∨ mode = 1 ∨ mode = 2 := by bv_omega
    rcases named with rfl | rfl | rfl <;> rfl

/-- The target of a FILL and whether it was clamped; FULL sends none (R144). -/
def State.requestedTarget (s : State) (sent : Option Nat) (v : Nat) : Nat × Bool :=
  let full := (s.config.tanks.get .t0).fullL
  match sent with
  | none => (full, false)
  | some n => (clampNat (v + 1) full n, decide (clampNat (v + 1) full n ≠ n))

theorem requestedTarget_eq {mode : Byte} (named : ¬3 ≤ mode.toNat) (request : mode ≠ 2) (s : State)
    (sent v : Nat) :
    let full := (s.config.tanks.get .t0).fullL
    let target := if mode = 1 then full else if sent < v + 1 then v + 1 else if full < sent then full else sent
    s.requestedTarget (if mode = 1 then none else some sent) v =
      (target, decide (mode = 0 ∧ target ≠ sent)) := by
  intro full target
  by_cases toFull : mode = 1
  · simp [target, toFull, State.requestedTarget, full]
  · have zero : mode = 0 := by bv_omega
    simp [target, zero, State.requestedTarget, clampNat, full]

theorem fillRequest_running {s : State} (running : s.supply.fill ≠ none) (sent : Option Nat) :
    s.fillRequest sent = (s, s.wrongState) := if_pos (Option.isSome_iff_ne_none.mpr running)

theorem fillRequest_refused {s : State} (idle : s.supply.fill = none) (unready : ¬s.FillReady) (sent : Option Nat) :
    s.fillRequest sent = (s, s.notPermitted s.fillFails none) := by
  have failing : s.fillFails ≠ [] := fun none => unready ((fillFails_none s).mp none)
  simp [State.fillRequest, idle, failing, State.reads]

theorem fillRequest_begins {s : State} {v : Nat} (idle : s.supply.fill = none) (ready : s.FillReady)
    (present : (s.tanks.get .t0).volume = some v) (sent : Option Nat) : s.fillRequest sent =
      ({ s with supply := { s.supply with
          fill := some ⟨(s.requestedTarget sent v).1, v, ⟨s.clock, 60000⟩, false⟩ } },
        .done (s.requestedTarget sent v).2 false []) := by
  have none : s.fillFails = [] := (fillFails_none s).mpr ready
  cases sent <;>
    simp [State.fillRequest, idle, none, State.beginFill, present, State.requestedTarget, State.startTimer, Answer.ok]

theorem fillStop_eq (s : State) : s.fillStop = if s.supply.fill = none then (s, s.wrongState)
    else ({ s with supply := { s.supply with fill := none } }, .ok) := by
  cases running : s.supply.fill <;> simp [State.fillStop, running, State.reads]

/-- What forbids a FILL, in an answer that changes nothing (R144, R155). -/
theorem exec_fill_refused {tag : Byte} {p : List Byte} {s : State} {sent : Option Nat} (listening : s.listening = true)
    (answered : answerFill p s.framed = s.framed.fillRequest sent) (idle : s.supply.fill = none)
    (unready : ¬s.FillReady) : ∃ d1 d2, exec (.fill tag p) s = .next (s.answered 0x44 tag
        (.refused .notPermitted d1 d2 (BitVec.ofNat 8 s.matrix.mode.code))) ∧
      ((natOfBytes [d1, d2]).testBit 8 = true ↔ s.matrix.permits.fill = false) ∧
      ((natOfBytes [d1, d2]).testBit 7 = true ↔ s.supply.source = .tank) ∧
      ((natOfBytes [d1, d2]).testBit 9 = true ↔ (s.tanks.get .t0).state ≠ .sensed) ∧
      ((natOfBytes [d1, d2]).testBit 10 = true ↔ s.FillFull) := by
  obtain ⟨d1, d2, answer, bits⟩ := notPermitted_shows s.framed s.framed.fillFails
  obtain ⟨permit, source, sensed, filled⟩ := mem_fillFails s.framed
  have refused := answered.trans (fillRequest_refused (s := s.framed) idle unready sent)
  rw [answer] at refused
  exact ⟨d1, d2, exec_fill_reads listening refused, (bits .permit (by decide)).trans permit,
    (bits .source (by decide)).trans source, (bits .tank (by decide)).trans sensed,
    (bits .full (by decide)).trans filled⟩

/-! ### A tank update with a fill in progress (R145) -/

/-- The fill with its reference and its timer started afresh where V has risen by the rise step. -/
def State.risenFill (s : State) (f : Fill) (volume : Option Nat) : Fill :=
  match volume with
  | some v =>
    if f.riseReference + (s.config.tanks.get .t0).capacity / 100 ≤ v then
      { f with riseReference := v, riseTimer := ⟨s.clock, 60000⟩, restarted := true }
    else f
  | none => f

theorem risenFill_target (s : State) (f : Fill) (volume : Option Nat) : (s.risenFill f volume).target = f.target := by
  unfold State.risenFill
  repeat' split
  all_goals rfl

theorem judgeRise_supply {s : State} {f : Fill} (filling : s.supply.fill = some f) : s.judgeRise.supply =
    { s.supply with fill := some (s.risenFill f (s.tanks.get .t0).volume) } := by
  have same : s.supply = { s.supply with fill := some f } := by rw [← filling]
  cases volume : (s.tanks.get .t0).volume with
  | none => simpa [State.judgeRise, State.risenFill, filling, volume] using same
  | some v =>
    by_cases risen : f.riseReference + (s.config.tanks.get .t0).capacity / 100 ≤ v
    · simp [State.judgeRise, State.risenFill, State.startTimer, filling, volume, risen]
    · simpa [State.judgeRise, State.risenFill, filling, volume, risen] using same

theorem judgeFillDone_idle {s : State} (idle : s.supply.fill = none) : s.judgeFillDone = s := by
  simp [State.judgeFillDone, idle]

theorem judgeFillDone_filling {s : State} {f : Fill} (filling : s.supply.fill = some f) : s.judgeFillDone =
    if (∃ v, (s.tanks.get .t0).volume = some v ∧ f.target ≤ v) ∨ (s.tanks.get .t0).band = .full then
      { s with supply := { s.supply with fill := none }
               reports := s.reports.submit (plainReport .fillDone 0 (optU16 (s.tanks.get .t0).volume ++ u16 f.target)) }
    else s := by
  simp only [State.judgeFillDone, filling, Bool.or_eq_true, reaches_iff, beq_iff_eq]
  rfl

/-- The hand-over of tank 0 abandons the fill where the tank has left SENSED or FILL is withheld by it, leaves it
otherwise, and reports nothing where neither band nor basis has changed. -/
theorem handTank_fill (s : State) (before : TankRun) :
    let lost : Prop := before.state = .sensed ∧
      ((s.tanks.get .t0).state = .blind ∨ (s.tanks.get .t0).state = .travel)
    let withheld : Prop := s.matrix.permits.fill = true ∧ (s.handTank .t0 before).matrix.permits.fill = false
    (lost ∨ withheld → (s.handTank .t0 before).supply.fill = none) ∧
    (¬(lost ∨ withheld) → (s.handTank .t0 before).supply = s.supply ∧
      ((s.tanks.get .t0).band = before.band → (s.tanks.get .t0).basis = before.basis →
        (s.handTank .t0 before).reports = s.reports)) := by
  intro lost withheld
  unfold withheld State.handTank
  extract_lets r s1 s2
  obtain ⟨gone, stays⟩ : (lost → s1.supply.fill = none) ∧ (¬lost → s1 = s) :=
    ⟨fun yes => by rw [show s1 = _ from if_pos ⟨rfl, yes⟩]; simp, fun no => if_neg fun yes => no yes.2⟩
  have permits1 : s1.matrix.permits = s.matrix.permits := by
    unfold s1
    split <;> simp
  have supply2 : s2.supply = if s.matrix.permits.fill && !s2.matrix.permits.fill then { s1.supply with fill := none }
      else s1.supply := by
    unfold s2
    split
    · simp [permits1]
    · rw [matrixJudge_supply, permits1]
  have behind (p : Prop) [Decidable p] : (if p then s2.judgeTankEmpty else s2).supply = s2.supply ∧
      (if p then s2.judgeTankEmpty else s2).matrix.permits = s2.matrix.permits := by
    split
    · obtain ⟨-, -, permits, -⟩ := Matrix.fields_of_butHorn s2.judgeTankEmpty_butHorn
      exact ⟨by simp, permits⟩
    · exact ⟨rfl, rfl⟩
  obtain ⟨supply, permits⟩ := behind (.t0 = TankIx.t0 ∧ r.band ≠ before.band)
  rw [supply, permits, supply2]
  refine ⟨fun ends => ?_, fun goes => ?_⟩
  · split
    · rfl
    · next held =>
      refine gone (ends.resolve_right fun ⟨was, now⟩ => held ?_)
      simp [was, now]
  · obtain ⟨keeps, holds⟩ := not_or.mp goes
    have same := stays keeps
    refine ⟨by rw [if_neg (by simpa using holds), same], fun band basis => ?_⟩
    rw [if_neg fun changed => changed.2 band]
    unfold s2
    rw [if_pos ⟨band, basis⟩, same]

/-- A band that stays is not reported (R124). -/
theorem evalBand_reports {s : State} {t : TankIx}
    (same : ((s.evalBand t).tanks.get t).band = (s.tanks.get t).band) : (s.evalBand t).reports = s.reports := by
  have stays : bandAt (s.config.tanks.get t) (s.tanks.get t).band (s.tanks.get t).volume = (s.tanks.get t).band := by
    simpa [TankRun.banded] using same
  unfold State.evalBand
  dsimp only
  split
  · rfl
  · next used =>
    split
    · rfl
    · next v present =>
      rw [if_pos (by simpa [bandAt, present, used] using stays)]

/-- Of a tank whose band and basis stay the update reports nothing: METERED, of which alone a reconciliation reports,
does not stay at one (R124, R137). -/
theorem settleVolume_reports {s : State} {t : TankIx}
    (band : ((s.settleVolume t).tanks.get t).band = (s.tanks.get t).band)
    (basis : ((s.settleVolume t).tanks.get t).basis = (s.tanks.get t).basis) :
    (s.settleVolume t).reports = s.reports := by
  have settled : s.settleVolume t = s ∨ ∃ u r, s.settleVolume t = (State.setTank u t r).evalBand t ∧
      u.reports = s.reports ∧ r.band = (s.tanks.get t).band := by
    cases state : (s.tanks.get t).state <;> cases sensed : (s.tanks.get t).sensed <;>
      simp only [State.settleVolume, state, sensed] at basis ⊢
    case unconfigured.none | unconfigured.some => exact .inl trivial
    case blind.some vs =>
      have was : (s.tanks.get t).basis = .sensed := by simpa [TankRun.banded, TankRun.adopted] using basis.symm
      exact .inr ⟨_, _, rfl, by simp [was, reconcileReport, State.submitAll], rfl⟩
    all_goals exact .inr ⟨s, _, rfl, rfl, rfl⟩
  rcases settled with same | ⟨u, r, evaluated, reports, kept⟩
  · rw [same]
  · rw [evaluated] at band ⊢
    rw [evalBand_reports (by simpa [kept] using band)]
    simpa using reports

/-- Of a SENSED tank an update makes a SENSED or a BLIND one (R136). -/
theorem updatedRun_ne_travel {s : State} {t : TankIx} (was : (s.tanks.get t).state = .sensed) :
    (s.updatedRun t).state ≠ .travel := by
  cases level : (s.updatedRun t).h with
  | none => simp [updatedRun_goesBlind was level, TankRun.banded]
  | some x => simp [updatedRun_senses was level]

/-- The update of tank 0 up to its hand-over: the rise is judged on the volume just worked. -/
def State.risenUpdate (s : State) : State :=
  ((s.setTank .t0 (s.workLevel (s.config.tanks.get .t0) (s.tanks.get .t0))).settleVolume .t0).judgeRise

theorem tankUpdate_eq {s : State} (configured : (s.tanks.get .t0).state ≠ .unconfigured) :
    s.tankUpdate .t0 = (s.risenUpdate.handTank .t0 (s.tanks.get .t0)).judgeFillDone := by
  simp [State.tankUpdate, State.risenUpdate, configured]

theorem risenUpdate_tank {s : State} (configured : (s.tanks.get .t0).state ≠ .unconfigured) :
    s.risenUpdate.tanks.get .t0 = s.updatedRun .t0 := by
  rw [← tankUpdate_get configured, tankUpdate_eq configured]
  simp

theorem risenUpdate_supply {s : State} {f : Fill} (filling : s.supply.fill = some f)
    (configured : (s.tanks.get .t0).state ≠ .unconfigured) :
    s.risenUpdate.supply = { s.supply with fill := some (s.risenFill f (s.updatedRun .t0).volume) } := by
  have tank := risenUpdate_tank configured
  unfold State.risenUpdate at tank ⊢
  rw [judgeRise_supply (f := f) (by simpa using filling)]
  simp only [State.judgeRise_frame] at tank
  simp [tank, State.risenFill]

theorem risenUpdate_reports {s : State} (configured : (s.tanks.get .t0).state ≠ .unconfigured)
    (band : (s.updatedRun .t0).band = (s.tanks.get .t0).band)
    (basis : (s.updatedRun .t0).basis = (s.tanks.get .t0).basis) : s.risenUpdate.reports = s.reports := by
  rw [← risenUpdate_tank configured] at band basis
  unfold State.risenUpdate at band basis ⊢
  simp only [State.judgeRise_frame] at band basis ⊢
  rw [settleVolume_reports (by simpa [State.workLevel] using band) (by simpa [State.workLevel] using basis)]
  simp

/-- A fill in progress at an update of its tank: abandoned, completed, or gone on with (R145). -/
theorem tankUpdate_fill {s : State} {f : Fill} (filling : s.supply.fill = some f)
    (configured : (s.tanks.get .t0).state ≠ .unconfigured) :
    let u := s.tankUpdate .t0
    let old := s.tanks.get .t0
    let new := u.tanks.get .t0
    let abandoned : Prop := (old.state = .sensed ∧ new.state = .blind) ∨
      (s.matrix.permits.fill = true ∧ u.matrix.permits.fill = false)
    let reached : Prop := (∃ v, new.volume = some v ∧ f.target ≤ v) ∨ new.band = .full
    (abandoned → u.supply.fill = none) ∧
    (¬abandoned → reached → u.supply.fill = none ∧
      ∃ q : ReportQueue, u.reports = q.submit (plainReport .fillDone 0 (optU16 new.volume ++ u16 f.target)) ∧
        (new.band = old.band → new.basis = old.basis → q = s.reports)) ∧
    (¬abandoned → ¬reached → u.supply.fill = some (s.risenFill f new.volume)) := by
  intro u old new abandoned reached
  have tank : new = s.updatedRun .t0 := tankUpdate_get configured
  have update : u = (s.risenUpdate.handTank .t0 old).judgeFillDone := tankUpdate_eq configured
  generalize handed : s.risenUpdate.handTank .t0 old = t at update
  have permits : u.matrix.permits = t.matrix.permits := by simp [update]
  have tanks : t.tanks.get .t0 = new := by simp [← handed, risenUpdate_tank configured, tank]
  have lost : old.state = .sensed ∧ (new.state = .blind ∨ new.state = .travel) ↔
      old.state = .sensed ∧ new.state = .blind := by
    refine and_congr_right fun was => or_iff_left ?_
    rw [tank]
    exact updatedRun_ne_travel was
  have matrix : s.risenUpdate.matrix = s.matrix := by simp [State.risenUpdate]
  obtain ⟨ends, stays⟩ := handTank_fill s.risenUpdate old
  simp only [handed, matrix, risenUpdate_tank configured, ← tank, lost, ← permits,
    risenUpdate_supply filling configured] at ends stays
  refine ⟨fun gone => ?_, fun goes full => ?_, fun goes short => ?_⟩
  · rw [update, judgeFillDone_idle (ends gone)]
    exact ends gone
  · obtain ⟨supply, reports⟩ := stays goes
    have done := judgeFillDone_filling (s := t) (by rw [supply])
    rw [tanks, risenFill_target, if_pos full, ← update] at done
    rw [done]
    refine ⟨rfl, t.reports, rfl, fun band basis => ?_⟩
    rw [reports band basis]
    exact risenUpdate_reports configured (tank ▸ band) (tank ▸ basis)
  · obtain ⟨supply, -⟩ := stays goes
    have done := judgeFillDone_filling (s := t) (by rw [supply])
    rw [tanks, risenFill_target, if_neg short, ← update] at done
    rw [done, supply]

/-! ### The source back at TANK, and the rise timer (R145, R146) -/

/-- A fill ends by a return to TANK with its FILL_FAULT alone, where TANK_EMPTY neither holds nor is active. -/
theorem changeSource_abandons {s : State} {f : Fill} (filling : s.supply.fill = some f)
    (away : s.supply.source ≠ .tank) (wet : (s.tanks.get .t0).band ≠ .empty)
    (out : (s.gov.causes.get .tankEmpty).active = false) :
    (s.changeSource .tank).reports = s.reports.submit (stateReport .fillFault 0 .abandoned
      (optU16 (s.tanks.get .t0).volume ++ u16 f.target)) := by
  have judged {t : State} (tanks : t.tanks = s.tanks) (gov : t.gov = s.gov) : t.judgeTankEmpty = t := by
    unfold State.judgeTankEmpty
    dsimp only
    rw [if_neg (by simp [tanks, wet]), causeAbsent_out (by rw [gov, out])]
  have owned : (s.ownSource .tank).supply.source = .tank := rfl
  have abandoned : ((s.ownSource .tank).abandonFill .abandoned).reports = s.reports.submit
      (stateReport .fillFault 0 .abandoned (optU16 (s.tanks.get .t0).volume ++ u16 f.target)) := by
    have filling : (s.ownSource .tank).supply.fill = some f := filling
    simp [State.abandonFill, filling]
  simp [State.changeSource, away.symm, State.handSource, owned, judged, abandoned]

theorem riseExpiry_filling {s : State} {f : Fill} (filling : s.supply.fill = some f) : s.riseExpiry =
    if f.restarted = true ∧ s.clock ≤ f.riseTimer.startedAt + 10 then s
    else { s with
      supply := { s.supply with fill := none }
      reports := s.reports.submit (stateReport .fillFault 0 .noRise
        (optU16 (s.tanks.get .t0).volume ++ u16 f.target)) } := by
  simp [State.riseExpiry, State.abandonFill, Fill.metByRestart, filling, State.submit]

/-- Settles O60: FILL by its operand and the failing conditions of its list; a tank update by what its hand-over makes
of the fill (`tankUpdate_fill`); the return to TANK and the rise timer by the one operation that abandons a fill. -/
theorem fillBeginsAndEnds : Obligations.FillBeginsAndEnds := by
  refine ⟨fun tag mode hi lo s listening => ?_, fun s f filling configured => ?_,
    fun tag s f listening filling mode away wet configured out => ?_,
    fun s => ⟨fun idle => ?_, fun f filling => ?_⟩⟩
  · intro outcome full tank atFull ready
    have answered := answerFill_eq mode hi lo s.framed
    split
    · next large => exact exec_fill_reads listening (answered.trans (if_pos large))
    · next named =>
      have answered := answered.trans (if_neg named)
      split
      · next stop =>
        have answered := (answered.trans (if_pos stop)).trans (fillStop_eq s.framed)
        split
        · next idle => exact exec_fill_reads listening (answered.trans (if_pos idle))
        · next filling => exact exec_fill listening (answered.trans (if_neg filling))
      · next request =>
        have answered := answered.trans (if_neg request)
        split
        · next running =>
          exact exec_fill_reads listening (answered.trans (fillRequest_running (s := s.framed) running _))
        · next idle =>
          have idle : s.supply.fill = none := not_not.mp idle
          refine ⟨exec_fill_refused listening answered idle, fun ready v present => ?_⟩
          have begins := answered.trans (fillRequest_begins (s := s.framed) idle ready present _)
          rw [requestedTarget_eq named request] at begins
          exact exec_fill listening begins
  · exact ⟨s.tankUpdate .t0, exec_event (f := (·.tankUpdate .t0)) rfl s, tankUpdate_fill filling configured⟩
  · have engaged : s.framed.sourceRequest .tank = s.framed.sourceEngaged .tank := by
      have mode : s.framed.matrix.mode = _ := mode
      simp only [State.sourceRequest, mode]
    have answered := ((answerSource_named (b := 0) rfl s.framed).trans engaged).trans
      (sourceEngaged_returns (s := s.framed) away .tank)
    have answered := answered.trans (if_neg fun ⟨_, forbidden⟩ => forbidden.elim wet configured)
    obtain ⟨-, source, -, moved⟩ := changeSource_takes s.framed .tank
    obtain ⟨-, fill, -⟩ := moved (fun same => away same.symm)
    exact ⟨_, exec_source listening answered, source, fill,
      changeSource_abandons (s := s.framed) filling away wet out⟩
  · rw [exec_event (f := (·.riseExpiry)) rfl, State.riseExpiry, idle]
  · have expired := riseExpiry_filling filling
    intro met
    refine ⟨fun meets => ?_, fun misses => ?_⟩
    · rw [exec_event (f := (·.riseExpiry)) rfl, expired, if_pos meets]
    · rw [exec_event (f := (·.riseExpiry)) rfl, expired, if_neg misses]

end Sys2Proof.Machine

/-! # The queue of commands, the strap pin and the link port, through events and requests (R147, R150, R151) -/

namespace Sys2Proof.Machine

/-- The state has the queue of commands and the strap pin of another. -/
def State.SameOutside (s t : State) : Prop := t.pending = s.pending ∧ t.strap = s.strap

theorem eventOf_outside {c : Instr} {f : State → State} (h : eventOf c = some f) (s : State) :
    s.SameOutside (f s) := by
  cases c <;> cases h <;> simp [State.SameOutside]

/-- No event of the apparatus, the store or a timer moves the link port. -/
theorem eventOf_link {c : Instr} {f : State → State} (h : eventOf c = some f) (s : State) : (f s).link = s.link := by
  cases c <;> cases h <;> simp

theorem answerKind_outside (kind : Byte) (p : List Byte) (s : State) : s.SameOutside (answerKind kind p s).1 := by
  generalize e : answerKind kind p = answer
  unfold answerKind at e
  split at e <;> subst e <;> simp [State.SameOutside, answerUnknown]

/-- Of the requests RESTART alone moves the link port, and it closes the receiver and does no more (R154). -/
theorem answerKind_link (kind : Byte) (p : List Byte) (s : State) :
    (answerKind kind p s).1.link = { s.link with restarting := (answerKind kind p s).1.link.restarting } := by
  generalize e : answerKind kind p = answer
  unfold answerKind at e
  split at e <;> subst e
  case h_25 =>
    unfold answerRestart
    repeat' split
    all_goals rfl
  all_goals simp [answerUnknown]

/-- Every command answers a next state. -/
theorem exec_next (c : Instr) (s : State) : ∃ t, exec c s = .next t := by
  rcases exec_cases c with ⟨f, e⟩ | ⟨kind, tag, p, e⟩ | ⟨found, e⟩ | ⟨b, e⟩ | ⟨b, e⟩ | e | e
  · exact ⟨_, exec_event e s⟩
  · exact ⟨_, exec_frame e s⟩
  all_goals exact ⟨_, e s⟩

/-- Settles O2: every kind of command completes (`exec_next`), and no event, request, start-up or frame moves the
queue of commands or the strap. -/
theorem everyCommandCompletesAndLeavesQueueAndStrap : Obligations.EveryCommandCompletesAndLeavesQueueAndStrap := by
  intro c s
  obtain ⟨t, e⟩ := exec_next c s
  have kept : s.SameOutside t := by
    refine exec_keeps (P := s.SameOutside) (fun _ _ _ h => h) (fun _ _ h => h) (fun kind p u h => ?_)
      (fun f ef u h => ?_) ⟨rfl, rfl⟩ e
    · obtain ⟨pending, strap⟩ := answerKind_outside kind p u
      exact ⟨pending.trans h.1, strap.trans h.2⟩
    · obtain ⟨pending, strap⟩ := eventOf_outside ef u
      exact ⟨pending.trans h.1, strap.trans h.2⟩
  exact ⟨t, e, kept⟩

end Sys2Proof.Machine

/-! # The transmitter's choice, and the end of a frame (R147, R152, R154, R161, R163) -/

namespace Sys2Proof.Machine

/-! ### The next deliverable report (R161) -/

/-- The classes are 0 to 5 (R159). -/
theorem cls_lt (r : Report) : r.cls < 6 := by
  unfold Report.cls
  cases r.kind <;> decide

theorem nextClass_eq_some_iff {gates : BitVec 6} {l : List Report} {c : Nat} : nextClass gates l = some c ↔
    (gateOpen gates c = true ∧ ∃ x ∈ l, x.cls = c) ∧
    ∀ x ∈ l, gateOpen gates x.cls = true → c ≤ x.cls := by
  change List.find? _ (List.range 6) = some c ↔ _
  simp only [List.find?_range_eq_some, List.mem_range, Bool.and_eq_true, List.any_eq_true, beq_iff_eq,
    Bool.not_eq_true', Bool.and_eq_false_imp, List.any_eq_false]
  constructor
  · rintro ⟨held, -, least⟩
    refine ⟨held, fun x hx isOpen => ?_⟩
    by_contra below
    exact least x.cls (by omega) isOpen x hx rfl
  · rintro ⟨⟨isOpen, x, hx, rfl⟩, least⟩
    refine ⟨⟨isOpen, x, hx, rfl⟩, cls_lt x, fun d below openD y hy same => ?_⟩
    subst same
    exact absurd (least y hy openD) (by omega)

/-- With every report behind a closed gate there is none to deliver (R161, R162). -/
theorem takeNext_of_closed {q : ReportQueue} {gates : BitVec 6} (closed : ∀ x ∈ q.list, gateOpen gates x.cls = false) :
    q.takeNext gates = none := by
  rcases next : nextClass gates q.list with _ | c
  · simp [ReportQueue.takeNext, next]
  · obtain ⟨⟨isOpen, x, hx, rfl⟩, -⟩ := nextClass_eq_some_iff.mp next
    simp [closed x hx] at isOpen

/-- The report of a smaller class than every open one before it, and of no larger a class than any open one behind it,
is the next (R161). -/
theorem takeNext_of_oldest {q : ReportQueue} {gates : BitVec 6} {pre post : List Report} {r : Report}
    (list : q.list = pre ++ r :: post) (isOpen : gateOpen gates r.cls = true)
    (before : ∀ x ∈ pre, gateOpen gates x.cls = true → r.cls < x.cls)
    (behind : ∀ x ∈ post, gateOpen gates x.cls = true → r.cls ≤ x.cls) :
    q.takeNext gates = some (r, { q with list := pre ++ post }) := by
  have next : nextClass gates q.list = some r.cls := by
    refine nextClass_eq_some_iff.mpr ⟨⟨isOpen, r, by simp [list], rfl⟩, fun x hx openX => ?_⟩
    simp only [list, List.mem_append, List.mem_cons] at hx
    rcases hx with hx | rfl | hx
    · exact (before x hx openX).le
    · exact le_rfl
    · exact behind x hx openX
  have others : ∀ x ∈ pre, ¬(x.cls == r.cls) = true := by
    intro x hx same
    have same : x.cls = r.cls := by simpa using same
    exact absurd (before x hx (same ▸ isOpen)) (by omega)
  have found : q.list.find? (·.cls == r.cls) = some r := by
    rw [list, List.find?_append, List.find?_eq_none.mpr others]
    simp
  have left : q.list.eraseP (·.cls == r.cls) = pre ++ post := by
    rw [list, List.eraseP_append_right _ others]
    simp
  simp only [ReportQueue.takeNext, next, found, left]

/-! ### The choice (R147, R152, R154, R163) -/

section Reports

variable {s : State} (idle : s.link.tx = none) (unanswered : s.link.replies = []) (mode : s.link.mode = .fourWire)
  (running : s.link.restarting = false)
include idle unanswered mode running

/-- In FOUR_WIRE, with no reply waiting and no RESTART accepted, an idle transmitter begins the next deliverable report,
which leaves the queue. -/
theorem kick_report {r : Report} {q : ReportQueue} (next : s.reports.takeNext s.config.gates = some (r, q)) :
    s.kick = { s with
      reports := q, link := { s.link with tx := some ⟨false, frameBytes 0x60 0 (reportRecord r)⟩ } } := by
  simp [State.kick, LinkPort.beginFrame, idle, unanswered, mode, running, next]

theorem kick_no_report (next : s.reports.takeNext s.config.gates = none) : s.kick = s := by
  simp [State.kick, idle, unanswered, mode, running, next]

end Reports

/-- The choice begins a frame, which in TWO_WIRE drops one in part received, and moves nothing else of the port (R147,
R152). -/
theorem kick_link (s : State) :
    s.kick.link = { s.link with tx := s.kick.link.tx, rx := s.kick.link.rx } := by
  unfold State.kick
  repeat' split
  all_goals rfl

/-- Settles O42: the four lemmas about the choice, with the next deliverable report by its place in the queue. -/
theorem transmitterChoosesRepliesFirst : Obligations.TransmitterChoosesRepliesFirst := by
  intro s
  refine ⟨s.kick_eq, by rw [kick_link], fun f busy => kick_busy busy, fun idle => ⟨fun r rs waiting => ?_,
    fun unanswered closed => kick_silent unanswered closed, fun unanswered mode running => ⟨?_, fun closed => ?_⟩⟩⟩
  · rw [kick_reply idle waiting]
    exact ⟨rfl, rfl⟩
  · intro pre r post list isOpen before behind
    rw [kick_report idle unanswered mode running (takeNext_of_oldest list isOpen before behind)]
    exact ⟨rfl, rfl⟩
  · exact kick_no_report idle unanswered mode running (takeNext_of_closed closed)

/-! ### The end of a frame (R150, R152, R154) -/

theorem transmitEnds_idle {s : State} (idle : s.link.tx = none) : s.transmitEnds = s := by
  simp [State.transmitEnds, idle]

/-- The frame leaves the transmitter, a reply the list with it; where a RESTART was accepted and no reply is left the
start-up follows. -/
theorem transmitEnds_busy {s : State} {f : TxFrame} (busy : s.link.tx = some f) :
    s.transmitEnds = if s.link.restarting = true ∧ (s.link.endFrame f).replies = [] then s.startUp []
      else { s with link := s.link.endFrame f } := by
  have restarting : (s.link.endFrame f).restarting = s.link.restarting := rfl
  simp only [State.transmitEnds, busy, restarting, Bool.and_eq_true, List.isEmpty_iff]
  rfl

/-- Settles O41: the two outcomes of the frame's end, each followed by the transmitter's choice. -/
theorem transmitFrameEndSendsTheNext : Obligations.TransmitFrameEndSendsTheNext := by
  intro s
  have ends : exec .transmitFrameEnd s = .next s.transmitEnds.kick := rfl
  refine ⟨fun idle => by rw [ends, transmitEnds_idle idle], fun f busy => ?_⟩
  have left : (if f.isReply then s.link.replies.drop 1 else s.link.replies) = (s.link.endFrame f).replies := rfl
  rw [ends, transmitEnds_busy busy]
  dsimp only
  rw [left]
  split <;> rfl

end Sys2Proof.Machine

/-! # Frames as the receiver reads them (R148, R149, R155) -/

namespace Sys2Proof.Machine

/-- The length byte of a frame (R155). -/
def lengthByte (payload : List Byte) : Byte := BitVec.ofNat 8 (payload.length + 2)

/-- The bytes of a frame behind its start byte (R155). -/
def frameBody (kind tag : Byte) (payload : List Byte) : List Byte :=
  lengthByte payload :: (kind :: tag :: payload ++ [crc8 (lengthByte payload :: kind :: tag :: payload)])

theorem frameBytes_eq (kind tag : Byte) (payload : List Byte) :
    frameBytes kind tag payload = startByte :: frameBody kind tag payload := rfl

theorem frameBody_length (kind tag : Byte) (payload : List Byte) :
    (frameBody kind tag payload).length = payload.length + 4 := by
  simp [frameBody]

theorem take_frameBody_succ (kind tag : Byte) {payload : List Byte} {n : Nat} (more : n < payload.length + 4) :
    ∃ b, (frameBody kind tag payload).take (n + 1) = (frameBody kind tag payload).take n ++ [b] :=
  ⟨_, (List.take_append_getElem (by rwa [frameBody_length])).symm⟩

section Payload

variable {payload : List Byte} (fits : payload.length ≤ 60)
include fits

theorem toNat_lengthByte : (lengthByte payload).toNat = payload.length + 2 := by
  simp only [lengthByte, BitVec.toNat_ofNat]
  omega

theorem lengthOk_lengthByte : lengthOk (lengthByte payload) = true := by
  simp only [lengthOk, toNat_lengthByte fits, Bool.and_eq_true, decide_eq_true_eq]
  omega

/-- A frame is read whole, whatever stands behind it (R148, R149). -/
theorem readFrame_frameBody (kind tag : Byte) (rest : List Byte) :
    readFrame (frameBody kind tag payload ++ rest) = .whole kind tag payload rest := by
  have long : ¬((kind :: tag :: payload ++ [crc8 (lengthByte payload :: kind :: tag :: payload)]) ++ rest).length ≤
      payload.length + 2 := by simp
  rw [frameBody, List.cons_append, readFrame, toNat_lengthByte fits, if_neg (by simp [lengthOk_lengthByte fits]),
    if_neg long]
  simp

/-- Fewer of its bytes than the frame has are a part of one (R148). -/
theorem readFrame_take_frameBody (kind tag : Byte) {n : Nat} (short : n < payload.length + 4) :
    readFrame ((frameBody kind tag payload).take n) = .partly := by
  cases n with
  | zero => rfl
  | succ n =>
    have expected : ((kind :: tag :: payload ++ [crc8 (lengthByte payload :: kind :: tag :: payload)]).take n).length ≤
        (lengthByte payload).toNat := by
      rw [toNat_lengthByte fits, List.length_take]
      omega
    rw [frameBody, List.take_succ_cons, readFrame, if_neg (by simp [lengthOk_lengthByte fits]), if_pos expected]

end Payload

/-- Settles O4: a whole frame and each shorter part of it, as `readFrame` takes them. -/
theorem frameIsReadBackWhole : Obligations.FrameIsReadBackWhole := fun kind tag _ rest fits =>
  ⟨readFrame_frameBody fits kind tag rest, fun _ short => readFrame_take_frameBody fits kind tag short⟩

end Sys2Proof.Machine

/-! # What the receiver makes of a byte (R148) -/

namespace Sys2Proof.Machine

/-! ### Bytes gone over from the hunting state -/

theorem receive_nil (fuel : Nat) (s : State) : State.receive fuel [] s = s.setRx [] := by
  cases fuel <;> rfl

/-- Bytes that are no start byte are passed over. -/
theorem receive_append {pre : List Byte} (noStart : ∀ x ∈ pre, x ≠ startByte) (fuel : Nat) (post : List Byte)
    (s : State) :
    State.receive (pre.length + fuel) (pre ++ post) s = State.receive fuel post s := by
  induction pre with
  | nil => simp
  | cons b pre ih =>
    obtain ⟨first, others⟩ := List.forall_mem_cons.mp noStart
    rw [List.length_cons, Nat.add_right_comm, List.cons_append, State.receive, if_pos first, ih others]

section Frame

variable {body : List Byte} (fuel : Nat) (s : State)

/-- A frame of which more is to come is kept. -/
theorem receive_partly (read : readFrame body = .partly) :
    State.receive (fuel + 1) (startByte :: body) s = s.setRx (startByte :: body) := by
  simp [State.receive, read]

/-- A bad frame is looked through from the byte after its start byte. -/
theorem receive_bad (read : readFrame body = .bad) :
    State.receive (fuel + 1) (startByte :: body) s = State.receive fuel body s := by
  simp [State.receive, read]

/-- A whole frame with nothing behind it is taken, and the receiver hunts again. -/
theorem receive_whole {kind tag : Byte} {payload : List Byte} (read : readFrame body = .whole kind tag payload []) :
    State.receive (fuel + 1) (startByte :: body) s = (s.takeFrame kind tag payload).setRx [] := by
  simp [State.receive, read, receive_nil]

end Frame

/-! ### A byte -/

theorem exec_byteArrival (b : Byte) (s : State) : exec (.byteArrival b) s = .next (s.byteArrives b).kick := rfl

section Byte

variable {s : State} (b : Byte)

theorem byteArrives_lost (closed : s.listening = false) : s.byteArrives b = s := by
  simp [State.byteArrives, closed]

variable (listening : s.listening = true)
include listening

theorem byteArrives_eq : s.byteArrives b = State.receive (s.link.rx.length + 1) (s.link.rx ++ [b]) s :=
  if_pos listening

/-- A hunting receiver begins a frame at a start byte and passes over any other. -/
theorem byteArrives_hunting (hunting : s.link.rx = []) :
    s.byteArrives b = s.setRx (if b = startByte then [startByte] else []) := by
  rw [byteArrives_eq b listening, hunting]
  split
  · next start =>
    subst start
    exact receive_partly 0 s rfl
  · next other =>
    exact receive_append (pre := [b]) (by simpa using other) 0 [] s

variable {body : List Byte} (collecting : s.link.rx = startByte :: body)
include collecting

theorem byteArrives_partly (read : readFrame (body ++ [b]) = .partly) :
    s.byteArrives b = s.setRx (startByte :: (body ++ [b])) := by
  rw [byteArrives_eq b listening, collecting]
  exact receive_partly _ s read

theorem byteArrives_whole {kind tag : Byte} {payload : List Byte}
    (read : readFrame (body ++ [b]) = .whole kind tag payload []) :
    s.byteArrives b = (s.takeFrame kind tag payload).setRx [] := by
  rw [byteArrives_eq b listening, collecting]
  exact receive_whole _ s read

/-- A bad frame's bytes give way to the next start byte among them, with what stands behind it. -/
theorem byteArrives_bad {pre post : List Byte} (read : readFrame (body ++ [b]) = .bad)
    (parts : body ++ [b] = pre ++ post) (noStart : ∀ x ∈ pre, x ≠ startByte)
    (next : post = [] ∨ ∃ more, post = startByte :: more ∧ readFrame more = .partly) :
    s.byteArrives b = s.setRx post := by
  have length : body.length + 1 = pre.length + post.length := by simpa using congrArg List.length parts
  rw [byteArrives_eq b listening, collecting, List.cons_append, receive_bad _ s read, List.length_cons, length, parts,
    receive_append noStart]
  rcases next with rfl | ⟨more, rfl, part⟩
  · exact receive_nil _ s
  · exact receive_partly _ s part

end Byte

/-- A byte that makes the frame bad is a discard of it (log 4). -/
theorem frameDiscards_bad {s : State} {b : Byte} {body : List Byte} (collecting : s.link.rx = startByte :: body)
    (read : readFrame (body ++ [b]) = .bad) :
    s.frameDiscards b = s.byteArrives b := by
  simp [State.frameDiscards, State.discardedBy, collecting, read]

/-- Settles O44: the lemmas about one byte, each followed by the transmitter's choice. -/
theorem receiverHuntsAndCollects : Obligations.ReceiverHuntsAndCollects := by
  have discards (s : State) (b : Byte) : exec (.frameDiscarded b) s = .next (s.frameDiscards b).kick := rfl
  refine ⟨fun s b listening hunting => ?_, fun s b body listening collecting read => ?_,
    fun s b body pre post listening collecting read parts noStart next => ?_, fun s => rfl⟩
  · rw [exec_byteArrival, byteArrives_hunting b listening hunting]
    rfl
  · rw [exec_byteArrival, byteArrives_partly b listening collecting read]
    rfl
  · rw [exec_byteArrival, discards, frameDiscards_bad collecting read,
      byteArrives_bad b listening collecting read parts noStart next]
    exact ⟨rfl, rfl⟩

end Sys2Proof.Machine

/-! # Frames answered, frames refused and frames lost (R147, R150, R151, R154) -/

namespace Sys2Proof.Machine

/-! ### The frame of a request -/

/-- The command that stands for a frame is the row of its kind, with that frame (R150, R155). -/
theorem frameOf_requestOf (kind tag : Byte) (p : List Byte) : frameOf (requestOf kind tag p) = some (kind, tag, p) := by
  unfold requestOf
  split
  case h_26 => rfl
  all_goals
    next code =>
      rw [show kind = BitVec.ofNat 8 kind.toNat by simp, code]
      rfl

theorem exec_requestOf (kind tag : Byte) (p : List Byte) (s : State) :
    exec (requestOf kind tag p) s = .next (s.takeFrame kind tag p) :=
  exec_frame (frameOf_requestOf kind tag p) s

/-- The receiver is closed by a RESTART, by four waiting replies, and in TWO_WIRE by the transmitter (R147, R150,
R154). -/
theorem listening_closed {s : State} (h : s.link.restarting = true ∨ 4 ≤ s.link.replies.length ∨
    (s.link.mode = .twoWire ∧ s.link.tx ≠ none)) : s.listening = false := by
  rcases h with restarting | four | ⟨twoWire, busy⟩
  · simp [State.listening, restarting]
  · simp [State.listening, not_lt.mpr four]
  · simp [State.listening, twoWire, Option.isSome_iff_ne_none.mpr busy]

/-- A frame that comes while the receiver is closed changes nothing, whatever its row (R147, R150, R154). -/
theorem exec_frame_lost {c : Instr} {kind tag : Byte} {p : List Byte} {s : State}
    (frame : frameOf c = some (kind, tag, p)) (closed : s.listening = false) : exec c s = .next s := by
  rw [exec_frame frame, State.takeFrame, onFrame_lost _ _ _ closed]

/-- A frame whose owner only reads leaves the state and its reply. -/
theorem exec_frame_reads {c : Instr} {kind tag : Byte} {p : List Byte} {s : State} {a : Answer}
    (frame : frameOf c = some (kind, tag, p)) (listening : s.listening = true)
    (reads : answerKind kind p s.framed = (s.framed, a)) : exec c s = .next (s.answered kind tag a) :=
  exec_request (t := s.framed) (exec_frame frame s) listening (by rw [reads]) reads

/-! ### Unknown kinds and wrong lengths (R150, R151, R155, R158) -/

theorem answerKind_unknown {kind : Byte} (unknown : kind.toNat ∉ requestKinds) (p : List Byte) :
    answerKind kind p = answerUnknown kind := by
  unfold answerKind
  split
  case h_26 => rfl
  all_goals
    next code => exact absurd (by rw [code]; decide) unknown

/-- A request whose payload has not the length of its kind is answered with the length it has, before its owner looks
further. -/
theorem answerKind_wrongLength {kind : Byte} {n : Nat} {p : List Byte} (length : requestLength kind.toNat = some n)
    (wrong : p.length ≠ n) (s : State) : answerKind kind p s = (s, badLength p) := by
  generalize e : answerKind kind p = answer
  unfold answerKind at e
  split at e <;> subst e
  case h_18 code => simp [code, requestLength] at length
  case h_26 => simp_all [requestLength]
  all_goals
    next code =>
      rw [code] at length
      cases length
      simp only [answerStatus, answerFetch, answerGate, answerInputs, answerLockoutSet, answerLockoutGet,
        answerLatchClear, answerSilence, answerEngage, answerConfirm, answerDisengage, answerGovern, answerNudge,
        answerResume, answerPrime, answerGovRead, answerTankRead, answerTankSet, answerSource, answerFill,
        answerParamSet, answerParamGet, answerCommit, answerRestart]
      split
      · exact absurd rfl wrong
      · rfl

theorem answerTankTable_short {p : List Byte} (short : p.length < 2) (s : State) :
    answerTankTable p s = (s, badLength p) := by
  unfold answerTankTable
  split
  · simp at short
  · rfl

/-- Settles O43: a refused frame by what its owner answers, a lost one by the closed receiver. -/
theorem wrongAndLostFramesChangeNothing : Obligations.WrongAndLostFramesChangeNothing := by
  refine ⟨fun kind tag p s listening => ⟨fun unknown => ?_, fun n length wrong => ?_, fun short => ?_⟩,
    fun kind tag p s closed => exec_frame_lost (frameOf_requestOf kind tag p) (listening_closed closed)⟩
  · exact exec_frame_reads rfl listening (by rw [answerKind_unknown unknown]; rfl)
  · exact exec_frame_reads (frameOf_requestOf kind tag p) listening (answerKind_wrongLength length wrong _)
  · exact exec_tankTable_refused listening (answerTankTable_short short _)

/-! ### The reply of a request (R150, R152) -/

/-- A reply at the end of the list, and the transmitter's choice after it, as a request leaves the port. -/
theorem kick_pushReply {s : State} (hunting : s.link.rx = []) (r : Reply) :
    (s.pushReply r).kick = { s with link := s.link.answered r } := by
  rcases tx : s.link.tx with _ | f
  · rcases waiting : s.link.replies ++ [r] with _ | ⟨q, qs⟩
    · simp at waiting
    · have idle : (s.pushReply r).link.tx = none := tx
      rw [kick_reply idle waiting]
      simp [State.pushReply, LinkPort.answered, LinkPort.beginFrame, hunting, tx, waiting]
  · have busy : (s.pushReply r).link.tx = some f := tx
    rw [kick_busy busy]
    simp [State.pushReply, LinkPort.answered, hunting, tx]

/-- Behind an answer the transmitter is busy. -/
theorem answered_tx (k : LinkPort) (r : Reply) : (k.answered r).tx ≠ none := by
  rcases tx : k.tx with _ | f
  · rcases waiting : k.replies ++ [r] with _ | ⟨q, qs⟩
    · simp at waiting
    · simp [LinkPort.answered, tx, waiting]
  · simp [LinkPort.answered, tx]

/-- A frame taken leaves what its owner made of the state, and the reply. -/
theorem takeFrame_eq {s : State} (listening : s.listening = true) (kind tag : Byte) (p : List Byte) :
    s.takeFrame kind tag p =
      let owned := answerKind kind p s.framed
      { owned.1 with link := owned.1.link.answered (replyOf kind tag owned.2) } := by
  have hunting : (answerKind kind p s.framed).1.link.rx = [] := by
    rw [answerKind_link]
    rfl
  exact (if_pos listening).trans (kick_pushReply hunting _)

end Sys2Proof.Machine

/-! # RESTART, and the receiver that stays closed (R154) -/

namespace Sys2Proof.Machine

theorem answerRestart_accepted {s : State} (free : ¬s.storeBusy = true) (road : s.matrix.mode = .road) :
    answerRestart [] s = ({ s with link := { s.link with restarting := true } }, .ok) := by
  simp [answerRestart, free, road]

/-- An accepted RESTART is answered DONE and closes the receiver. -/
theorem exec_restart_accepted {tag : Byte} {s : State} (listening : s.listening = true) (free : ¬s.storeBusy = true)
    (road : s.matrix.mode = .road) : exec (.restart tag []) s = .next
      { s with link := { s.link.answered (replyOf 0x53 tag (.done false false [])) with restarting := true } } := by
  have owned : answerKind 0x53 [] s.framed = _ := answerRestart_accepted (s := s.framed) free road
  rw [exec_frame (kind := 0x53) rfl, takeFrame_eq listening, owned]
  rfl

theorem kick_restarting (s : State) : s.kick.link.restarting = s.link.restarting := by
  rw [kick_link]

/-- With a RESTART accepted the end of a frame reopens the receiver only by the start-up behind the last reply. -/
theorem transmitEnds_closed {s : State} (closed : s.link.restarting = true) :
    s.transmitEnds.link.restarting = true ∨ ∃ f, s.link.tx = some f ∧ (s.link.endFrame f).replies = [] := by
  rcases tx : s.link.tx with _ | f
  · exact .inl (by rwa [transmitEnds_idle tx])
  · rw [transmitEnds_busy tx]
    by_cases last : (s.link.endFrame f).replies = []
    · exact .inr ⟨f, rfl, last⟩
    · rw [if_neg fun h => last h.2]
      exact .inl closed

/-- What an accepted RESTART leaves takes no byte: the receiver is closed, and the transmitter is busy with a reply. -/
theorem exec_byteArrival_restarted (s : State) (r : Reply) (b : Byte) :
    exec (.byteArrival b) { s with link := { s.link.answered r with restarting := true } } =
      .next { s with link := { s.link.answered r with restarting := true } } := by
  obtain ⟨f, busy⟩ := Option.ne_none_iff_exists'.mp (answered_tx s.link r)
  rw [exec_byteArrival, byteArrives_lost b (listening_closed (.inl rfl)), kick_busy (f := f) busy]

/-- Events leave the link port alone, and a closed receiver loses every frame and byte: only a start-up reopens it. -/
theorem exec_closed {c : Instr} {s t : State} (closed : s.link.restarting = true) (e : exec c s = .next t) :
    t.link.restarting = true ∨ (∃ found, c = .powerOn found ∨ c = .resetLine found) ∨
    (c = .transmitFrameEnd ∧ ∃ f, s.link.tx = some f ∧ (s.link.endFrame f).replies = []) := by
  have lost : s.listening = false := listening_closed (.inl closed)
  rcases event : eventOf c with _ | f
  · rcases frame : frameOf c with _ | ⟨kind, tag, p⟩
    · cases c
      case powerOn found => exact .inr (.inl ⟨found, .inl rfl⟩)
      case resetLine found => exact .inr (.inl ⟨found, .inr rfl⟩)
      case byteArrival b =>
        cases e
        rw [kick_restarting, byteArrives_lost b lost]
        exact .inl closed
      case frameDiscarded b =>
        cases e
        rw [kick_restarting, State.frameDiscards, byteArrives_lost b lost, ite_self]
        exact .inl closed
      case frameGapTimeout =>
        cases e
        rw [kick_restarting]
        exact .inl closed
      case transmitFrameEnd =>
        cases e
        rw [kick_restarting]
        exact (transmitEnds_closed closed).imp_right fun last => .inr ⟨rfl, last⟩
      all_goals simp [eventOf, frameOf] at event frame
    · cases (exec_frame_lost frame lost).symm.trans e
      exact .inl closed
  · cases (exec_event event s).symm.trans e
    rw [kick_restarting, eventOf_link event]
    exact .inl closed

/-- Settles O40: RESTART by its checks in order, what an accepted one leaves, and each step after it (`exec_closed`). -/
theorem restartClosesTheReceiver : Obligations.RestartClosesTheReceiver := by
  refine ⟨fun tag s listening => ?_, fun c s t closed e => exec_closed closed e⟩
  have refused {a : Answer} (answered : answerRestart [] s.framed = (s.framed, a)) :
      exec (.restart tag []) s = .next (s.answered 0x53 tag a) := exec_frame_reads (kind := 0x53) rfl listening answered
  split
  · next busy => exact refused (if_pos busy)
  · next free =>
    split
    · next elsewhere => exact refused ((if_neg free).trans (if_pos elsewhere))
    · next road =>
      exact ⟨_, exec_restart_accepted listening free (not_not.mp road), rfl, exec_byteArrival_restarted s _,
        fun kind tag' p => exec_frame_lost (frameOf_requestOf kind tag' p) (listening_closed (.inl rfl))⟩

end Sys2Proof.Machine

/-! # The bytes of a frame, one by one (R148, R150, R155) -/

namespace Sys2Proof.Machine

/-- What comes of an outcome when a further byte arrives. -/
def arrive (o : StepOutcome) (b : Byte) : StepOutcome :=
  match o with
  | .next t => exec (.byteArrival b) t
  | .fault f => .fault f
  | .refused r => .refused r

theorem arrive_next (s : State) (b : Byte) : arrive (.next s) b = .next (s.byteArrives b).kick :=
  exec_byteArrival b s

/-- An idle transmitter that begins no frame leaves the state (R152). -/
theorem kick_of_idle {s : State} (idle : s.kick.link.tx = none) : s.kick = s := by
  unfold State.kick at idle ⊢
  repeat' split
  all_goals simp_all [LinkPort.beginFrame]

/-- The choice of a frame does not look at the receiver. -/
theorem kick_setRx_tx (s : State) (rx : List Byte) : (s.setRx rx).kick.link.tx = s.kick.link.tx := by
  rcases tx : s.link.tx with _ | f
  · rcases waiting : s.link.replies with _ | ⟨r, rs⟩
    · rcases next : s.reports.takeNext s.config.gates with _ | ⟨r, q⟩ <;>
        simp [State.kick, State.setRx, LinkPort.beginFrame, tx, waiting, next, apply_ite]
    · simp [State.kick, State.setRx, LinkPort.beginFrame, tx, waiting]
  · simp [State.kick, State.setRx, tx]

/-- A transmitter that has nothing to choose has nothing to choose whatever the receiver holds. -/
theorem kick_setRx {s : State} (quiet : s.kick = s) (rx : List Byte) : (s.setRx rx).kick = s.setRx rx := by
  rcases tx : s.link.tx with _ | f
  · exact kick_of_idle (by rw [kick_setRx_tx, quiet, tx])
  · exact kick_busy (f := f) tx

theorem takeFrame_setRx {s : State} (listening : s.listening = true) (rx : List Byte) (kind tag : Byte)
    (p : List Byte) : (s.setRx rx).takeFrame kind tag p = s.takeFrame kind tag p := by
  have still : (s.setRx rx).listening = true := listening
  rw [takeFrame_eq listening, takeFrame_eq still]
  rfl

/-- A frame taken leaves the receiver hunting and nothing for the transmitter to choose (R148, R152). -/
theorem takeFrame_quiet {s : State} (listening : s.listening = true) (kind tag : Byte) (p : List Byte) :
    ((s.takeFrame kind tag p).setRx []).kick = s.takeFrame kind tag p := by
  rw [takeFrame_eq listening]
  obtain ⟨f, busy⟩ := Option.ne_none_iff_exists'.mp (answered_tx (answerKind kind p s.framed).1.link
    (replyOf kind tag (answerKind kind p s.framed).2))
  exact kick_busy (f := f) busy

section Frame

variable {s : State} {payload : List Byte} (kind tag : Byte) (fits : payload.length ≤ 60)
  (listening : s.listening = true) (hunting : s.link.rx = []) (quiet : s.kick = s)
include fits listening hunting quiet

/-- The start byte and a part of the rest of a frame are collected. -/
theorem arrive_part {n : Nat} (part : n < payload.length + 4) :
    (startByte :: (frameBody kind tag payload).take n).foldl arrive (.next s) =
      .next (s.setRx (startByte :: (frameBody kind tag payload).take n)) := by
  induction n with
  | zero =>
    change arrive (.next s) startByte = _
    rw [arrive_next, byteArrives_hunting startByte listening hunting, kick_setRx quiet]
    rfl
  | succ n ih =>
    obtain ⟨b, grown⟩ := take_frameBody_succ kind tag (payload := payload) (n := n) (by omega)
    have read := readFrame_take_frameBody fits kind tag part
    rw [grown] at read ⊢
    have collected := byteArrives_partly (s := s.setRx (startByte :: (frameBody kind tag payload).take n)) b listening
      rfl read
    rw [← List.cons_append, List.foldl_append, ih (by omega), List.foldl_cons, List.foldl_nil, arrive_next, collected]
    exact congrArg _ (kick_setRx quiet _)

/-- All the bytes of a frame bring the frame. -/
theorem arrive_frame : (frameBytes kind tag payload).foldl arrive (.next s) = .next (s.takeFrame kind tag payload) := by
  obtain ⟨b, grown⟩ := take_frameBody_succ kind tag (payload := payload) (n := payload.length + 3) (by omega)
  have whole : frameBody kind tag payload = (frameBody kind tag payload).take (payload.length + 3) ++ [b] :=
    (List.take_of_length_le (frameBody_length kind tag payload).le).symm.trans grown
  have read := readFrame_frameBody fits kind tag []
  rw [List.append_nil, whole] at read
  have taken := byteArrives_whole (s := s.setRx (startByte :: (frameBody kind tag payload).take (payload.length + 3))) b
    listening rfl read
  rw [frameBytes_eq, whole, ← List.cons_append, List.foldl_append,
    arrive_part kind tag fits listening hunting quiet (by omega), List.foldl_cons, List.foldl_nil, arrive_next, taken,
    takeFrame_setRx listening, takeFrame_quiet listening]

end Frame

/-- Settles O5: the frame that the bytes bring (`arrive_frame`) is the request of its kind (`exec_requestOf`). -/
theorem bytesOfAFrameBringItsRequest : Obligations.BytesOfAFrameBringItsRequest := by
  intro s kind tag payload fits listening hunting quiet
  rw [exec_requestOf]
  exact arrive_frame kind tag fits listening hunting quiet

end Sys2Proof.Machine

/-! # The STATUS request (R153, R155) -/

namespace Sys2Proof.Machine

/-- The permits and O_DRIVE_INHIBIT as the status record packs them, O_DRIVE_INHIBIT at bit 4 (R155). -/
def Matrix.permitBits (m : Matrix) : Nat :=
  packBits [m.permits.drive, m.permits.engage, m.permits.throttle, m.permits.fill, m.driveInhibit]

theorem packBits_fifth : ∀ a b c d e : Bool, packBits [a, b, c, d] + 16 * bit e = packBits [a, b, c, d, e] := by
  decide

theorem permitBits_eq (m : Matrix) : permitSet m.permits + 16 * bit m.driveInhibit = m.permitBits :=
  packBits_fifth _ _ _ _ _

theorem permitBits_permit (m : Matrix) (p : Permit) :
    (loByte m.permitBits).getLsbD (permitCode p) = m.permits.get p := by
  cases p <;> exact flags_getLsbD _ (by decide)

/-- The flags of the status record, in the order of their bits (R155). -/
def State.statusFlags (s : State) : List Bool :=
  [s.supply.changeover.isSome, s.storeBusy, s.reports.overflowed, s.store.degraded, s.recoveredAtStart,
    s.link.mode == .twoWire]

/-- The status record byte by byte (R153, R155). -/
theorem statusRecord_eq (s : State) : s.statusRecord =
    let t := s.tanks.get .t0
    [loByte s.matrix.mode.code, loByte s.seq.path.code, loByte s.seq.state.code, loByte s.gov.opMode.code,
      loByte s.gov.effMode.code, loByte s.gov.causeSet, hiByte s.gov.demand, loByte s.gov.demand,
      hiByte s.matrix.cap, loByte s.matrix.cap, loByte s.matrix.permitBits, loByte s.supply.source.code,
      hiByte (t.volume.getD 65535), loByte (t.volume.getD 65535), loByte t.basis.code, loByte t.band.code,
      loByte s.reports.list.length, loByte (packBits s.statusFlags)] := by
  simp only [State.statusRecord, optU16_eq, permitBits_eq]
  rfl

/-- A litre count that two bytes can hold reads as it is, an absent one as 65535 (R129). -/
theorem readU16_volume (v : Option Nat) :
    let field := readU16 (hiByte (v.getD 65535)) (loByte (v.getD 65535))
    (∀ x, v = some x → x < 65536 → field = x) ∧ (v = none → field = 65535) := by
  refine ⟨?_, ?_⟩
  · rintro x rfl fits
    exact readU16_of_lt fits
  · rintro rfl
    exact readU16_of_lt (by decide)

theorem exec_status {tag clear : Byte} {s : State} (listening : s.listening = true) :
    exec (.status tag [clear]) s =
      .next ((if clear = 0 then s else s.clearSticky).answered 0x01 tag (.record s.statusRecord)) := by
  have answered : answerStatus [clear] s.framed =
      (if clear = 0 then s.framed else s.framed.clearSticky, .record s.statusRecord) := rfl
  rw [exec_request (kind := 0x01) rfl listening (by simp) answered]
  split <;> rfl

/-- Settles O36: each field of the record (`statusRecord_eq`) read back from its place. -/
theorem statusReadsThePart : Obligations.StatusReadsThePart := by
  intro tag clear s listening
  obtain ⟨volume, absent⟩ := readU16_volume (s.tanks.get .t0).volume
  have flag {k : Nat} (h : k < 8) := flags_getLsbD s.statusFlags h
  have twoWire : (loByte (packBits s.statusFlags)).getLsbD 5 = (s.link.mode == .twoWire) := flag (by decide)
  refine ⟨s.statusRecord, exec_status listening, ?_⟩
  rw [statusRecord_eq]
  refine ⟨rfl, rfl, causeSet_getLsbD _, readU16_of_lt, readU16_of_lt, permitBits_permit s.matrix,
    flags_getLsbD _ (by decide), rfl, volume, absent, rfl, rfl, toNat_loByte, flag (by decide),
    (Bool.eq_iff_iff.mp twoWire).trans beq_iff_eq, flag (by decide), flag (by decide), flag (by decide),
    flag (by decide)⟩

end Sys2Proof.Machine

/-! # Lockout entries as bytes (R155, R156) -/

namespace Sys2Proof.Machine

theorem lineOfNo_lineNo (l : Line) : lineOfNo (lineNo l) = some l := by cases l <;> rfl

theorem tankOfNo_tankNo (t : TankIx) : tankOfNo (tankNo t) = some t := by cases t <;> rfl

theorem bit_beq_one (b : Bool) : (bit b == 1) = b := by cases b <;> rfl

theorem bit_le_one (b : Bool) : bit b ≤ 1 := by cases b <;> decide

/-- A condition's kind and operands are read as the condition. -/
theorem readLockCond_cond (c : LockCond) : readLockCond (condKind c) (condOp1 c) (condOp2 c) = .ok c := by
  cases c with
  | line l high => simp [readLockCond, condKind, condOp1, condOp2, lineOfNo_lineNo, bit_le_one, bit_beq_one]
  | roadSpeedAbove v => rfl
  | engineAbove n => rfl
  | tankBand t empty => simp [readLockCond, condKind, condOp1, condOp2, tankOfNo_tankNo, bit_le_one, bit_beq_one]
  | pumpTempAbove t => rfl

/-- The first byte of a present entry is its condition's kind, which no absent one has. -/
theorem toNat_condKind (c : LockCond) : (loByte (condKind c)).toNat = condKind c ∧ loByte (condKind c) ≠ 0#8 := by
  cases c <;> simp [condKind, loByte]

theorem toNat_condOp2 (c : LockCond) : (loByte (condOp2 c)).toNat = condOp2 c := by
  cases c with
  | line l high => cases high <;> rfl
  | tankBand t empty => cases empty <;> rfl
  | roadSpeedAbove | engineAbove | pumpTempAbove => rfl

/-- A set of bits that is not empty, in one byte, passes its structural check and is read as the set (R156). -/
theorem setByte_read {w top : Nat} (range : 2 ^ w = top + 1) (narrow : w ≤ 8) {x : BitVec w} (nonempty : x ≠ 0) :
    ¬(loByte x.toNat = 0#8 ∨ top < (loByte x.toNat).toNat) ∧ (loByte x.toNat).setWidth w = x := by
  have below : x.toNat < 2 ^ w := x.isLt
  have fits : (loByte x.toNat).toNat = x.toNat :=
    toNat_loByte (below.trans_le (Nat.pow_le_pow_right (by decide) narrow))
  refine ⟨?_, BitVec.eq_of_toNat_eq (by rw [BitVec.toNat_setWidth, fits, Nat.mod_eq_of_lt below])⟩
  rintro (zero | above)
  · refine nonempty (BitVec.eq_of_toNat_eq ?_)
    rw [← fits, zero]
    rfl
  · omega

theorem latchByte_read (b : Bool) : ¬1 < (loByte (bit b)).toNat ∧ (loByte (bit b) == 1#8) = b := by
  cases b <;> decide

/-- The nine bytes of an entry (R155). -/
theorem entryBytes_some (e : LockoutEntry) : entryBytes (some e) =
    [loByte (condKind e.cond), hiByte (condOp1 e.cond), loByte (condOp1 e.cond), loByte (condOp2 e.cond),
      loByte e.armed.toNat, loByte e.effects.toNat, loByte (bit e.latching), hiByte e.delay, loByte e.delay] := rfl

/-- Settles O7: each of the nine bytes (`entryBytes_some`) passes its check and is read as its part of the entry. -/
theorem lockoutEntryIsReadBack : Obligations.LockoutEntryIsReadBack := by
  refine ⟨fun e armed effects operand delay => ?_, rfl, fun b1 b2 b3 b4 b5 b6 b7 b8 => if_pos rfl⟩
  obtain ⟨kind, present⟩ := toNat_condKind e.cond
  obtain ⟨modes, readModes⟩ := setByte_read (top := 15) rfl (by decide) armed
  obtain ⟨effect, readEffects⟩ := setByte_read (top := 31) rfl (by decide) effects
  obtain ⟨latch, readLatch⟩ := latchByte_read e.latching
  refine ⟨_, _, _, _, _, _, _, _, _, entryBytes_some e, ?_⟩
  rw [readEntry, if_neg present, kind, readU16_of_lt operand, toNat_condOp2, readLockCond_cond]
  dsimp only
  rw [if_neg modes, if_neg effect, if_neg latch, readModes, readEffects, readLatch, readU16_of_lt delay]

end Sys2Proof.Machine

/-! # Tank tables as bytes (R157) -/

namespace Sys2Proof.Machine

/-! ### Numbers spelled digit by digit, most significant first -/

/-- The number whose digits to a base are the values of a list, the first the most significant. -/
def spell {α : Type} (base : Nat) (value : α → Nat) (l : List α) : Nat := l.foldl (fun n a => n * base + value a) 0

section Spell

variable {α : Type} {base : Nat} {value : α → Nat}

theorem spell_append (l m : List α) :
    spell base value (l ++ m) = spell base value l * base ^ m.length + spell base value m := by
  induction m using List.reverseRecOn with
  | nil => simp [spell]
  | append_singleton m a ih =>
    have last (k : List α) : spell base value (k ++ [a]) = spell base value k * base + value a := by simp [spell]
    rw [← List.append_assoc, last, ih, last, List.length_append, List.length_singleton]
    ring

theorem spell_cons (a : α) (l : List α) :
    spell base value (a :: l) = value a * base ^ l.length + spell base value l := by
  simpa [spell] using spell_append (base := base) (value := value) [a] l

theorem spell_lt {l : List α} (digits : ∀ a ∈ l, value a < base) : spell base value l < base ^ l.length := by
  induction l with
  | nil => simp [spell]
  | cons a l ih =>
    obtain ⟨first, others⟩ := List.forall_mem_cons.mp digits
    have rest := ih others
    have carried : (value a + 1) * base ^ l.length ≤ base * base ^ l.length := Nat.mul_le_mul_right _ first
    rw [spell_cons, List.length_cons, Nat.pow_succ']
    linarith

/-- The digit before the last `post.length` is read by a division and a remainder. -/
theorem spell_digit {pre post : List α} {a : α} (digits : ∀ b ∈ pre ++ a :: post, value b < base) :
    spell base value (pre ++ a :: post) / base ^ post.length % base = value a := by
  have digit : value a < base := digits a (by simp)
  have rest : spell base value post < base ^ post.length := spell_lt fun b hb => digits b (by simp [hb])
  have split : spell base value (pre ++ a :: post) =
      (spell base value pre * base + value a) * base ^ post.length + spell base value post := by
    rw [spell_append, spell_cons, List.length_cons]
    ring
  rw [split, Nat.mul_comm, Nat.mul_add_div (by omega), Nat.div_eq_of_lt rest, Nat.add_zero, Nat.mul_comm,
    Nat.mul_add_mod, Nat.mod_eq_of_lt digit]

end Spell

/-! ### Bytes -/

theorem natOfBytes_eq (bytes : List Byte) : natOfBytes bytes = spell 256 BitVec.toNat bytes := rfl

theorem bytesOfNat_length (m n : Nat) : (bytesOfNat m n).length = m := by
  induction m with
  | zero => rfl
  | succ m ih => simp [bytesOfNat, ih]

theorem natOfBytes_bytesOfNat (m n : Nat) : natOfBytes (bytesOfNat m n) = n % 256 ^ m := by
  induction m with
  | zero => simp [bytesOfNat, natOfBytes, Nat.mod_one]
  | succ m ih =>
    rw [natOfBytes_eq] at ih ⊢
    calc spell 256 BitVec.toNat (bytesOfNat (m + 1) n) = n / 256 ^ m % 256 * 256 ^ m + n % 256 ^ m := by
          rw [bytesOfNat, spell_cons, ih, bytesOfNat_length, BitVec.toNat_ofNat]
      _ = n % (256 ^ m * 256) := by rw [Nat.mod_mul, Nat.add_comm, Nat.mul_comm]
      _ = n % 256 ^ (m + 1) := by rw [Nat.pow_succ]

/-! ### Breakpoints and tables -/

/-- A breakpoint whose level and volume fit their bits (R157). -/
def Breakpoint.Fits (b : Breakpoint) : Prop := b.level < 2048 ∧ b.volume < 32768

theorem bitsOfBreakpoint_lt {b : Breakpoint} (fits : b.Fits) : bitsOfBreakpoint b < 2 ^ 26 := by
  obtain ⟨level, volume⟩ := fits
  simp only [bitsOfBreakpoint]
  omega

theorem breakpointOfBits_bits {b : Breakpoint} (fits : b.Fits) : breakpointOfBits (bitsOfBreakpoint b) = b := by
  obtain ⟨level, volume⟩ := b
  obtain ⟨low, high⟩ := fits
  simp only [breakpointOfBits, bitsOfBreakpoint, Breakpoint.mk.injEq] at low high ⊢
  omega

/-- The number of the zero bits that pad a table of k breakpoints (R157). -/
def padBits (k : Nat) : Nat := 8 * tableBytes k - 26 * k

theorem tableBytes_bits (k : Nat) : 8 * tableBytes k = 26 * k + padBits k := by
  simp only [padBits, tableBytes]
  omega

section Table

variable {table : List Breakpoint} (fits : ∀ b ∈ table, b.Fits)
include fits

/-- The bytes of a table spell its breakpoints, then the pad. -/
theorem natOfBytes_packTable :
    natOfBytes (packTable table) = spell (2 ^ 26) bitsOfBreakpoint table * 2 ^ padBits table.length := by
  have bits := spell_lt fun b hb => bitsOfBreakpoint_lt (fits b hb)
  have room : 256 ^ tableBytes table.length = (2 ^ 26) ^ table.length * 2 ^ padBits table.length := by
    rw [show 256 = 2 ^ 8 from rfl, ← Nat.pow_mul, tableBytes_bits, Nat.pow_add, Nat.pow_mul]
  refine (natOfBytes_bytesOfNat _ _).trans (Nat.mod_eq_of_lt ?_)
  rw [room]
  exact Nat.mul_lt_mul_of_pos_right bits (Nat.two_pow_pos _)

/-- The bits of the breakpoint at a place, as `unpackTable` cuts them out. -/
theorem packTable_bits {i : Nat} (here : i < table.length) :
    natOfBytes (packTable table) / 2 ^ (8 * tableBytes table.length - 26 * (i + 1)) % 2 ^ 26 =
      bitsOfBreakpoint table[i] := by
  have parts : table.take i ++ table[i] :: table.drop (i + 1) = table := by simp
  have behind : 8 * tableBytes table.length - 26 * (i + 1) =
      26 * (table.drop (i + 1)).length + padBits table.length := by
    rw [tableBytes_bits, List.length_drop]
    omega
  have digit := spell_digit (base := 2 ^ 26) (value := bitsOfBreakpoint) (pre := table.take i) (a := table[i])
    (post := table.drop (i + 1)) fun b hb => bitsOfBreakpoint_lt (fits b (parts ▸ hb))
  rw [parts] at digit
  rw [natOfBytes_packTable fits, behind, Nat.pow_add, Nat.mul_div_mul_right _ _ (Nat.two_pow_pos _), Nat.pow_mul, digit]

end Table

theorem packTable_length (table : List Breakpoint) : (packTable table).length = tableBytes table.length :=
  bytesOfNat_length _ _

/-- Settles O6: at every place the unpacking finds the bits of the breakpoint there (`packTable_bits`). -/
theorem tankTableIsReadBack : Obligations.TankTableIsReadBack := by
  refine fun table fits => ⟨packTable_length table, List.ext_getElem (unpackTable_length _ _) fun i _ here => ?_⟩
  simp only [unpackTable, List.getElem_map, List.getElem_range, packTable_length, packTable_bits fits here]
  exact breakpointOfBits_bits (fits _ (List.getElem_mem here))

end Sys2Proof.Machine

/-! # Submissions, deliveries, FETCH and GATE (R159 to R162, R164) -/

namespace Sys2Proof.Machine

/-! ### The largest class, and the report that a displacement removes (R160) -/

@[simp] theorem maxClass_concat (l : List Report) (r : Report) : maxClass (l ++ [r]) = max (maxClass l) r.cls := by
  simp [maxClass]

theorem maxClass_le {l : List Report} {n : Nat} (h : ∀ x ∈ l, x.cls ≤ n) : maxClass l ≤ n := by
  induction l using List.reverseRecOn with
  | nil => exact Nat.zero_le n
  | append_singleton l r ih =>
    rw [maxClass_concat]
    exact max_le (ih fun x hx => h x (by simp [hx])) (h r (by simp))

/-- A class above another is some report's. -/
theorem maxClass_attained {l : List Report} {n : Nat} (h : n < maxClass l) : ∃ x ∈ l, x.cls = maxClass l := by
  by_contra! missed
  have below : maxClass l ≤ maxClass l - 1 := maxClass_le fun x hx => Nat.le_sub_one_of_lt
    (lt_of_le_of_ne (le_maxClass hx) (missed x hx))
  omega

/-- The last report of a class leaves the list, the others keeping their order. -/
theorem dropLastOfClass_eq {pre post : List Report} {x : Report} (behind : ∀ y ∈ post, y.cls ≠ x.cls) :
    dropLastOfClass x.cls (pre ++ x :: post) = pre ++ post := by
  have others : ∀ y ∈ post.reverse, ¬(y.cls == x.cls) = true := by simpa using behind
  simp [dropLastOfClass, List.eraseP_append_right _ others]

theorem dropLastOfClass_length {l : List Report} {x : Report} (h : x ∈ l) :
    (dropLastOfClass x.cls l).length = l.length - 1 := by
  rw [dropLastOfClass, List.length_reverse, List.length_eraseP_of_mem (a := x) (by simpa using h) (by simp),
    List.length_reverse]

theorem sameKey_eq_true_iff {x r : Report} : x.sameKey r = true ↔ x.kind = r.kind ∧ x.subject = r.subject := by
  simp [Report.sameKey]

theorem sameKey_eq_false_iff {x r : Report} : x.sameKey r = false ↔ ¬(x.kind = r.kind ∧ x.subject = r.subject) := by
  rw [← sameKey_eq_true_iff, Bool.not_eq_true]

/-! ### A submission to a queue in order (R159, R160) -/

/-- In a queue in order a report is the only one of its key, so a submission of the key moves that report alone. -/
theorem submit_coalesces {q : ReportQueue} {r x : Report} {pre post : List Report} (order : q.Wf)
    (list : q.list = pre ++ x :: post) (same : x.sameKey r = true) :
    q.submit r = { q with list := pre ++ x.coalesce r :: post } := by
  obtain ⟨-, pairwise, -⟩ := order
  rw [list, List.pairwise_append, List.pairwise_cons] at pairwise
  obtain ⟨-, ⟨behind, -⟩, before⟩ := pairwise
  obtain ⟨kind, subject⟩ := sameKey_eq_true_iff.mp same
  have unmoved {l : List Report} (other : ∀ y ∈ l, y.sameKey r = false) :
      l.map (fun y => if y.sameKey r then y.coalesce r else y) = l :=
    (List.map_congr_left fun y hy => by simp [other y hy]).trans l.map_id
  have preOther : ∀ y ∈ pre, y.sameKey r = false := fun y hy => by
    have := before y hy x (by simp)
    rwa [sameKey_eq_false_iff, kind, subject, ← sameKey_eq_false_iff] at this
  have postOther : ∀ y ∈ post, y.sameKey r = false := fun y hy => by
    have := behind y hy
    rw [sameKey_eq_false_iff, kind, subject] at this
    exact sameKey_eq_false_iff.mpr fun h => this ⟨h.1.symm, h.2.symm⟩
  rw [ReportQueue.submit, if_pos (List.any_eq_true.mpr ⟨x, by simp [list], same⟩), list, List.map_append, List.map_cons,
    unmoved preOther, unmoved postOther, if_pos same]

section NewKey

variable {q : ReportQueue} {r : Report} (fresh : ∀ x ∈ q.list, x.sameKey r = false)
include fresh

theorem submit_joins (room : q.list.length < 24) :
    q.submit r = { q with list := q.list ++ [{ r with count := 1 }] } := by
  rcases submit_cases q r with ⟨⟨x, hx, same⟩, -⟩ | ⟨-, -, e⟩ | ⟨-, full, -⟩ | ⟨-, full, -⟩
  · simp [fresh x hx] at same
  · exact e
  · omega
  · omega

theorem submit_displaces {pre post : List Report} {x : Report} (full : q.list.length = 24)
    (list : q.list = pre ++ x :: post) (above : r.cls < x.cls) (before : ∀ y ∈ pre, y.cls ≤ x.cls)
    (behind : ∀ y ∈ post, y.cls < x.cls) :
    q.submit r = { list := pre ++ post ++ [{ r with count := 1 }], overflowed := true } := by
  have largest : maxClass q.list = x.cls := by
    refine le_antisymm (maxClass_le fun y hy => ?_) (le_maxClass (by simp [list]))
    simp only [list, List.mem_append, List.mem_cons] at hy
    rcases hy with hy | rfl | hy
    · exact before y hy
    · exact le_rfl
    · exact (behind y hy).le
  rcases submit_cases q r with ⟨⟨y, hy, same⟩, -⟩ | ⟨-, room, -⟩ | ⟨-, -, -, e⟩ | ⟨-, -, none, -⟩
  · simp [fresh y hy] at same
  · omega
  · rw [e, largest, list, dropLastOfClass_eq fun y hy => (behind y hy).ne]
  · omega

theorem submit_drops (full : q.list.length = 24) (smaller : ∀ x ∈ q.list, x.cls ≤ r.cls) :
    q.submit r = { q with overflowed := true } := by
  have largest := maxClass_le smaller
  rcases submit_cases q r with ⟨⟨x, hx, same⟩, -⟩ | ⟨-, room, -⟩ | ⟨-, -, above, -⟩ | ⟨-, -, -, e⟩
  · simp [fresh x hx] at same
  · omega
  · omega
  · exact e

end NewKey

/-- Settles O39: the four outcomes of R160, a queued key being the only one of its kind in a queue in order. -/
theorem submissionCoalescesOrDisplaces : Obligations.SubmissionCoalescesOrDisplaces := by
  intro q r order
  refine ⟨fun pre x post list kind subject => ?_, fun new => ?_⟩
  · have bounded : (if x.count < 255 then x.count + 1 else 255) = min (x.count + 1) 255 := by
      split <;> omega
    rw [bounded]
    exact submit_coalesces order list (sameKey_eq_true_iff.mpr ⟨kind, subject⟩)
  · have fresh : ∀ x ∈ q.list, x.sameKey r = false := fun x hx => sameKey_eq_false_iff.mpr (new x hx)
    exact ⟨submit_joins fresh, fun full => ⟨fun _ _ _ => submit_displaces fresh full, submit_drops fresh full⟩⟩

/-! ### The order of deliveries (R161, R164) -/

/-- The reports of a class that can be delivered, oldest first. -/
def deliverableOf (gates : BitVec 6) (l : List Report) (c : Nat) : List Report :=
  l.filter fun r => r.cls == c && gateOpen gates c

/-- The reports in the order in which deliveries take them, by classes and each class oldest first (R161). -/
def deliveryOrder (gates : BitVec 6) (l : List Report) : List Report :=
  [0, 1, 2, 3, 4, 5].flatMap (deliverableOf gates l)

/-- A class that is not open, or that no report has, delivers none. -/
theorem deliverableOf_eq_nil {gates : BitVec 6} {l : List Report} {c : Nat}
    (h : (gateOpen gates c && l.any (·.cls == c)) = false) : deliverableOf gates l c = [] := by
  rcases isOpen : gateOpen gates c
  · simp [deliverableOf, isOpen]
  · simpa [deliverableOf, isOpen] using h

theorem deliverableOf_other {gates : BitVec 6} {pre post : List Report} {r : Report} {c : Nat} (h : c ≠ r.cls) :
    deliverableOf gates (pre ++ r :: post) c = deliverableOf gates (pre ++ post) c := by
  simp [deliverableOf, h.symm]

theorem deliverableOf_oldest {gates : BitVec 6} {pre post : List Report} {r : Report}
    (isOpen : gateOpen gates r.cls = true) (before : ∀ x ∈ pre, x.cls ≠ r.cls) :
    deliverableOf gates (pre ++ r :: post) r.cls = r :: deliverableOf gates (pre ++ post) r.cls := by
  have others : pre.filter (fun x => x.cls == r.cls) = [] := by simpa using before
  simp [deliverableOf, isOpen, others]

/-- With no next report nothing can be delivered. -/
theorem deliveryOrder_of_takeNext_none {q : ReportQueue} {gates : BitVec 6} (h : q.takeNext gates = none) :
    deliveryOrder gates q.list = [] := by
  have noClass : nextClass gates q.list = none := by
    rcases next : nextClass gates q.list with _ | c
    · rfl
    · obtain ⟨⟨isOpen, x, hx, rfl⟩, -⟩ := nextClass_eq_some_iff.mp next
      rcases found : q.list.find? (·.cls == x.cls) with _ | y
      · simpa using List.find?_eq_none.mp found x hx
      · simp [ReportQueue.takeNext, next, found] at h
  refine List.flatMap_eq_nil_iff.mpr fun c hc => deliverableOf_eq_nil ?_
  simpa using List.find?_eq_none.mp noClass c hc

/-- The next report is the oldest of its class, and leaves the others in their order. -/
theorem takeNext_split {q q' : ReportQueue} {gates : BitVec 6} {r : Report} (h : q.takeNext gates = some (r, q')) :
    ∃ pre post, q.list = pre ++ r :: post ∧ q' = { q with list := pre ++ post } ∧ ∀ x ∈ pre, x.cls ≠ r.cls := by
  unfold ReportQueue.takeNext at h
  split at h
  · cases h
  · next c _ =>
    split at h
    · cases h
    · next x found =>
      obtain ⟨cls, pre, post, list, before⟩ := List.find?_eq_some_iff_append.mp found
      have before : ∀ y ∈ pre, ¬(y.cls == c) = true := by simpa using before
      cases h
      obtain rfl : r.cls = c := by simpa using cls
      refine ⟨pre, post, list, ?_, by simpa using before⟩
      rw [list, List.eraseP_append_right _ before]
      simp

/-- The next report is the first of the order, and the queue without it has the rest of the order. -/
theorem deliveryOrder_of_takeNext {q q' : ReportQueue} {gates : BitVec 6} {r : Report}
    (h : q.takeNext gates = some (r, q')) : deliveryOrder gates q.list = r :: deliveryOrder gates q'.list := by
  obtain ⟨-, isOpen, next, -⟩ := takeNext_spec h
  obtain ⟨pre, post, list, rfl, before⟩ := takeNext_split h
  obtain ⟨-, below, above, classes, closed⟩ := List.find?_eq_some_iff_append.mp next
  have nodup : (below ++ r.cls :: above).Nodup := by
    rw [← classes]
    decide
  rw [List.nodup_middle, List.nodup_cons, List.mem_append, not_or] at nodup
  obtain ⟨⟨notBelow, notAbove⟩, -⟩ := nodup
  have same {cs : List Nat} (absent : r.cls ∉ cs) :
      cs.flatMap (deliverableOf gates q.list) = cs.flatMap (deliverableOf gates (pre ++ post)) :=
    List.flatMap_congr fun c hc => list ▸ deliverableOf_other fun e => absent (e ▸ hc)
  have nothing : below.flatMap (deliverableOf gates q.list) = [] :=
    List.flatMap_eq_nil_iff.mpr fun c hc => deliverableOf_eq_nil (Bool.not_eq_true' _ ▸ closed c hc)
  have oldest := deliverableOf_oldest (post := post) isOpen before
  rw [← list] at oldest
  simp only [deliveryOrder, classes, List.flatMap_append, List.flatMap_cons, ← same notBelow, ← same notAbove, nothing,
    oldest, List.nil_append, List.cons_append]

/-- Up to k deliveries take the first k reports of the order, and leave the others of the queue as they stood. -/
theorem takeUpTo_spec (gates : BitVec 6) (k : Nat) (q : ReportQueue) :
    (q.takeUpTo gates k).1 = (deliveryOrder gates q.list).take k ∧
    (q.takeUpTo gates k).2.overflowed = q.overflowed ∧
    q.list.Perm ((q.takeUpTo gates k).1 ++ (q.takeUpTo gates k).2.list) ∧
    (q.takeUpTo gates k).2.list.Sublist q.list := by
  induction k generalizing q with
  | zero => exact ⟨rfl, rfl, .refl _, .refl _⟩
  | succ k ih =>
    rcases next : q.takeNext gates with _ | ⟨r, q'⟩
    · simp [ReportQueue.takeUpTo, next, deliveryOrder_of_takeNext_none next]
    · obtain ⟨taken, overflowed, perm, sublist⟩ := ih q'
      have order := deliveryOrder_of_takeNext next
      obtain ⟨pre, post, list, rfl, -⟩ := takeNext_split next
      simp only [ReportQueue.takeUpTo, next, order, List.take_succ_cons, List.cons_append]
      refine ⟨congrArg _ taken, overflowed, ?_, sublist.trans ?_⟩
      · rw [list]
        exact List.perm_middle.trans (perm.cons r)
      · rw [list]
        exact (List.sublist_cons_self r post).append_left pre

/-! ### FETCH (R164) -/

/-- Settles O37: three deliveries take the head of the delivery order (`takeUpTo_spec`). -/
theorem fetchTakesTheNextReports : Obligations.FetchTakesTheNextReports := by
  intro tag s listening
  obtain ⟨taken, overflowed, perm, sublist⟩ := takeUpTo_spec s.config.gates 3 s.reports
  refine ⟨(s.reports.takeUpTo s.config.gates 3).1, { s with reports := (s.reports.takeUpTo s.config.gates 3).2 },
    exec_request (answer := answerFetch []) rfl listening (by simp) rfl, ?_, taken, perm, sublist⟩
  dsimp only
  rw [← overflowed]

/-! ### GATE (R162) -/

/-- The gates that a set of bits sets: class 0 open, the others as their bits say. -/
theorem gates_getLsbD (b : Byte) {k : Nat} (h : k < 6) :
    (b.setWidth 6 ||| 1#6).getLsbD k = if k = 0 then true else b.getLsbD k := by
  by_cases zero : k = 0 <;> simp [h, zero]

theorem u8_gates (gates : BitVec 6) : u8 gates.toNat = [gates.setWidth 8] := by
  simp [u8, BitVec.ofNat_toNat]

theorem answerGate_written {b : Byte} {s : State} (known : ¬63 < b.toNat) (free : ¬s.storeBusy = true) :
    answerGate [b] s = ({ s with config := { s.config with gates := b.setWidth 6 ||| 1#6 } },
      .done (!b.getLsbD 0) false [(b.setWidth 6 ||| 1#6).setWidth 8]) := by
  rw [← u8_gates]
  exact (if_neg known).trans (if_neg free)

/-- Settles O38: GATE by its two checks in order, then by the bits it writes (`gates_getLsbD`). -/
theorem gateSetsTheClasses : Obligations.GateSetsTheClasses := by
  intro tag b s listening
  have refused {a : Answer} (answered : answerGate [b] s.framed = (s.framed, a)) :
      exec (.gate tag [b]) s = .next (s.answered 0x03 tag a) := exec_frame_reads (kind := 0x03) rfl listening answered
  split
  · next unknown => exact refused (if_pos unknown)
  · next known =>
    split
    · next busy => exact refused ((if_neg known).trans (if_pos busy))
    · next free =>
      refine ⟨{ s with config := { s.config with gates := b.setWidth 6 ||| 1#6 } }, ?_, rfl,
        fun k h => gates_getLsbD b h⟩
      exact exec_request (answer := answerGate [b]) rfl listening (by simp) (answerGate_written known free)

end Sys2Proof.Machine

/-! # The report queue in order, and what submissions make of it (R159, R160) -/

namespace Sys2Proof.Machine

namespace ReportQueue.Wf

variable {q : ReportQueue}

/-- Some of the reports, in their order, are in order too. -/
theorem part {q' : ReportQueue} (h : q.Wf) (part : q'.list.Sublist q.list) : q'.Wf := by
  obtain ⟨room, pairwise, counts⟩ := h
  exact ⟨part.length_le.trans room, pairwise.sublist part, fun r hr => counts r (part.subset hr)⟩

/-- A report whose key is new joins the end with count 1. -/
theorem join {l : List Report} {overflowed : Bool} {r : Report} (h : ReportQueue.Wf ⟨l, overflowed⟩)
    (fresh : ∀ x ∈ l, x.sameKey r = false) (room : l.length < 24) (flag : Bool) :
    ReportQueue.Wf ⟨l ++ [{ r with count := 1 }], flag⟩ := by
  obtain ⟨-, pairwise, counts⟩ := h
  refine ⟨by simpa using room, ?_, fun x hx => ?_⟩
  · refine List.pairwise_append.mpr ⟨pairwise, List.pairwise_singleton _ _, fun x hx y hy => ?_⟩
    obtain rfl := List.mem_singleton.mp hy
    exact fresh x hx
  · rcases List.mem_append.mp hx with hx | hx
    · exact counts x hx
    · obtain rfl := List.mem_singleton.mp hx
      exact ⟨le_rfl, Nat.le_of_ble_eq_true rfl⟩

/-- The count of a coalesced report goes on by one, to 255; its key stays. -/
theorem coalesce (h : q.Wf) (r : Report) :
    ReportQueue.Wf { q with list := q.list.map fun x => if x.sameKey r then x.coalesce r else x } := by
  obtain ⟨room, pairwise, counts⟩ := h
  have key (x y : Report) : ((if x.sameKey r then x.coalesce r else x).sameKey
      (if y.sameKey r then y.coalesce r else y)) = x.sameKey y := by
    split <;> split <;> rfl
  refine ⟨by simpa using room, List.pairwise_map.mpr (pairwise.imp fun h => by rwa [key]), fun x hx => ?_⟩
  obtain ⟨y, hy, rfl⟩ := List.mem_map.mp hx
  obtain ⟨positive, bounded⟩ := counts y hy
  split
  · exact ⟨le_min (by omega) (by decide), min_le_right _ _⟩
  · exact ⟨positive, bounded⟩

theorem submit (h : q.Wf) (r : Report) : (q.submit r).Wf := by
  rcases submit_cases q r with ⟨-, e⟩ | ⟨fresh, room, e⟩ | ⟨fresh, full, above, e⟩ | ⟨-, -, -, e⟩ <;> rw [e]
  · exact h.coalesce r
  · exact h.join fresh room _
  · obtain ⟨x, hx, largest⟩ := maxClass_attained above
    have left := dropLastOfClass_sublist x.cls q.list
    have shorter : (dropLastOfClass x.cls q.list).length < 24 := by
      have length := dropLastOfClass_length hx
      have room := h.1
      omega
    rw [← largest]
    exact (h.part (q' := ⟨_, q.overflowed⟩) left).join (fun y hy => fresh y (left.subset hy)) shorter _
  · exact h

theorem takeNext {q' : ReportQueue} {gates : BitVec 6} {r : Report} (h : q.Wf)
    (next : q.takeNext gates = some (r, q')) : q'.Wf := by
  obtain ⟨-, -, -, left, -⟩ := takeNext_spec next
  exact h.part (left ▸ List.eraseP_sublist)

theorem takeUpTo (h : q.Wf) (gates : BitVec 6) (k : Nat) : (q.takeUpTo gates k).2.Wf := by
  obtain ⟨-, -, -, left⟩ := takeUpTo_spec gates k q
  exact h.part left

end ReportQueue.Wf

/-- A queue that submissions alone have made of another (R160). -/
def ReportQueue.Grows (q q' : ReportQueue) : Prop := ∃ rs : List Report, q' = rs.foldl ReportQueue.submit q

namespace ReportQueue.Grows

variable {q q' : ReportQueue}

theorem refl (q : ReportQueue) : q.Grows q := ⟨[], rfl⟩

theorem submit (h : q.Grows q') (r : Report) : q.Grows (q'.submit r) := by
  obtain ⟨rs, rfl⟩ := h
  exact ⟨rs ++ [r], by simp⟩

theorem wf (h : q.Grows q') (order : q.Wf) : q'.Wf := by
  obtain ⟨rs, rfl⟩ := h
  exact foldl_keeps ReportQueue.Wf ReportQueue.submit rs q order fun _ r hq => hq.submit r

end ReportQueue.Grows

/-- The other state's report queue is what submissions have made of this one's. -/
def State.Submits (s t : State) : Prop := s.reports.Grows t.reports

namespace State.Submits

variable {s t : State}

theorem refl (s : State) : s.Submits s := ReportQueue.Grows.refl s.reports

theorem same {u : State} (h : s.Submits t) (reports : u.reports = t.reports) : s.Submits u := by
  rwa [State.Submits, reports]

/-- An operation that leaves the queue alone. -/
theorem through {f : State → State} (h : s.Submits t)
    (reports : ∀ u, (f u).reports = u.reports := by simp) : s.Submits (f t) :=
  h.same (reports t)

theorem submit {r : Report} (h : s.Submits t) : s.Submits (t.submit r) := ReportQueue.Grows.submit h r

theorem submitAll {rs : List Report} (h : s.Submits t) : s.Submits (t.submitAll rs) :=
  foldl_keeps s.Submits State.submit rs t h fun _ _ hu => submit hu

/-! ### The governor's causes (R97, R99, R103, R106, R107, R112) -/

theorem raiseCause {c : Cause} {values : List Byte} (h : s.Submits t) : s.Submits (t.raiseCause c values) := by
  unfold State.raiseCause
  dsimp only
  repeat' split
  · exact h
  · exact h
  · exact submit h
  · exact through (f := (·.settleRaised c)) (through (f := State.hornArises) (submit h))
  · exact through (f := (·.settleRaised c)) (through (f := State.hornArises) (submit h))

theorem causeAbsent {c : Cause} {values : List Byte} (h : s.Submits t) : s.Submits (t.causeAbsent c values) := by
  unfold State.causeAbsent
  dsimp only
  split
  · exact submit h
  · exact h

theorem causeLeaves {c : Cause} (h : s.Submits t) : s.Submits (t.causeLeaves c) := by
  unfold State.causeLeaves
  split
  · exact submit h
  · exact h

theorem allCausesLeave (h : s.Submits t) : s.Submits t.allCausesLeave :=
  foldl_keeps s.Submits State.causeLeaves Cause.all t h fun _ _ hu => hu.causeLeaves

theorem judgePressureSensor (h : s.Submits t) : s.Submits t.judgePressureSensor := by
  unfold State.judgePressureSensor
  repeat' split
  · exact h.causeAbsent
  · exact h.raiseCause
  · exact h

theorem raise {c : Cause} {values : List Byte} (h : s.Submits t) : s.Submits (t.raise c values) := by
  unfold State.raise
  dsimp only
  split
  · exact h.raiseCause
  · exact h.raiseCause.judgePressureSensor

theorem judgeOverheat (h : s.Submits t) : s.Submits t.judgeOverheat := by
  unfold State.judgeOverheat
  dsimp only
  repeat' split
  · exact h
  · exact h.raise
  · exact h.causeAbsent
  · exact h

theorem judgeTankEmpty (h : s.Submits t) : s.Submits t.judgeTankEmpty := by
  unfold State.judgeTankEmpty
  dsimp only
  split
  · exact h.raise
  · exact h.causeAbsent

theorem judgeRelief (h : s.Submits t) : s.Submits t.judgeRelief := by
  unfold State.judgeRelief
  dsimp only
  repeat' split
  · exact h
  · exact submit h
  · exact h
  · exact submit h
  · exact h

/-! ### The governor and the engagement (R78 to R80, R105, R109, R111) -/

theorem governorOff (h : s.Submits t) : s.Submits t.governorOff := judgePressureSensor (h.same (by simp))

theorem governorHold (h : s.Submits t) : s.Submits t.governorHold := judgePressureSensor (h.same (by simp))

theorem governorEngage (h : s.Submits t) : s.Submits t.governorEngage := by
  have judged (left : Bool) {u : State} (hu : s.Submits u) : s.Submits
      (if left then u.judgeOverheat.judgeTankEmpty.judgePressureSensor else u.judgePressureSensor) := by
    split
    · exact hu.judgeOverheat.judgeTankEmpty.judgePressureSensor
    · exact hu.judgePressureSensor
  exact judged _ (h.same (by simp))

theorem discardProtection (h : s.Submits t) : s.Submits t.discardProtection :=
  h.allCausesLeave.same (by simp [State.discardProtection])

theorem returnToOperator (h : s.Submits t) : s.Submits t.returnToOperator :=
  judgePressureSensor (h.allCausesLeave.same (by simp))

/-! ### The update (R84, R94, R100 to R105) -/

theorem judgeCavitation (h : s.Submits t) : s.Submits t.judgeCavitation := by
  unfold State.judgeCavitation
  dsimp only
  repeat' split
  · exact h.raise
  · exact h.causeAbsent
  · exact h

theorem judgePrimeLost (h : s.Submits t) : s.Submits t.judgePrimeLost := by
  unfold State.judgePrimeLost
  dsimp only
  repeat' split
  · exact h.raise
  · exact h.causeAbsent
  · exact h

theorem judgeOverLimit {mode : GovMode} (h : s.Submits t) : s.Submits (t.judgeOverLimit mode) := by
  unfold State.judgeOverLimit
  dsimp only
  split
  · exact raise h
  · exact h

theorem overpressureReturns (h : s.Submits t) : s.Submits t.overpressureReturns := by
  unfold State.overpressureReturns
  split
  · exact h.returnToOperator
  · exact (h.causeLeaves (c := .overpressure)).same (by simp)

theorem judgeReturn (h : s.Submits t) : s.Submits t.judgeReturn := by
  unfold State.judgeReturn
  dsimp only
  repeat' split
  · exact h
  · exact overpressureReturns h
  · exact causeAbsent h
  · exact h

theorem protectionTests {mode : GovMode} (h : s.Submits t) : s.Submits (t.protectionTests mode) :=
  judgeReturn (judgeOverLimit (judgePrimeLost (through (f := State.primeRuns)
    (judgeCavitation (h.same (by simp))))))

theorem governorUpdate (h : s.Submits t) : s.Submits t.governorUpdate := by
  unfold State.governorUpdate
  split
  · exact h
  · exact protectionTests (h.same (by simp))

theorem primeExpiry (h : s.Submits t) : s.Submits t.primeExpiry := by
  unfold State.primeExpiry
  split
  · exact h
  · exact submit h

end State.Submits

end Sys2Proof.Machine

/-! # The reports of the matrix, the sequencer, the tanks and the source (R21, R28, R34, R44, R124, R137, R142, R145) -/

namespace Sys2Proof.Machine

namespace State.Submits

variable {s t : State}

/-! ### The matrix (R21, R28, R34) -/

theorem abandonFill {st : ReportState} (h : s.Submits t) : s.Submits (t.abandonFill st) := by
  unfold State.abandonFill
  split
  · exact h
  · exact submit h

theorem recomputePermit {p : Permit} (h : s.Submits t) : s.Submits (t.recomputePermit p) := by
  unfold State.recomputePermit
  dsimp only
  split
  · exact h
  · exact submit h

theorem recomputePermits (h : s.Submits t) : s.Submits t.recomputePermits := by
  have permits : s.Submits (Permit.all.foldl State.recomputePermit t) :=
    foldl_keeps s.Submits State.recomputePermit Permit.all t h fun _ _ hu => hu.recomputePermit
  unfold State.recomputePermits
  dsimp only
  split
  · exact through (f := State.recomputeCap) permits.abandonFill
  · exact through (f := State.recomputeCap) permits

theorem moveLock {i : EntryIx} {e : LockoutEntry} {new : LockState} (h : s.Submits t) :
    s.Submits (t.moveLock i e new) := by
  unfold State.moveLock
  dsimp only
  split
  · exact h
  · exact submitAll h

theorem judgeLock {i : EntryIx} (h : s.Submits t) : s.Submits (t.judgeLock i) := by
  unfold State.judgeLock
  split
  · exact h
  · exact h.moveLock

theorem judgeLocks {sel : LockCond → Bool} (h : s.Submits t) : s.Submits (t.judgeLocks sel) := by
  refine foldl_keeps s.Submits _ EntryIx.all t h fun u i hu => ?_
  split
  · exact hu
  · split
    · exact hu.judgeLock
    · exact hu

theorem matrixRecompute (h : s.Submits t) : s.Submits t.matrixRecompute :=
  through (f := State.judgeHorn) h.recomputePermits

theorem matrixJudge {sel : LockCond → Bool} (h : s.Submits t) : s.Submits (t.matrixJudge sel) :=
  matrixRecompute h.judgeLocks

theorem clearOverspeed (h : s.Submits t) : s.Submits t.clearOverspeed := by
  unfold State.clearOverspeed
  split
  · exact submit h
  · exact h

theorem setMode {m : AppMode} (h : s.Submits t) : s.Submits (t.setMode m) := by
  unfold State.setMode
  dsimp only
  split
  · exact clearOverspeed h
  · exact h

theorem enterMode {m : AppMode} (h : s.Submits t) : s.Submits (t.enterMode m) := by
  unfold State.enterMode
  split
  · exact h.matrixRecompute
  · exact matrixJudge (through (f := State.handMode) h.setMode)

theorem matrixTake (h : s.Submits t) : s.Submits t.matrixTake := h.enterMode

theorem judgeOverspeed (h : s.Submits t) : s.Submits t.judgeOverspeed := by
  unfold State.judgeOverspeed
  dsimp only
  split
  · exact h.clearOverspeed
  · exact h

/-! ### The sequencer: a STEP report for every state it enters, a FAULT report for every fault (R44) -/

theorem reportFault {f : SeqFault} {more : List Byte} (h : s.Submits t) : s.Submits (t.reportFault f more) := submit h

theorem setSeq {q : Sequencer} (h : s.Submits t) : s.Submits (t.setSeq q) := submit h

/-- A new sequencer record that the matrix takes. -/
theorem taken {q : Sequencer} (h : s.Submits t) : s.Submits (t.setSeq q).matrixTake := h.setSeq.matrixTake

/-- The end of an engagement, whatever record the sequencer enters (R64). -/
theorem ended {q : Sequencer} (h : s.Submits t) :
    s.Submits ((t.setSeq q).discardProtection.endSupply).matrixTake :=
  matrixTake (through (f := State.endSupply) h.setSeq.discardProtection)

theorem enterIdle (h : s.Submits t) : s.Submits t.enterIdle := h.ended

theorem enterHeldTimeout (h : s.Submits t) : s.Submits t.enterHeldTimeout := ended h.reportFault

theorem judgeRoadShift (h : s.Submits t) : s.Submits t.judgeRoadShift := by
  unfold State.judgeRoadShift
  repeat' split
  · exact h
  · exact matrixRecompute h
  · exact matrixRecompute h
  · exact h
  · exact h

theorem enterReleasing (h : s.Submits t) : s.Submits t.enterReleasing := by
  have clutch {u : State} (hu : s.Submits u) : s.Submits (if u.lineClear .d4 then u.enterIdle else u) := by
    split
    · exact hu.enterIdle
    · exact hu
  have split {u : State} (hu : s.Submits u) :
      s.Submits (if u.lineClear .d3 then u.enterIdle else u.judgeRoadShift) := by
    split
    · exact hu.enterIdle
    · exact hu.judgeRoadShift
  unfold State.enterReleasing
  split
  · exact clutch h.taken
  · exact split h.taken
  · exact split h.taken

theorem judgeIdlingDown (h : s.Submits t) : s.Submits t.judgeIdlingDown := by
  unfold State.judgeIdlingDown
  split
  · exact h.enterReleasing
  · exact h

theorem enterIdlingDown {r : SeqReason} (h : s.Submits t) : s.Submits (t.enterIdlingDown r) :=
  h.setSeq.governorOff.matrixTake.judgeIdlingDown

theorem faultToIdlingDown {f : SeqFault} {r : SeqReason} (h : s.Submits t) : s.Submits (t.faultToIdlingDown f r) :=
  h.reportFault.enterIdlingDown

theorem enterAwaitConfirm (h : s.Submits t) : s.Submits t.enterAwaitConfirm := h.taken

theorem enterAwaitRange (h : s.Submits t) : s.Submits t.enterAwaitRange := by
  have passed {u : State} (hu : s.Submits u) : s.Submits (if u.lineSet .d2 then u.enterAwaitConfirm else u) := by
    split
    · exact hu.enterAwaitConfirm
    · exact hu
  exact passed h.taken

theorem clearFeedbackLost (h : s.Submits t) : s.Submits t.clearFeedbackLost := by
  unfold State.clearFeedbackLost
  split
  · exact submit h
  · exact h

theorem enterEngaged (h : s.Submits t) : s.Submits t.enterEngaged :=
  h.clearFeedbackLost.setSeq.governorEngage.matrixTake

theorem enterHeldFeedback (h : s.Submits t) : s.Submits t.enterHeldFeedback :=
  h.setSeq.submit.governorHold.matrixTake

theorem seqLineChange {l : Line} (h : s.Submits t) : s.Submits (t.seqLineChange l) := by
  rcases t.seqLineChange_cases l with e | ⟨-, e⟩ | ⟨-, e⟩ | ⟨-, e⟩ | ⟨-, e⟩ | ⟨-, e | e⟩ <;> rw [e]
  · exact h
  · exact h.enterAwaitRange
  · exact h.enterAwaitConfirm
  · exact h.faultToIdlingDown
  · exact h.enterHeldFeedback
  · exact h.enterIdle
  · exact h.judgeRoadShift

theorem seqEngineGate (h : s.Submits t) : s.Submits t.seqEngineGate := by
  unfold State.seqEngineGate
  split
  · exact h.judgeIdlingDown
  · exact h.judgeRoadShift
  all_goals exact h

theorem seqRoadGate {made : Bool} (h : s.Submits t) : s.Submits (t.seqRoadGate made) := by
  have fault : s.Submits (if made then t.faultToIdlingDown .motion .motion else t) := by
    split
    · exact h.faultToIdlingDown
    · exact h
  unfold State.seqRoadGate
  split
  · exact fault
  · exact fault
  · exact h.judgeRoadShift
  all_goals exact h

theorem windowExpiry {st : SeqState} {w : StepWindow} {f : SeqFault} (h : s.Submits t) :
    s.Submits (t.windowExpiry st w f) := by
  unfold State.windowExpiry
  split
  · exact h.faultToIdlingDown
  · exact h

theorem idleDownExpiry (h : s.Submits t) : s.Submits t.idleDownExpiry := by
  unfold State.idleDownExpiry
  split
  · exact through (f := State.stopStepTimer) h.reportFault
  · exact h

theorem neutralExpiry (h : s.Submits t) : s.Submits t.neutralExpiry := by
  unfold State.neutralExpiry
  split
  · exact through (f := State.stopStepTimer) h.reportFault
  · exact h

theorem releaseExpiry (h : s.Submits t) : s.Submits t.releaseExpiry := by
  unfold State.releaseExpiry
  split
  · exact h.enterHeldTimeout
  · exact h

/-! ### The tanks (R124, R137, R145) -/

theorem evalBand {i : TankIx} (h : s.Submits t) : s.Submits (t.evalBand i) := by
  unfold State.evalBand
  dsimp only
  repeat' split
  · exact h
  · exact h
  · exact h
  · exact submit (h.same (by simp))

theorem handTank {i : TankIx} {before : TankRun} (h : s.Submits t) : s.Submits (t.handTank i before) := by
  have abandoned (p : Prop) [Decidable p] : s.Submits (if p then t.abandonFill .abandoned else t) := by
    split
    · exact h.abandonFill
    · exact h
  have judged (p : Prop) [Decidable p] {u : State} (hu : s.Submits u) :
      s.Submits (if p then u else u.matrixJudge (onTank i)) := by
    split
    · exact hu
    · exact hu.matrixJudge
  have emptied (p : Prop) [Decidable p] {u : State} (hu : s.Submits u) :
      s.Submits (if p then u.judgeTankEmpty else u) := by
    split
    · exact hu.judgeTankEmpty
    · exact hu
  exact emptied _ (judged _ (abandoned _))

theorem enterTravel {i : TankIx} (h : s.Submits t) : s.Submits (t.enterTravel i) := by
  unfold State.enterTravel
  dsimp only
  split
  · exact handTank (h.same (by simp))
  · exact h.same (by simp)
  · exact h.same (by simp)
  all_goals exact h

theorem tanksAtRoadGate {was : Bool} (h : s.Submits t) : s.Submits (t.tanksAtRoadGate was) := by
  unfold State.tanksAtRoadGate
  repeat' split
  · exact h
  · exact foldl_keeps s.Submits State.enterTravel _ t h fun _ _ hu => hu.enterTravel
  · exact foldl_keeps s.Submits State.enterSettling _ t h fun _ _ hu => hu.same (by simp)
  · exact h

theorem reconcile {i : TankIx} {vs : Nat} (h : s.Submits t) : s.Submits (t.reconcile i vs) :=
  evalBand (through (f := (·.setTank i _)) h.submitAll)

theorem settleVolume {i : TankIx} (h : s.Submits t) : s.Submits (t.settleVolume i) := by
  unfold State.settleVolume
  dsimp only
  split
  case h_1 => exact h
  case h_4 => exact h.reconcile
  all_goals exact evalBand (h.same (by simp))

theorem judgeFillDone (h : s.Submits t) : s.Submits t.judgeFillDone := by
  unfold State.judgeFillDone
  dsimp only
  repeat' split
  · exact h
  · exact submit h
  · exact h

theorem tankUpdate {i : TankIx} (h : s.Submits t) : s.Submits (t.tankUpdate i) := by
  have risen {u : State} (hu : s.Submits u) : s.Submits (if i = .t0 then u.judgeRise else u) := by
    split
    · exact hu.same (by simp)
    · exact hu
  have filled {u : State} (hu : s.Submits u) : s.Submits (if i = .t0 then u.judgeFillDone else u) := by
    split
    · exact hu.judgeFillDone
    · exact hu
  unfold State.tankUpdate
  dsimp only
  split
  · exact h
  · exact filled (handTank (risen (settleVolume (h.same (by simp)))))

theorem settleExpiry {i : TankIx} (h : s.Submits t) : s.Submits (t.settleExpiry i) := by
  unfold State.settleExpiry
  dsimp only
  repeat' split
  · exact h.reconcile.handTank
  · exact h.same (by simp)
  · exact h

theorem restartTank {i : TankIx} (h : s.Submits t) : s.Submits (t.restartTank i) := by
  unfold State.restartTank
  dsimp only
  split
  · exact handTank (h.same (by simp))
  · exact handTank (submit (h.same (by simp)))

/-! ### The source (R142) -/

theorem handSource (h : s.Submits t) : s.Submits t.handSource := by
  have abandoned (p : Prop) [Decidable p] : s.Submits (if p then t.abandonFill .abandoned else t) := by
    split
    · exact h.abandonFill
    · exact h
  have stopped (p : Prop) [Decidable p] {u : State} (hu : s.Submits u) : s.Submits (if p then u.stopPrimer else u) := by
    split
    · exact hu.same (by simp)
    · exact hu
  exact through (f := State.judgeHorn) (judgeTankEmpty (stopped _ (abandoned _)))

theorem changeSource {w : WaterSource} (h : s.Submits t) : s.Submits (t.changeSource w) := by
  unfold State.changeSource
  split
  · exact h
  · exact handSource (h.same (by simp))

theorem completeChangeover {c : Changeover} (h : s.Submits t) : s.Submits (t.completeChangeover c) :=
  handSource (submit (h.same (by simp)))

theorem judgeChangeover (h : s.Submits t) : s.Submits t.judgeChangeover := by
  have judged (p : Prop) [Decidable p] (c d : Changeover) :
      s.Submits (if p then t.completeChangeover c
        else { t with supply := { t.supply with changeover := some d } }) := by
    split
    · exact h.completeChangeover
    · exact h
  unfold State.judgeChangeover
  split
  · exact h
  · exact judged _ _ _

theorem changeoverExpiry (h : s.Submits t) : s.Submits t.changeoverExpiry := by
  unfold State.changeoverExpiry
  split
  · exact h
  · exact submit (h.same (by simp))

theorem riseExpiry (h : s.Submits t) : s.Submits t.riseExpiry := by
  rcases t.riseExpiry_cases with e | e <;> rw [e]
  · exact h
  · exact h.abandonFill

end State.Submits

end Sys2Proof.Machine

/-! # The reports of every event and every request (R6, R13, R16, R166, R170) -/

namespace Sys2Proof.Machine

namespace State.Submits

variable {s t : State}

/-! ### The input stage (R6, R13, R16) -/

theorem judgeComplete (h : s.Submits t) : s.Submits t.judgeComplete := by
  rcases judgeComplete_cases t with ⟨-, e⟩ | ⟨-, -, e⟩ <;> rw [e]
  · exact h
  · have completed : s.Submits t.completed := submitAll h
    have decided : s.Submits t.completed.startDecision := by
      unfold State.startDecision
      split
      · exact setSeq completed
      · exact completed
    exact enterMode (through (f := State.judgeRoll) decided)

theorem engineGateEnd (h : s.Submits t) : s.Submits t.engineGateEnd :=
  judgeComplete (matrixJudge (seqEngineGate h))

theorem roadGateEnd (h : s.Submits t) : s.Submits t.roadGateEnd := by
  have limits : s.Submits t.roadGated.judgeRoll.judgeOverspeed := judgeOverspeed (through (f := State.judgeRoll) h)
  rw [roadGateEnd_eq]
  exact limits.seqRoadGate.matrixJudge.tanksAtRoadGate.judgeComplete

theorem flowGateEnd {m : Meter} (h : s.Submits t) : s.Submits (t.flowGateEnd m) := judgeComplete h

theorem lineSample {raw : BitVec 12} (h : s.Submits t) : s.Submits (t.lineSample raw) := by
  have changed {u : State} {ls : List Line} (hu : s.Submits u) : s.Submits (u.linesChanged ls) := by
    unfold State.linesChanged
    split
    · exact hu
    · exact matrixJudge (foldl_keeps s.Submits State.seqLineChange ls u hu fun _ _ hv => hv.seqLineChange)
  exact judgeComplete (changed (submitAll h))

theorem judgePrimer (h : s.Submits t) : s.Submits t.judgePrimer := by
  have judged (p : Prop) [Decidable p] {values : List Byte} (r : PrimerRun) :
      s.Submits (if p then t.stopPrimer.causeAbsent .primeLost values
        else { t with gov := { t.gov with primer := some r } }) := by
    split
    · exact causeAbsent (h.same (by simp))
    · exact h
  unfold State.judgePrimer
  split
  · exact h
  · exact judged _ _

theorem pressureSample {c0 c1 : Code} (h : s.Submits t) : s.Submits (t.pressureSample c0 c1) := by
  have sensed (p : Prop) [Decidable p] {u : State} (hu : s.Submits u) :
      s.Submits (if p then u else u.judgePressureSensor) := by
    split
    · exact hu
    · exact hu.judgePressureSensor
  exact judgeChangeover (judgePrimer (sensed _ (submitAll h)))

theorem temperatureSample {c : Code} (h : s.Submits t) : s.Submits (t.temperatureSample c) := by
  unfold State.temperatureSample
  dsimp only
  split
  · exact submitAll h
  · exact matrixJudge (judgeOverheat (judgeRelief (submitAll h)))

theorem levelSample {ch : LevelIx} {c : Code} (h : s.Submits t) : s.Submits (t.levelSample ch c) := submitAll h

theorem rollOverspeedExpiry (h : s.Submits t) : s.Submits t.rollOverspeedExpiry := by
  unfold State.rollOverspeedExpiry
  split
  · exact h
  · exact through (f := State.hornArises) (submit h)

theorem lockDelayExpiry {i : EntryIx} (h : s.Submits t) : s.Submits (t.lockDelayExpiry i) := by
  unfold State.lockDelayExpiry
  repeat' split
  · exact h
  · exact h.moveLock.matrixRecompute
  · exact h

/-! ### The store (R166, R170) -/

theorem writeBackDone {found : Option StoreWord} (h : s.Submits t) : s.Submits (t.writeBackDone found) := by
  unfold State.writeBackDone
  dsimp only
  repeat' split
  · exact h
  · exact h
  · exact submit h

theorem commitCompletes {c : Commit} (h : s.Submits t) : s.Submits (t.commitCompletes c) := submit h

theorem commitWordDone {found : Option StoreWord} (h : s.Submits t) : s.Submits (t.commitWordDone found) := by
  have written (ok : Bool) {r : Report} {u : State} (hu : s.Submits u) : s.Submits (if ok then u else u.submit r) := by
    split
    · exact hu
    · exact hu.submit
  have last (p : Prop) [Decidable p] {c : Commit} {u : State} (hu : s.Submits u) :
      s.Submits (if p then u.commitCompletes c else u) := by
    split
    · exact hu.commitCompletes
    · exact hu
  unfold State.commitWordDone
  split
  · exact h
  · exact last _ (written _ h)

/-! ### Every event -/

theorem event {c : Instr} {f : State → State} (e : eventOf c = some f) (h : s.Submits t) : s.Submits (f t) := by
  cases c <;> cases e
  case writeBackWordDone => exact h.writeBackDone
  case commitWordDone => exact h.commitWordDone
  case pressureSample => exact h.pressureSample
  case temperatureSample => exact h.temperatureSample
  case levelSample => exact h.levelSample
  case engineSpeedGateEnd => exact h.engineGateEnd
  case roadSpeedGateEnd => exact h.roadGateEnd
  case flowGateEnd => exact h.flowGateEnd
  case lineSample => exact h.lineSample
  case pulseArrival => exact h.same (by simp)
  case rollOverspeedExpiry => exact h.rollOverspeedExpiry
  case lockoutDelayExpiry => exact h.lockDelayExpiry
  case shiftWindowExpiry | rangeWindowExpiry | clutchWindowExpiry | confirmWindowExpiry => exact h.windowExpiry
  case idleDownWindowExpiry => exact h.idleDownExpiry
  case neutralWaitExpiry => exact h.neutralExpiry
  case releaseWindowExpiry => exact h.releaseExpiry
  case governorUpdate => exact h.governorUpdate
  case primeTimeExpiry => exact h.primeExpiry
  case tankUpdate => exact h.tankUpdate
  case settleTimerExpiry => exact h.settleExpiry
  case changeoverWindowExpiry => exact h.changeoverExpiry
  case riseTimerExpiry => exact h.riseExpiry

/-! ### The requests of the matrix and the sequencer -/

theorem answerLockoutSet (p : List Byte) : s.Submits (answerLockoutSet p s).1 := by
  have written {i : EntryIx} {new : Option LockoutEntry} : s.Submits (s.writeEntry i new) := by
    unfold State.writeEntry
    dsimp only
    split
    · exact matrixRecompute (judgeLock (refl s))
    · exact matrixRecompute (judgeLock (moveLock (refl s)))
  have set (i : EntryIx) (e : Option LockoutEntry) : s.Submits (s.lockoutSet i e).1 := by
    unfold State.lockoutSet
    repeat' split
    · exact refl s
    · exact refl s
    · exact written
  unfold Machine.answerLockoutSet
  repeat' split
  · exact refl s
  · exact refl s
  · exact set _ _
  · exact set _ _
  · exact refl s

theorem clearLatch {i : EntryIx} (h : s.Submits t) : s.Submits (t.clearLatch i) := by
  unfold State.clearLatch
  repeat' split
  · exact h
  · exact h.moveLock
  · exact h

theorem answerLatchClear (p : List Byte) : s.Submits (answerLatchClear p s).1 := by
  have one (i : EntryIx) : s.Submits (s.latchClearOne i).1 := by
    unfold State.latchClearOne
    split
    case h_2 => exact (refl s).clearLatch.judgeLock.matrixRecompute
    all_goals exact refl s
  have cleared := foldl_keeps s.Submits State.clearLatch s.latchedEntries s (refl s) fun _ _ hu => hu.clearLatch
  have all : s.Submits s.latchClearAll.1 :=
    matrixRecompute (foldl_keeps s.Submits State.judgeLock s.latchedEntries _ cleared fun _ _ hu => hu.judgeLock)
  unfold Machine.answerLatchClear
  repeat' split
  · exact all
  · exact refl s
  · exact refl s
  · exact one _
  · exact refl s

theorem answerEngage (p : List Byte) : s.Submits (answerEngage p s).1 := by
  have engage (roll : Bool) : s.Submits (s.engage roll).1 := by
    unfold State.engage
    repeat' split
    · exact refl s
    · exact taken (refl s)
    · exact taken (refl s)
    · exact refl s
  unfold Machine.answerEngage
  repeat' split
  · exact engage false
  · exact engage true
  · exact refl s
  · exact refl s

theorem answerConfirm (p : List Byte) : s.Submits (answerConfirm p s).1 := by
  have source : s.Submits s.confirmSource.1 := by
    unfold State.confirmSource
    split
    · exact refl s
    · exact (refl s).enterEngaged
  unfold Machine.answerConfirm
  split
  · split
    · exact source
    · split
      · exact source
      · exact refl s
    all_goals exact refl s
  · exact refl s

theorem answerDisengage (p : List Byte) : s.Submits (answerDisengage p s).1 := by
  unfold Machine.answerDisengage
  split
  · split
    · exact refl s
    · exact refl s
    · exact refl s
    · exact (refl s).clearFeedbackLost.enterIdlingDown
    all_goals exact (refl s).enterIdlingDown
  · exact refl s

/-! ### The requests of the governor -/

theorem answerGovern (p : List Byte) : s.Submits (answerGovern p s).1 := by
  have govern {m : GovMode} {x : Int} : s.Submits (s.govern m x) := by
    unfold State.govern
    repeat' split
    · exact (refl s).same (by simp)
    · exact judgePressureSensor ((refl s).same (by simp))
    · exact refl s
    · exact judgePressureSensor ((refl s).same (by simp))
  have requested (m : GovMode) (x : Int) : s.Submits (s.governRequest m x).1 := by
    unfold State.governRequest
    dsimp only
    split
    · exact refl s
    · split
      · exact refl s
      · split
        · exact govern
        · exact refl s
  unfold Machine.answerGovern
  repeat' split
  · exact refl s
  · exact requested _ _
  · exact refl s

theorem answerResume (p : List Byte) : s.Submits (answerResume p s).1 := by
  unfold Machine.answerResume
  repeat' split
  · exact refl s
  · exact refl s
  · exact (refl s).returnToOperator
  · exact refl s

/-! ### The requests of the tank and supply unit, and PARAM_SET -/

theorem configureTank {i : TankIx} {c : TankSettings} (h : s.Submits t) : s.Submits (t.configureTank i c) :=
  restartTank h

theorem answerTankSet (p : List Byte) : s.Submits (answerTankSet p s).1 := by
  have set (i : TankIx) (c : TankSettings) : s.Submits (s.tankSet i c).1 := by
    unfold State.tankSet
    dsimp only
    repeat' split
    case h_2 => exact (refl s).configureTank
    all_goals exact refl s
  unfold Machine.answerTankSet
  repeat' split
  · exact refl s
  · exact refl s
  · exact set _ _
  · exact refl s

theorem answerTankTable (p : List Byte) : s.Submits (answerTankTable p s).1 := by
  have set (i : TankIx) (table : List Breakpoint) : s.Submits (s.tankTable i table).1 := by
    unfold State.tankTable
    repeat' split
    case h_2 => exact (refl s).configureTank
    all_goals exact refl s
  unfold Machine.answerTankTable
  repeat' split
  case h_2.isFalse => exact set _ _
  all_goals exact refl s

theorem answerSource (p : List Byte) : s.Submits (answerSource p s).1 := by
  have engaged (w : WaterSource) : s.Submits (s.sourceEngaged w).1 := by
    unfold State.sourceEngaged
    repeat' split
    case h_3.isFalse | h_4.isFalse => exact (refl s).changeSource
    all_goals exact (refl s).same (by simp)
  have requested (w : WaterSource) : s.Submits (s.sourceRequest w).1 := by
    unfold State.sourceRequest
    repeat' split
    case h_5 | h_6 => exact engaged w
    case h_4.isTrue | h_4.isFalse => exact refl s
    all_goals exact (refl s).changeSource
  unfold Machine.answerSource
  repeat' split
  · exact refl s
  · exact requested _
  · exact refl s

theorem ownerActs {p : Param} (h : s.Submits t) : s.Submits (t.ownerActs p) := by
  cases p
  case idleRpm | rollCap => exact h.matrixRecompute
  case rollCeiling => exact matrixRecompute (h.same (by simp))
  case tempCut | tempReliefOn => exact h.judgeRelief.judgeOverheat
  case pSetMax | rpmSetMax => exact h.same (by simp [State.ownerActs])
  all_goals exact h

theorem answerParamSet (p : List Byte) : s.Submits (answerParamSet p s).1 := by
  have written {q : Param} {x : Int} : s.Submits (s.writeParam q x) := by
    unfold State.writeParam
    split
    · exact refl s
    · exact ownerActs (refl s)
  unfold Machine.answerParamSet State.paramSet
  repeat' split
  case h_2.isFalse.isFalse => exact written
  all_goals exact refl s

/-- Of the requests FETCH alone takes reports out of the queue, and STATUS alone clears its flag. -/
theorem answerKind (kind : Byte) (p : List Byte) (status : kind.toNat ≠ 0x01) (fetch : kind.toNat ≠ 0x02) :
    s.Submits (answerKind kind p s).1 := by
  generalize e : Machine.answerKind kind p = answer
  unfold Machine.answerKind at e
  split at e <;> subst e
  case h_1 code => exact absurd code status
  case h_2 code => exact absurd code fetch
  case h_5 => exact answerLockoutSet p
  case h_7 => exact answerLatchClear p
  case h_9 => exact answerEngage p
  case h_10 => exact answerConfirm p
  case h_11 => exact answerDisengage p
  case h_12 => exact answerGovern p
  case h_14 => exact answerResume p
  case h_18 => exact answerTankTable p
  case h_19 => exact answerTankSet p
  case h_20 => exact answerSource p
  case h_22 => exact answerParamSet p
  all_goals exact (refl s).same (by simp [answerUnknown])

end State.Submits

end Sys2Proof.Machine

/-! # Queue, reply list and store keep their form in every step (R150, R159, R160, R165) -/

namespace Sys2Proof.Machine

/-! ### The loading of the store, from an empty queue (R166, R167) -/

theorem readSection_grows {q : ReportQueue} (cells : List (Nat × StoreWord)) {l : Loading} (sec : Section)
    (h : q.Grows l.queue) : q.Grows (l.readSection cells sec).queue := by
  have word (b : Nat) {l : Loading} (p : WordVerdict × Nat) (h : q.Grows l.queue) :
      q.Grows (l.readWord (b + p.2) p.1).queue := by
    unfold Loading.readWord
    split
    · exact h.submit _
    · exact h
    · exact h
  have words (vs : List WordVerdict) :
      q.Grows (vs.zipIdx.foldl (fun l p => l.readWord (sectionBase sec + p.2) p.1) l).queue :=
    foldl_keeps (fun l : Loading => q.Grows l.queue) _ _ _ h fun _ p hl => word _ p hl
  unfold Loading.readSection
  dsimp only
  split
  · exact (words _).submit _
  · split
    · exact (words _).submit _
    · split
      · exact (words _).submit _
      · split
        · exact words _
        · exact words _

/-- The queue right after loading holds what the loading submitted. -/
theorem loadStore_grows (cells : List (Nat × StoreWord)) : ReportQueue.Grows ⟨[], false⟩ (loadStore cells).queue :=
  foldl_keeps (fun l : Loading => ReportQueue.Grows ⟨[], false⟩ l.queue) (Loading.readSection cells) Section.all _
    (.refl _) fun _ sec h => readSection_grows cells sec h

theorem empty_wf : ReportQueue.Wf ⟨[], false⟩ := ⟨Nat.zero_le _, .nil, nofun⟩

/-! ### The queue of reports (R159) -/

theorem kick_wf {s : State} (h : s.reports.Wf) : s.kick.reports.Wf := by
  unfold State.kick
  repeat' split
  case h_2 next => exact h.takeNext next
  all_goals exact h

theorem answerStatus_wf {s : State} (p : List Byte) (h : s.reports.Wf) : (answerStatus p s).1.reports.Wf := by
  unfold answerStatus
  repeat' split
  · exact h
  · exact h
  · exact h

theorem answerFetch_wf {s : State} (p : List Byte) (h : s.reports.Wf) : (answerFetch p s).1.reports.Wf := by
  unfold answerFetch
  split
  · exact h.takeUpTo _ _
  · exact h

theorem answerKind_wf {s : State} (kind : Byte) (p : List Byte) (h : s.reports.Wf) :
    (answerKind kind p s).1.reports.Wf := by
  by_cases status : kind.toNat = 0x01
  · simpa [answerKind, status] using answerStatus_wf p h
  · by_cases fetch : kind.toNat = 0x02
    · simpa [answerKind, fetch] using answerFetch_wf p h
    · exact (State.Submits.answerKind kind p status fetch).wf h

theorem takeFrame_wf {s : State} (kind tag : Byte) (p : List Byte) (h : s.reports.Wf) :
    (s.takeFrame kind tag p).reports.Wf := by
  rcases listening : s.listening
  · rwa [State.takeFrame, onFrame_lost _ _ _ listening]
  · rw [takeFrame_eq listening]
    exact answerKind_wf (s := s.framed) kind p h

/-! ### The reply list (R150) -/

theorem kick_replyLaw {s : State} (h : s.ReplyLaw) : s.kick.ReplyLaw := by
  rwa [State.ReplyLaw, kick_link]

/-- A frame is taken only while fewer than four replies wait, and adds one. -/
theorem takeFrame_replyLaw {s : State} (kind tag : Byte) (p : List Byte) (h : s.ReplyLaw) :
    (s.takeFrame kind tag p).ReplyLaw := by
  rcases listening : s.listening
  · rwa [State.takeFrame, onFrame_lost _ _ _ listening]
  · have room : s.link.replies.length < 4 := by
      by_contra full
      rw [listening_closed (.inr (.inl (not_lt.mp full)))] at listening
      cases listening
    rw [takeFrame_eq listening]
    dsimp only [State.ReplyLaw, LinkPort.answered]
    rw [answerKind_link]
    simpa [State.framed] using room

theorem endFrame_replyLaw {s : State} (f : TxFrame) (h : s.ReplyLaw) :
    State.ReplyLaw { s with link := s.link.endFrame f } := by
  have fewer : (s.link.endFrame f).replies.length ≤ s.link.replies.length := by
    unfold LinkPort.endFrame
    dsimp only
    split
    · exact (List.drop_sublist 1 _).length_le
    · exact le_rfl
  exact fewer.trans h

/-! ### The store's list of words (R165) -/

theorem writeBackDone_storeLaw {s : State} (found : Option StoreWord) (h : s.StoreLaw) :
    (s.writeBackDone found).StoreLaw := by
  unfold State.writeBackDone
  dsimp only
  repeat' split
  · exact h
  · exact writeCell_wf h _ _
  · exact writeCell_wf h _ _

theorem commitWordDone_storeLaw {s : State} (found : Option StoreWord) (h : s.StoreLaw) :
    (s.commitWordDone found).StoreLaw := by
  unfold State.commitWordDone
  dsimp only
  repeat' split
  · exact h
  all_goals exact writeCell_wf h _ _

/-- No event but the end of a written word moves a word of the store. -/
theorem eventOf_storeLaw {c : Instr} {f : State → State} (e : eventOf c = some f) {s : State} (h : s.StoreLaw) :
    (f s).StoreLaw := by
  cases c <;> cases e
  case writeBackWordDone found => exact writeBackDone_storeLaw found h
  case commitWordDone found => exact commitWordDone_storeLaw found h
  all_goals simpa [State.StoreLaw] using h

/-- No request moves a word of the store. -/
theorem answerKind_cells (kind : Byte) (p : List Byte) (s : State) :
    (answerKind kind p s).1.store.cells = s.store.cells := by
  generalize e : answerKind kind p = answer
  unfold answerKind at e
  split at e <;> subst e
  case h_24 =>
    unfold answerCommit
    repeat' split
    all_goals rfl
  all_goals simp [answerUnknown]

/-! ### Every command and every step -/

/-- A fact that the transmitter's choice, the receiver's bytes, a frame taken, a start-up, the end of a frame and the
event at hand each keep is kept by the command. -/
theorem exec_keeps_port {P : State → Prop} (kick : ∀ s, P s → P s.kick) (rx : ∀ s b, P s → P (s.setRx b))
    (frame : ∀ s kind tag p, P s → P (s.takeFrame kind tag p)) (start : ∀ s found, P s → P (s.startUp found))
    (ended : ∀ s f, P s → P { s with link := s.link.endFrame f }) {c : Instr}
    (event : ∀ f, eventOf c = some f → ∀ s, P s → P (f s)) {s t : State} (hs : P s) (h : exec c s = .next t) : P t := by
  have byte (b : Byte) : P (s.byteArrives b) := by
    unfold State.byteArrives
    split
    · exact receive_keeps rx frame _ _ hs
    · exact hs
  have discards (b : Byte) : P (s.frameDiscards b) := by
    unfold State.frameDiscards
    split
    · exact byte b
    · exact hs
  have ends : P s.transmitEnds := by
    rcases tx : s.link.tx with _ | f
    · rwa [transmitEnds_idle tx]
    · rw [transmitEnds_busy tx]
      split
      · exact start _ _ hs
      · exact ended s f hs
  rcases exec_cases c with ⟨f, e⟩ | ⟨kind, tag, p, e⟩ | ⟨found, e⟩ | ⟨b, e⟩ | ⟨b, e⟩ | e | e
  · cases (exec_event e s).symm.trans h
    exact kick _ (event f e s hs)
  · cases (exec_frame e s).symm.trans h
    exact frame _ _ _ _ hs
  · cases (e s).symm.trans h
    exact kick _ (start _ _ hs)
  · cases (e s).symm.trans h
    exact kick _ (byte b)
  · cases (e s).symm.trans h
    exact kick _ (discards b)
  · cases (e s).symm.trans h
    exact kick _ (rx _ _ hs)
  · cases (e s).symm.trans h
    exact kick _ ends

theorem exec_wf {c : Instr} {s t : State} (h : s.reports.Wf) (e : exec c s = .next t) : t.reports.Wf :=
  exec_keeps_port (P := fun s => s.reports.Wf) (fun _ => kick_wf) (fun _ _ h => h)
    (fun _ kind tag p => takeFrame_wf kind tag p) (fun _ _ _ => (loadStore_grows _).wf empty_wf) (fun _ _ h => h)
    (fun _ ef s h => ((State.Submits.refl s).event ef).wf h) h e

theorem exec_replyLaw {c : Instr} {s t : State} (h : s.ReplyLaw) (e : exec c s = .next t) : t.ReplyLaw :=
  exec_keeps_port (P := State.ReplyLaw) (fun _ => kick_replyLaw) (fun _ _ h => h)
    (fun _ kind tag p => takeFrame_replyLaw kind tag p) (fun _ _ _ => Nat.zero_le _) (fun _ f => endFrame_replyLaw f)
    (fun _ ef s h => by rwa [State.ReplyLaw, eventOf_link ef]) h e

theorem exec_storeLaw {c : Instr} {s t : State} (h : s.StoreLaw) (e : exec c s = .next t) : t.StoreLaw :=
  exec_keeps (P := State.StoreLaw) (fun _ _ _ h => h) (fun _ found h => writeCells_wf h found)
    (fun kind p s h => by rwa [State.StoreLaw, answerKind_cells]) (fun _ ef _ h => eventOf_storeLaw ef h) h e

/-- Settles O17: events and requests move the queue by submissions (`State.Submits`), FETCH and the transmitter by
deliveries, and both keep it in order; a frame is taken only while fewer than four replies wait; and every word goes
into the store by `writeCell`. -/
theorem queueRepliesAndStoreAreKept : Obligations.QueueRepliesAndStoreAreKept := by
  refine ⟨fun s t h e => ?_, fun s t h e => ?_, fun s t h e => ?_⟩
  · exact step_keeps (P := fun s => s.reports.Wf) (fun _ _ h => h) (fun _ _ _ h e => exec_wf h e) h e
  · exact step_keeps (P := State.ReplyLaw) (fun _ _ h => h) (fun _ _ _ h e => exec_replyLaw h e) h e
  · exact step_keeps (P := State.StoreLaw) (fun _ _ h => h) (fun _ _ _ h e => exec_storeLaw h e) h e

end Sys2Proof.Machine
